-- ==== Sys2Proof/Word.lean ====
section
/-! DEFINITION. The words of the Holtspar 7320: bytes, counters, wrapping numbers, timecodes, and total
tables of a fixed size with the three operations the model uses on them. -/

namespace Sys2Proof

/-- One byte of a cell, a home frame or a return message (chapter 13). -/
abbrev Byte := BitVec 8

/-- An event counter: 16 bits, stopping at 65,535 (section 0.6.5). -/
abbrev Counter := BitVec 16

/-- A picture number: 16 bits, wrapping (section 0.6.2, R46). -/
abbrev PicNum := BitVec 16

/-- A home frame number: 24 bits, wrapping (R130). -/
abbrev FrameNum := BitVec 24

/-- A value of the ms counter: 32 bits, wrapping (R22). -/
abbrev Millis := BitVec 32

/-- A stream identifier, 0 to 4095 (R1). -/
abbrev Stream := BitVec 12

/-- One sound sample: 24-bit two's complement (chapter 6). -/
abbrev Sample := BitVec 24

/-- One of the six coding contexts C0 to C5. -/
abbrev Ctx := Fin 6

/-- One of the sixteen mixer inputs I0 to I15. -/
abbrev InputNo := Fin 16

/-- One of the four buses, in the order PGM-L, PGM-R, AUX-A, AUX-B. -/
abbrev BusNo := Fin 4

/-- One of the eight fabric input lanes FI0 to FI7. -/
abbrev LaneNo := Fin 8

/-- The contexts in the order C0 to C5 in which the rules take them. -/
def allCtx : List Ctx := [0, 1, 2, 3, 4, 5]

/-- The mixer inputs in the order I0 to I15. -/
def allInputs : List InputNo := [0, 1, 2, 3, 4, 5, 6, 7, 8, 9, 10, 11, 12, 13, 14, 15]

/-- The buses in the order PGM-L, PGM-R, AUX-A, AUX-B. -/
def allBuses : List BusNo := [0, 1, 2, 3]

/-- A table with one entry replaced. -/
def setAt {α : Type} {n : Nat} (v : Vector α n) (k : Fin n) (a : α) : Vector α n :=
  v.set k.val a k.isLt

/-- A table with one entry changed by a function of its old value. -/
def modAt {α : Type} {n : Nat} (v : Vector α n) (k : Fin n) (f : α → α) : Vector α n :=
  setAt v k (f v[k])

/-- A table with every entry changed by one function. -/
def mapAll {α β : Type} {n : Nat} (f : α → β) (v : Vector α n) : Vector β n :=
  ⟨⟨v.toList.map f⟩, by simp⟩

/-- The table whose entry at each index is the function's value there. -/
def tabulate {α : Type} (n : Nat) (f : Fin n → α) : Vector α n :=
  ⟨⟨List.ofFn f⟩, by simp⟩

end Sys2Proof
end

