-- ==== Sys2Proof/Config.lean ====
section
/-! DEFINITION. What the manual leaves open and the model leaves free: choices between orders that the
manual says may be taken either way, and the one value it does not state. Each is a constant without a body, so no
proof can see which way it goes (log entries 1 to 4). -/

namespace Sys2Proof

/-- The parts of the 7320 that act on one block tick (R22): the mixer, the frame scheduler and the home link
controller's timers. -/
inductive TickPart where
  | mixer
  | scheduler
  | link
  deriving DecidableEq, Repr

/-- An order of the three parts at one block tick. -/
inductive TickOrder where
  | mixerSchedulerLink
  | mixerLinkScheduler
  | schedulerMixerLink
  | schedulerLinkMixer
  | linkMixerScheduler
  | linkSchedulerMixer
  deriving DecidableEq, Repr, Inhabited

/-- FREE (R95, R133: "Each of these may be taken before or after the scheduler's work"). The order of the
mixer, the scheduler and the link controller's timers at the n-th choice the part makes. -/
opaque Config.tickOrder : Nat → TickOrder

/-- FREE (R123: "the first of the following is taken"). Whether, where the silence timer and the drain limit
run out at one block tick, the silence timer's expiry is taken first. -/
opaque Config.silenceFirst : Nat → Bool

/-- FREE (R14: "They may come at the same moment, and either may be taken first"). Whether, where the
expected-boundary timer runs out at the sample of a block tick, the expiry is taken first. -/
opaque Config.boundaryFirst : Nat → Bool

/-- FREE (R177, R187: the manual states no layout for an answer whose command name, carried back, would make
a payload of more than 240 bytes). The payload of such an answer, from the payload the layout would give. -/
opaque Config.oversizeAnswer : List Byte → List Byte

end Sys2Proof
end

