-- ==== Sys2Proof/Syntax.lean ====
section
/-! DEFINITION. The commands of the Holtspar 7320: one constructor for each row of spec/opcode_table.json.
The first fifteen are events that reach the part from its pins, its clocks and its own timers and engine.
The other forty-three are the commands of the catalogue of section 12.5, with the parameters of their rules
in the sizes R188 gives, as the control cell carries them: a value out of range is representable, and the
command's meaning clamps it or refuses it. -/

namespace Sys2Proof

/-- A steering entry as carried and stored (R26, R188): match type, two operands, kind set with the note flag
in bit 7, action code. -/
structure SteerEntry where
  matchType : Byte
  first     : BitVec 16
  second    : BitVec 16
  kinds     : Byte
  action    : Byte
  deriving DecidableEq, Repr

/-- The two forms of SWAP_STEER, PRESET, TAKE and CUT_TO (R36, R101): sent to this unit's own number, with the
tag its answer carries back, or sent to unit ALL, taken and not answered. -/
inductive Dest where
  | unit (tag : Byte)
  | all
  deriving DecidableEq, Repr

/-- The commands and events of spec/opcode_table.json, in the table's order. -/
inductive Instr where
  /-- R7: PORN is released; bit n of the straps is set where USn is tied high. -/
  | powerOnReset (straps : BitVec 4)
  /-- R2: the bytes collected by a lane receiver from one cell start to the next. -/
  | cellArrival (lane : LaneNo) (bytes : List Byte)
  /-- R17: the expected-boundary timer runs out in LOCKED. -/
  | referenceLoss
  /-- R18: the expected-boundary timer runs out in FREE_RUN. -/
  | freeRunBoundary
  /-- R22: the 1 ms tick of the audio clock. -/
  | blockTick
  /-- R79: the input's consecutive-underrun count reaches 100. -/
  | audioInputLost (input : InputNo)
  /-- R145: the deadline of a queued picture passes. -/
  | pictureDeadline (ctx : Ctx) (picture : PicNum)
  /-- R143: the ack window of the awaiting entry with this frame number runs out. -/
  | ackWindowExpiry (frame : FrameNum)
  /-- R115: the answer window runs out. -/
  | hailAnswerWindowExpiry
  /-- R115: the retry gap runs out. -/
  | hailRetryGapExpiry
  /-- R121: the silence timer runs out. -/
  | silenceExpiry
  /-- R123: the drain limit runs out. -/
  | drainLimitExpiry
  /-- R52: the engine ends its operation with these coded bytes; their number is the coded size S. -/
  | codingCompletion (coded : List Byte)
  /-- R117: the bytes collected on HR for one return message. -/
  | returnMessageArrival (bytes : List Byte)
  /-- R11: the cell in transmission on FO has been sent. -/
  | foSendCompletion
  /-- R21 -/
  | setRate (tag rate : Byte)
  /-- R34 -/
  | loadSteer (tag first count : Byte) (entries : List SteerEntry)
  /-- R35 -/
  | readSteer (tag bank first count : Byte)
  /-- R31 -/
  | steerDefault (tag action : Byte)
  /-- R36 -/
  | swapSteer (dest : Dest)
  /-- R42 -/
  | startContext (tag ctx : Byte)
  /-- R44 -/
  | stopContext (tag ctx : Byte)
  /-- R72 -/
  | setContext (tag ctx weight : Byte) (minimum : BitVec 32) (boost bias slew marker : Byte)
      (latency : BitVec 16) (logMode : Byte)
  /-- R73 -/
  | setReservoir (tag ctx depth qMin qMax qStart : Byte)
  /-- R74 -/
  | loadCurve (tag ctx : Byte) (entries : List Byte)
  /-- R75 -/
  | setBudget (tag : Byte) (reserve : BitVec 16)
  /-- R81 -/
  | loadGain (tag first count : Byte) (entries : List (BitVec 16))
  /-- R82 -/
  | readGain (tag first count : Byte)
  /-- R89 -/
  | setFader (tag input target step : Byte)
  /-- R90 -/
  | setAfv (tag input link onIndex offIndex : Byte)
  /-- R92 -/
  | setSends (tag input pgmL pgmR auxA auxB : Byte)
  /-- R93 -/
  | setBus (tag bus master mute : Byte) (stream : BitVec 16)
  /-- R95 -/
  | setAudioSend (tag value : Byte)
  /-- R87 -/
  | readMeters (tag : Byte)
  /-- R102 -/
  | preset (dest : Dest) (unit ctx : Byte)
  /-- R103 -/
  | take (dest : Dest)
  /-- R103 -/
  | cutTo (dest : Dest) (unit ctx : Byte)
  /-- R109 -/
  | setTally (tag ctx : Byte) (stream : BitVec 16)
  /-- R113 -/
  | linkOpen (tag : Byte)
  /-- R122 -/
  | handover (tag : Byte)
  /-- R125 -/
  | linkClose (tag : Byte)
  /-- R126 -/
  | setLink (tag : Byte) (identity answerWindow retryGap silence ackWindow : BitVec 16)
  /-- R155 -/
  | readLog (tag : Byte)
  /-- R161 -/
  | markIn (tag ctx : Byte) (text : List Byte) (rating : Byte)
  /-- R162 -/
  | markOut (tag : Byte)
  /-- R163 -/
  | setClipMode (tag autoSend : Byte) (autoClip : Vector Byte 6)
  /-- R165 -/
  | label (tag index : Byte) (text : List Byte) (rating : Byte)
  /-- R166 -/
  | sendLabel (tag index : Byte)
  /-- R170 -/
  | voidClip (tag index : Byte)
  /-- R171 -/
  | setFence (tag position : Byte)
  /-- R172 -/
  | clearClips (tag : Byte)
  /-- R173 -/
  | readClip (tag index : Byte)
  /-- R178 -/
  | go (tag : Byte)
  /-- R178 -/
  | standby (tag : Byte)
  /-- R182 -/
  | resetUnit (tag : Byte)
  /-- R181 -/
  | readStatus (tag block index : Byte)
  /-- R180 -/
  | setNotices (tag : Byte) (classes : BitVec 16)
  /-- R180 -/
  | ackAttention (tag : Byte) (classes : BitVec 16)
  deriving DecidableEq, Repr

end Sys2Proof
end

