-- ==== Sys2Proof/WellFormed.lean ====
section
/-! DEFINITION. Which commands can occur: what the manual says of an operand beyond its type. Operands out of
a setting's range are well formed (the part clamps or refuses them); what is ruled out is an operand that no
cell could carry and no engine could deliver. -/

namespace Sys2Proof

/-- R52: the coded size S is from 64 to 4,194,304 bytes. -/
def codedSizeOk (coded : List Byte) : Bool :=
  64 ≤ coded.length && coded.length ≤ 4194304

/-- R188: a text is carried behind one length byte. -/
def textOk (text : List Byte) : Bool :=
  text.length ≤ 255

/-- R34, R81, R188: the parameters hold exactly as many entries as the count says. -/
def countOk (count : Byte) (n : Nat) : Bool :=
  n == count.toNat

/-- The well-formed commands: each check is the one its rule names. -/
def Instr.wellFormed : Instr → Bool
  | .powerOnReset _ => true
  | .cellArrival _ _ => true
  | .referenceLoss => true
  | .freeRunBoundary => true
  | .blockTick => true
  | .audioInputLost _ => true
  | .pictureDeadline _ _ => true
  | .ackWindowExpiry _ => true
  | .hailAnswerWindowExpiry => true
  | .hailRetryGapExpiry => true
  | .silenceExpiry => true
  | .drainLimitExpiry => true
  | .codingCompletion coded => codedSizeOk coded
  | .returnMessageArrival _ => true
  | .foSendCompletion => true
  | .setRate _ _ => true
  | .loadSteer _ _ count entries => countOk count entries.length
  | .readSteer _ _ _ _ => true
  | .steerDefault _ _ => true
  | .swapSteer _ => true
  | .startContext _ _ => true
  | .stopContext _ _ => true
  | .setContext _ _ _ _ _ _ _ _ _ _ => true
  | .setReservoir _ _ _ _ _ _ => true
  | .loadCurve _ _ entries => entries.length == 33
  | .setBudget _ _ => true
  | .loadGain _ _ count entries => countOk count entries.length
  | .readGain _ _ _ => true
  | .setFader _ _ _ _ => true
  | .setAfv _ _ _ _ _ => true
  | .setSends _ _ _ _ _ _ => true
  | .setBus _ _ _ _ _ => true
  | .setAudioSend _ _ => true
  | .readMeters _ => true
  | .preset _ _ _ => true
  | .take _ => true
  | .cutTo _ _ _ => true
  | .setTally _ _ _ => true
  | .linkOpen _ => true
  | .handover _ => true
  | .linkClose _ => true
  | .setLink _ _ _ _ _ _ => true
  | .readLog _ => true
  | .markIn _ _ text _ => textOk text
  | .markOut _ => true
  | .setClipMode _ _ _ => true
  | .label _ _ text _ => textOk text
  | .sendLabel _ _ => true
  | .voidClip _ _ => true
  | .setFence _ _ => true
  | .clearClips _ => true
  | .readClip _ _ => true
  | .go _ => true
  | .standby _ => true
  | .resetUnit _ => true
  | .readStatus _ _ _ => true
  | .setNotices _ _ => true
  | .ackAttention _ _ => true

end Sys2Proof
end

