-- ==== Sys2Proof/Decode.lean ====
section
/-! DEFINITION. Reading the bytes of a control payload as a command, and writing a command as such bytes
(R187, R188). opcode_table.json gives no row any bits, so decodeTableWord reads none. -/

namespace Sys2Proof

/-- The rows of spec/opcode_table.json carry no bits, so no word spells a command. -/
def decodeTableWord (_nbits _w : Nat) : Option Instr := none

/-- Two bytes, most significant first (chapter 13). -/
def be16 (x : BitVec 16) : List Byte := [x.extractLsb' 8 8, x.extractLsb' 0 8]

/-- Three bytes, most significant first. -/
def be24 (x : BitVec 24) : List Byte := [x.extractLsb' 16 8, x.extractLsb' 8 8, x.extractLsb' 0 8]

/-- Four bytes, most significant first. -/
def be32 (x : BitVec 32) : List Byte :=
  [x.extractLsb' 24 8, x.extractLsb' 16 8, x.extractLsb' 8 8, x.extractLsb' 0 8]

/-- Two bytes read most significant first. -/
def u16 (a b : Byte) : BitVec 16 := a ++ b

/-- Three bytes read most significant first. -/
def u24 (a b c : Byte) : BitVec 24 := (a ++ b : BitVec 16) ++ c

/-- Four bytes read most significant first. -/
def u32 (a b c d : Byte) : BitVec 32 := (a ++ b : BitVec 16) ++ (c ++ d : BitVec 16)

/-- The bytes of a text, one per character (R187). -/
def ascii (cs : List Char) : List Byte := cs.map (fun c => BitVec.ofNat 8 c.toNat)

/-- The command names of the catalogue of section 12.5. -/
inductive CommandName where
  | setRate
  | loadSteer
  | readSteer
  | steerDefault
  | swapSteer
  | startContext
  | stopContext
  | setContext
  | setReservoir
  | loadCurve
  | setBudget
  | loadGain
  | readGain
  | setFader
  | setAfv
  | setSends
  | setBus
  | setAudioSend
  | readMeters
  | preset
  | take
  | cutTo
  | setTally
  | linkOpen
  | handover
  | linkClose
  | setLink
  | readLog
  | markIn
  | markOut
  | setClipMode
  | label
  | sendLabel
  | voidClip
  | setFence
  | clearClips
  | readClip
  | go
  | standby
  | resetUnit
  | readStatus
  | setNotices
  | ackAttention
  deriving DecidableEq, Repr

/-- The catalogue of section 12.5, in its order. -/
def catalogue : List CommandName :=
  [.setRate, .loadSteer, .readSteer, .steerDefault, .swapSteer,
   .startContext, .stopContext, .setContext, .setReservoir, .loadCurve,
   .setBudget, .loadGain, .readGain, .setFader, .setAfv,
   .setSends, .setBus, .setAudioSend, .readMeters, .preset,
   .take, .cutTo, .setTally, .linkOpen, .handover,
   .linkClose, .setLink, .readLog, .markIn, .markOut,
   .setClipMode, .label, .sendLabel, .voidClip, .setFence,
   .clearClips, .readClip, .go, .standby, .resetUnit,
   .readStatus, .setNotices, .ackAttention]

/-- R187: a command name is carried as its own characters, in capitals and underscores, one byte each. -/
def nameBytes : CommandName → List Byte
  | .setRate => ascii ['S', 'E', 'T', '_', 'R', 'A', 'T', 'E']
  | .loadSteer => ascii ['L', 'O', 'A', 'D', '_', 'S', 'T', 'E', 'E', 'R']
  | .readSteer => ascii ['R', 'E', 'A', 'D', '_', 'S', 'T', 'E', 'E', 'R']
  | .steerDefault => ascii ['S', 'T', 'E', 'E', 'R', '_', 'D', 'E', 'F', 'A', 'U', 'L', 'T']
  | .swapSteer => ascii ['S', 'W', 'A', 'P', '_', 'S', 'T', 'E', 'E', 'R']
  | .startContext => ascii ['S', 'T', 'A', 'R', 'T', '_', 'C', 'O', 'N', 'T', 'E', 'X', 'T']
  | .stopContext => ascii ['S', 'T', 'O', 'P', '_', 'C', 'O', 'N', 'T', 'E', 'X', 'T']
  | .setContext => ascii ['S', 'E', 'T', '_', 'C', 'O', 'N', 'T', 'E', 'X', 'T']
  | .setReservoir => ascii ['S', 'E', 'T', '_', 'R', 'E', 'S', 'E', 'R', 'V', 'O', 'I', 'R']
  | .loadCurve => ascii ['L', 'O', 'A', 'D', '_', 'C', 'U', 'R', 'V', 'E']
  | .setBudget => ascii ['S', 'E', 'T', '_', 'B', 'U', 'D', 'G', 'E', 'T']
  | .loadGain => ascii ['L', 'O', 'A', 'D', '_', 'G', 'A', 'I', 'N']
  | .readGain => ascii ['R', 'E', 'A', 'D', '_', 'G', 'A', 'I', 'N']
  | .setFader => ascii ['S', 'E', 'T', '_', 'F', 'A', 'D', 'E', 'R']
  | .setAfv => ascii ['S', 'E', 'T', '_', 'A', 'F', 'V']
  | .setSends => ascii ['S', 'E', 'T', '_', 'S', 'E', 'N', 'D', 'S']
  | .setBus => ascii ['S', 'E', 'T', '_', 'B', 'U', 'S']
  | .setAudioSend => ascii ['S', 'E', 'T', '_', 'A', 'U', 'D', 'I', 'O', '_', 'S', 'E', 'N', 'D']
  | .readMeters => ascii ['R', 'E', 'A', 'D', '_', 'M', 'E', 'T', 'E', 'R', 'S']
  | .preset => ascii ['P', 'R', 'E', 'S', 'E', 'T']
  | .take => ascii ['T', 'A', 'K', 'E']
  | .cutTo => ascii ['C', 'U', 'T', '_', 'T', 'O']
  | .setTally => ascii ['S', 'E', 'T', '_', 'T', 'A', 'L', 'L', 'Y']
  | .linkOpen => ascii ['L', 'I', 'N', 'K', '_', 'O', 'P', 'E', 'N']
  | .handover => ascii ['H', 'A', 'N', 'D', 'O', 'V', 'E', 'R']
  | .linkClose => ascii ['L', 'I', 'N', 'K', '_', 'C', 'L', 'O', 'S', 'E']
  | .setLink => ascii ['S', 'E', 'T', '_', 'L', 'I', 'N', 'K']
  | .readLog => ascii ['R', 'E', 'A', 'D', '_', 'L', 'O', 'G']
  | .markIn => ascii ['M', 'A', 'R', 'K', '_', 'I', 'N']
  | .markOut => ascii ['M', 'A', 'R', 'K', '_', 'O', 'U', 'T']
  | .setClipMode => ascii ['S', 'E', 'T', '_', 'C', 'L', 'I', 'P', '_', 'M', 'O', 'D', 'E']
  | .label => ascii ['L', 'A', 'B', 'E', 'L']
  | .sendLabel => ascii ['S', 'E', 'N', 'D', '_', 'L', 'A', 'B', 'E', 'L']
  | .voidClip => ascii ['V', 'O', 'I', 'D', '_', 'C', 'L', 'I', 'P']
  | .setFence => ascii ['S', 'E', 'T', '_', 'F', 'E', 'N', 'C', 'E']
  | .clearClips => ascii ['C', 'L', 'E', 'A', 'R', '_', 'C', 'L', 'I', 'P', 'S']
  | .readClip => ascii ['R', 'E', 'A', 'D', '_', 'C', 'L', 'I', 'P']
  | .go => ascii ['G', 'O']
  | .standby => ascii ['S', 'T', 'A', 'N', 'D', 'B', 'Y']
  | .resetUnit => ascii ['R', 'E', 'S', 'E', 'T', '_', 'U', 'N', 'I', 'T']
  | .readStatus => ascii ['R', 'E', 'A', 'D', '_', 'S', 'T', 'A', 'T', 'U', 'S']
  | .setNotices => ascii ['S', 'E', 'T', '_', 'N', 'O', 'T', 'I', 'C', 'E', 'S']
  | .ackAttention => ascii ['A', 'C', 'K', '_', 'A', 'T', 'T', 'E', 'N', 'T', 'I', 'O', 'N']

/-- R187: the command a name's bytes match, if they match one of the catalogue. -/
def commandNamed (bs : List Byte) : Option CommandName :=
  catalogue.find? (fun n => nameBytes n == bs)

/-- A control payload as framed (R187): tag, name as carried, parameters. -/
structure ControlFrame where
  tag    : Byte
  name   : List Byte
  params : List Byte
  deriving DecidableEq, Repr

/-- R175, R187: a payload that ends before byte 2 + N, or that has N = 0, holds no readable tag and name. -/
def readFrame : List Byte → Option ControlFrame
  | tag :: n :: rest =>
    if n = 0 then none
    else if rest.length < n.toNat then none
    else some ⟨tag, rest.take n.toNat, rest.drop n.toNat⟩
  | _ => none

/-- R188: steering entries of 7 bytes each, to the last byte. -/
def readEntries : List Byte → Option (List SteerEntry)
  | [] => some []
  | m :: a1 :: a0 :: b1 :: b0 :: k :: act :: rest =>
    match readEntries rest with
    | some es => some (⟨m, u16 a1 a0, u16 b1 b0, k, act⟩ :: es)
    | none => none
  | _ => none

/-- R188: 16-bit values, to the last byte. -/
def readHalves : List Byte → Option (List (BitVec 16))
  | [] => some []
  | a :: b :: rest =>
    match readHalves rest with
    | some es => some (u16 a b :: es)
    | none => none
  | _ => none

/-- A steering entry's 7 bytes (R188). -/
def entryBytes (e : SteerEntry) : List Byte :=
  [e.matchType] ++ be16 e.first ++ be16 e.second ++ [e.kinds, e.action]

/-- R188: a text behind its length byte, and the rating after it. -/
def readTextRating : List Byte → Option (List Byte × Byte)
  | n :: rest =>
    match rest.drop n.toNat with
    | [rating] => some (rest.take n.toNat, rating)
    | _ => none
  | [] => none

/-- R176, R188: the command whose name, destination, tag and parameters these are, where the parameters have
the number and size its layout gives. -/
def decodeParams (name : CommandName) (dest : Dest) (tag : Byte) (ps : List Byte) : Option Instr :=
  match name with
  | .setRate => match ps with
    | [r] => some (.setRate tag r)
    | _ => none
  | .loadSteer => match ps with
    | f :: n :: rest => match readEntries rest with
      | some es => if countOk n es.length then some (.loadSteer tag f n es) else none
      | none => none
    | _ => none
  | .readSteer => match ps with
    | [b, f, n] => some (.readSteer tag b f n)
    | _ => none
  | .steerDefault => match ps with
    | [a] => some (.steerDefault tag a)
    | _ => none
  | .swapSteer => match ps with
    | [] => some (.swapSteer dest)
    | _ => none
  | .startContext => match ps with
    | [k] => some (.startContext tag k)
    | _ => none
  | .stopContext => match ps with
    | [k] => some (.stopContext tag k)
    | _ => none
  | .setContext => match ps with
    | [k, w, m3, m2, m1, m0, boost, bias, slew, marker, l1, l0, mode] =>
      some (.setContext tag k w (u32 m3 m2 m1 m0) boost bias slew marker (u16 l1 l0) mode)
    | _ => none
  | .setReservoir => match ps with
    | [k, d, lo, hi, st] => some (.setReservoir tag k d lo hi st)
    | _ => none
  | .loadCurve => match ps with
    | k :: es => if es.length == 33 then some (.loadCurve tag k es) else none
    | _ => none
  | .setBudget => match ps with
    | [a, b] => some (.setBudget tag (u16 a b))
    | _ => none
  | .loadGain => match ps with
    | f :: n :: rest => match readHalves rest with
      | some es => if countOk n es.length then some (.loadGain tag f n es) else none
      | none => none
    | _ => none
  | .readGain => match ps with
    | [f, n] => some (.readGain tag f n)
    | _ => none
  | .setFader => match ps with
    | [i, t, r] => some (.setFader tag i t r)
    | _ => none
  | .setAfv => match ps with
    | [i, l, on, off] => some (.setAfv tag i l on off)
    | _ => none
  | .setSends => match ps with
    | [i, a, b, c, d] => some (.setSends tag i a b c d)
    | _ => none
  | .setBus => match ps with
    | [b, m, mute, s1, s0] => some (.setBus tag b m mute (u16 s1 s0))
    | _ => none
  | .setAudioSend => match ps with
    | [v] => some (.setAudioSend tag v)
    | _ => none
  | .readMeters => match ps with
    | [] => some (.readMeters tag)
    | _ => none
  | .preset => match ps with
    | [u, k] => some (.preset dest u k)
    | _ => none
  | .take => match ps with
    | [] => some (.take dest)
    | _ => none
  | .cutTo => match ps with
    | [u, k] => some (.cutTo dest u k)
    | _ => none
  | .setTally => match ps with
    | [k, s1, s0] => some (.setTally tag k (u16 s1 s0))
    | _ => none
  | .linkOpen => match ps with
    | [] => some (.linkOpen tag)
    | _ => none
  | .handover => match ps with
    | [] => some (.handover tag)
    | _ => none
  | .linkClose => match ps with
    | [] => some (.linkClose tag)
    | _ => none
  | .setLink => match ps with
    | [v1, v0, a1, a0, r1, r0, s1, s0, k1, k0] =>
      some (.setLink tag (u16 v1 v0) (u16 a1 a0) (u16 r1 r0) (u16 s1 s0) (u16 k1 k0))
    | _ => none
  | .readLog => match ps with
    | [] => some (.readLog tag)
    | _ => none
  | .markIn => match ps with
    | k :: rest => match readTextRating rest with
      | some (text, rating) => some (.markIn tag k text rating)
      | none => none
    | _ => none
  | .markOut => match ps with
    | [] => some (.markOut tag)
    | _ => none
  | .setClipMode => match ps with
    | [a, c0, c1, c2, c3, c4, c5] => some (.setClipMode tag a #v[c0, c1, c2, c3, c4, c5])
    | _ => none
  | .label => match ps with
    | i :: rest => match readTextRating rest with
      | some (text, rating) => some (.label tag i text rating)
      | none => none
    | _ => none
  | .sendLabel => match ps with
    | [i] => some (.sendLabel tag i)
    | _ => none
  | .voidClip => match ps with
    | [i] => some (.voidClip tag i)
    | _ => none
  | .setFence => match ps with
    | [n] => some (.setFence tag n)
    | _ => none
  | .clearClips => match ps with
    | [] => some (.clearClips tag)
    | _ => none
  | .readClip => match ps with
    | [i] => some (.readClip tag i)
    | _ => none
  | .go => match ps with
    | [] => some (.go tag)
    | _ => none
  | .standby => match ps with
    | [] => some (.standby tag)
    | _ => none
  | .resetUnit => match ps with
    | [] => some (.resetUnit tag)
    | _ => none
  | .readStatus => match ps with
    | [b, i] => some (.readStatus tag b i)
    | _ => none
  | .setNotices => match ps with
    | [a, b] => some (.setNotices tag (u16 a b))
    | _ => none
  | .ackAttention => match ps with
    | [a, b] => some (.ackAttention tag (u16 a b))
    | _ => none

/-- R175: the four commands that may be sent to ALL. -/
def mayBeGlobal : CommandName → Bool
  | .swapSteer | .preset | .take | .cutTo => true
  | _ => false

/-- The tag a destination carries; a global command's tag is not read, and is written as 0. -/
def Dest.tag : Dest → Byte
  | .unit t => t
  | .all => 0

/-- The name, tag and parameter bytes of a command of the catalogue; an event has none. -/
def encodeParams : Instr → Option (CommandName × Byte × List Byte)
  | .powerOnReset _ => none
  | .cellArrival _ _ => none
  | .referenceLoss => none
  | .freeRunBoundary => none
  | .blockTick => none
  | .audioInputLost _ => none
  | .pictureDeadline _ _ => none
  | .ackWindowExpiry _ => none
  | .hailAnswerWindowExpiry => none
  | .hailRetryGapExpiry => none
  | .silenceExpiry => none
  | .drainLimitExpiry => none
  | .codingCompletion _ => none
  | .returnMessageArrival _ => none
  | .foSendCompletion => none
  | .setRate t r => some (.setRate, t, [r])
  | .loadSteer t f n es => some (.loadSteer, t, [f, n] ++ es.flatMap entryBytes)
  | .readSteer t b f n => some (.readSteer, t, [b, f, n])
  | .steerDefault t a => some (.steerDefault, t, [a])
  | .swapSteer d => some (.swapSteer, d.tag, [])
  | .startContext t k => some (.startContext, t, [k])
  | .stopContext t k => some (.stopContext, t, [k])
  | .setContext t k w m boost bias slew marker l mode =>
    some (.setContext, t, [k, w] ++ be32 m ++ [boost, bias, slew, marker] ++ be16 l ++ [mode])
  | .setReservoir t k d lo hi st => some (.setReservoir, t, [k, d, lo, hi, st])
  | .loadCurve t k es => some (.loadCurve, t, k :: es)
  | .setBudget t r => some (.setBudget, t, be16 r)
  | .loadGain t f n es => some (.loadGain, t, [f, n] ++ es.flatMap be16)
  | .readGain t f n => some (.readGain, t, [f, n])
  | .setFader t i x r => some (.setFader, t, [i, x, r])
  | .setAfv t i l on off => some (.setAfv, t, [i, l, on, off])
  | .setSends t i a b c d => some (.setSends, t, [i, a, b, c, d])
  | .setBus t b m mute s => some (.setBus, t, [b, m, mute] ++ be16 s)
  | .setAudioSend t v => some (.setAudioSend, t, [v])
  | .readMeters t => some (.readMeters, t, [])
  | .preset d u k => some (.preset, d.tag, [u, k])
  | .take d => some (.take, d.tag, [])
  | .cutTo d u k => some (.cutTo, d.tag, [u, k])
  | .setTally t k s => some (.setTally, t, k :: be16 s)
  | .linkOpen t => some (.linkOpen, t, [])
  | .handover t => some (.handover, t, [])
  | .linkClose t => some (.linkClose, t, [])
  | .setLink t v a r s k => some (.setLink, t, be16 v ++ be16 a ++ be16 r ++ be16 s ++ be16 k)
  | .readLog t => some (.readLog, t, [])
  | .markIn t k text rating => some (.markIn, t, [k, BitVec.ofNat 8 text.length] ++ text ++ [rating])
  | .markOut t => some (.markOut, t, [])
  | .setClipMode t a cs => some (.setClipMode, t, a :: cs.toList)
  | .label t i text rating => some (.label, t, [i, BitVec.ofNat 8 text.length] ++ text ++ [rating])
  | .sendLabel t i => some (.sendLabel, t, [i])
  | .voidClip t i => some (.voidClip, t, [i])
  | .setFence t n => some (.setFence, t, [n])
  | .clearClips t => some (.clearClips, t, [])
  | .readClip t i => some (.readClip, t, [i])
  | .go t => some (.go, t, [])
  | .standby t => some (.standby, t, [])
  | .resetUnit t => some (.resetUnit, t, [])
  | .readStatus t b i => some (.readStatus, t, [b, i])
  | .setNotices t m => some (.setNotices, t, be16 m)
  | .ackAttention t m => some (.ackAttention, t, be16 m)

/-- The destination of a command: its own tag for an addressed one, ALL for a global one. -/
def Instr.dest : Instr → Dest
  | .swapSteer d => d
  | .preset d _ _ => d
  | .take d => d
  | .cutTo d _ _ => d
  | i => match encodeParams i with
    | some (_, t, _) => .unit t
    | none => .all

/-- R187: the control payload of a command of the catalogue. -/
def encodeControl (i : Instr) : Option (List Byte) :=
  match encodeParams i with
  | some (name, tag, ps) =>
    some ([tag, BitVec.ofNat 8 (nameBytes name).length] ++ nameBytes name ++ ps)
  | none => none

/-- R175, R176, R187: the command a control payload holds for a destination: its framing is readable, its name
is one of the catalogue, and its parameters have the number and size its layout gives. -/
def decodeControl (dest : Byte → Dest) (payload : List Byte) : Option Instr :=
  match readFrame payload with
  | some fr =>
    match commandNamed fr.name with
    | some n => decodeParams n (dest fr.tag) fr.tag fr.params
    | none => none
  | none => none

end Sys2Proof
end

