-- ==== Sys2Proof/Machine/Blocks.lean ====
section
/-! DEFINITION. The state of one Holtspar 7320: a structure for each block of section 0.3, and their sum Chip.
Plain data throughout. -/

namespace Sys2Proof.Machine

/-! ## Values shared by the blocks -/

/-- A timecode: hours, minutes, seconds and picture (section 2.5). -/
structure Timecode where
  (hours minutes seconds picture : Nat)
  deriving DecidableEq, Repr

/-- The four picture rates (section 0.6.1). -/
inductive Rate where
  | r25
  | r30
  | r50
  | r60
  deriving DecidableEq, Repr

/-- The part modes (R178). -/
inductive PartMode where
  | standby
  | run
  deriving DecidableEq, Repr

/-- The eight kinds of cell (R1). -/
inductive CellKind where
  | video
  | audio
  | data
  | control
  | reference
  | answer
  | notice
  | tally
  deriving DecidableEq, Repr

/-- The fifteen attention classes, in the order of the table of section 12.3. -/
inductive AttClass where
  | linkState
  | linkFailed
  | capacity
  | takeDone
  | takeDegraded
  | pictureShed
  | pictureLost
  | clipDelivered
  | clipTrouble
  | logFull
  | refLost
  | audioClip
  | audioInputLost
  | steerNote
  | steerSwapped
  deriving DecidableEq, Repr

/-! ## Chapter 1: lane receivers and the output lane -/

/-- An input lane's four counters (R12). -/
structure Lane where
  (accepted checkErrors foreign malformed : Counter)
  deriving DecidableEq, Repr

/-- Where a cell of the output lane comes from; each source keeps its own sequence count (R11). -/
inductive OutSource where
  | report
  | auxA
  | auxB
  | tally (ctx : Ctx)
  deriving DecidableEq, Repr

/-- A cell waiting for FO, before its sequence and check are filled in (R11). gap is how many cells of its AUX bus were
dropped just before it, the blocks its listener misses there, 0 for every other source; no byte of the cell carries it
(R8, R96, log entry 32). -/
structure OutCell where
  source  : OutSource
  kind    : CellKind
  stream  : Stream
  payload : List Byte
  gap     : Byte := 0
  deriving DecidableEq, Repr

/-- The cell in transmission on FO. It keeps its place in the output queue until its send completion (R11),
but for one that was under way when a unit reset emptied the queue (R12). -/
structure TxCell where
  cell     : OutCell
  bytes    : List Byte
  inQueue  : Bool
  deriving DecidableEq, Repr

/-- A tally cell in its context's place of the tally hold, with the time it was placed (R9). -/
structure HeldTally where
  ctx      : Ctx
  cell     : OutCell
  placedAt : Millis
  deriving DecidableEq, Repr

/-- The output lane (section 1.5): the cells of the output queue that are not in transmission, oldest first;
the cell in transmission; the tally hold, earliest placed first; the sequence counts; the cells of each AUX bus
dropped since its last cell that joined the queue, absent while none has joined (R96, log entry 32); the counters. -/
structure OutputLane where
  queue  : List OutCell
  tx     : Option TxCell
  hold   : List HeldTally
  (seqReport seqAuxA seqAuxB : Byte)
  seqTally : Vector Byte 6
  (droppedA droppedB : Option Byte)
  (auxSent tallySent reportsSent auxDrops tallyReplaced : Counter)
  deriving DecidableEq, Repr

/-! ## Chapter 2: timebase -/

/-- The timebase states (section 2.4). -/
inductive TimebaseState where
  | freeRun
  | locked
  deriving DecidableEq, Repr

/-- The timebase. The expected-boundary timer is its length and the samples it has counted (R15). subTick is
the model's own: the samples of the 48 kHz clock since the last block tick, 0 to 47 (log entry 6). -/
structure Timebase where
  state    : TimebaseState
  timecode : Timecode
  rate     : Rate
  elapsed  : Nat
  length   : Nat
  subTick  : Nat
  ms       : Millis
  (refsTaken rateMismatches invalidRefs refLosses jumps : Counter)
  deriving DecidableEq, Repr

/-! ## Chapter 3: steering -/

/-- The default action (R31). -/
inductive SteerDefault where
  | discard
  | pass
  deriving DecidableEq, Repr

/-- The last-note record (R32). -/
structure LastNote where
  entry    : Fin 64
  stream   : Stream
  lane     : LaneNo
  timecode : Timecode
  deriving DecidableEq, Repr

/-- The steering unit. -/
structure Steering where
  (bank0 bank1 : Vector SteerEntry 64)
  activeBank  : Fin 2
  pendingSwap : Bool
  default     : SteerDefault
  lastNote    : Option LastNote
  (decisions noMatch kindMismatch discards notes swaps : Counter)
  deriving DecidableEq, Repr

/-! ## Chapters 4 and 10: picture records, gatherers, engine -/

/-- The context states (R41). -/
inductive CtxState where
  | stopped
  | starting
  | running
  | draining
  deriving DecidableEq, Repr

/-- The fields of a picture record that its opening sets (R47, R148). The stage of a record is the structure
that holds it: Gathering, Ready, Coding or Queued; a RESOLVED record is held nowhere (chapter 10). -/
structure Picture where
  ctx      : Ctx
  number   : PicNum
  timecode : Timecode
  startMs  : Millis
  marker   : Byte
  damaged  : Bool
  deriving DecidableEq, Repr

/-- A gathering record (section 4.3): with the lane and stream it is gathered from, the sequence expected
next, the fed flag and the slice payload in the picture memory. -/
structure Gathering where
  picture  : Picture
  lane     : LaneNo
  stream   : Stream
  expected : Byte
  fed      : Bool
  memory   : List Byte
  deriving DecidableEq, Repr

/-- A ready record (R50), with its picture memory. -/
structure Ready where
  picture : Picture
  memory  : List Byte
  deriving DecidableEq, Repr

/-- The record in the engine (R52): with q used and the programme flag sampled at its grant. -/
structure Coding where
  picture   : Picture
  memory    : List Byte
  qUsed     : Nat
  programme : Bool
  deriving DecidableEq, Repr

/-- A record in a video queue (R140, R148): coded size S, send size E, fragment count n, the fragment counts,
the late flag, the highest send count, and the coded bytes, kept until the record leaves. -/
structure Queued where
  picture      : Picture
  qUsed        : Nat
  programme    : Bool
  completionMs : Millis
  size         : Nat
  sendSize     : Nat
  fragments    : Nat
  deadline     : Millis
  (sent delivered lost withdrawn outstanding : Nat)
  late         : Bool
  highestSend  : Nat
  coded        : List Byte
  deriving DecidableEq, Repr

/-- The reasons of a shed (R148). -/
inductive ShedReason where
  | overrun
  | stopped
  | reservoir
  | queueFull
  | late
  deriving DecidableEq, Repr

/-- The outcomes of a picture (R148). -/
inductive PicOutcome where
  | delivered
  | shed (reason : ShedReason)
  | lost
  deriving DecidableEq, Repr

/-- One context at the gatherer (chapter 4), with its seven counters (R58). R156 says that the gatherer counts sheds
STOPPED too, and R58 gives it no such counter: there is none (log entry 37, a choice). -/
structure Context where
  state      : CtxState
  gathering  : Option Gathering
  ready      : Option Ready
  nextNumber : PicNum
  (slices notRunning orphans completed damagedPictures staleGathers overruns : Counter)
  deriving DecidableEq, Repr

/-- The coding engine and its arbiter (section 4.4). -/
structure Engine where
  op      : Option Coding
  pointer : Ctx
  (grants programmeGrants completions abandoned : Counter)
  deriving DecidableEq, Repr

/-! ## Chapter 5: budget divider and rate controller -/

/-- The log modes (R153). -/
inductive LogMode where
  | none
  | trouble
  | all
  deriving DecidableEq, Repr

/-- The first group of a context's settings (section 5.11, R72). -/
structure CtxSettings where
  (weight minimum boost bias slew : Nat)
  marker  : Byte
  latency : Nat
  logMode : LogMode
  deriving DecidableEq, Repr

/-- The second group but for the curve (section 5.11, R73). -/
structure Shape where
  (depth qMin qMax qStart : Nat)
  deriving DecidableEq, Repr

/-- One context at the rate controller: T, R, F, q, its settings, the curve and three counters. -/
structure RateState where
  (target size fill q : Nat)
  settings : CtxSettings
  shape    : Shape
  curve    : Vector Nat 33
  (accepted reservoirSheds queueFullSheds : Counter)
  deriving DecidableEq, Repr

/-- The budget divider: C, B, A, L, the label reserve, the granted minimums and targets, the idle bytes. -/
structure Budget where
  (capacity bytes audio label reserve : Nat)
  (minimums targets : Vector Nat 6)
  idle : Nat
  shortfalls : Counter
  deriving DecidableEq, Repr

/-! ## Chapter 6: sound mixer -/

/-- An audio-follow-video link (R90). -/
structure AfvLink where
  ctx : Ctx
  (onIndex offIndex : Nat)
  deriving DecidableEq, Repr

/-- A fader: current index f, target index t, ramp start and step r (R88). -/
structure Fader where
  (index target start step : Nat)
  deriving DecidableEq, Repr

/-- A mixer input (sections 6.1 to 6.5). A block is its 48 samples in order. -/
structure Input where
  active    : Bool
  buffer    : List (List Sample)
  underrunRun : Nat
  fader     : Fader
  sends     : Vector Nat 4
  link      : Option AfvLink
  (blocksTaken lengthErrors overruns underruns inputClips sendClips : Counter)
  deriving DecidableEq, Repr

/-- A bus (sections 6.3 and 6.6): master index, mute, peak meter and its bus-clips counter. -/
structure Bus where
  master : Nat
  mute   : Bool
  meter  : Nat
  clips  : Counter
  deriving DecidableEq, Repr

/-- The frame being built (R94): the timecode and ms counter of its first block, and the PGM-L and PGM-R
samples of the blocks held, in the order they were mixed. -/
structure FrameBuild where
  timecode : Timecode
  ms       : Millis
  blocks   : List (List Sample × List Sample)
  deriving DecidableEq, Repr

/-- The sound mixer. -/
structure Mixer where
  inputs : Vector Input 16
  buses  : Vector Bus 4
  (auxAStream auxBStream : Stream)
  audioSend : Bool
  gain : Vector (BitVec 16) 256
  blockCounter : Nat
  build : Option FrameBuild
  (framesFormed framesDiscarded inputsLost : Counter)
  deriving DecidableEq, Repr

/-! ## Chapter 7: programme selector -/

/-- The pending operation (R100). -/
inductive PendingOp where
  | none
  | swap (lostPreset : Bool)
  | cut (target : Option Ctx)
  deriving DecidableEq, Repr

/-- The programme selector. An absent pending preset is none; a pending preset of no context is some none. -/
structure Selector where
  programme     : Option Ctx
  preset        : Option Ctx
  pendingOp     : PendingOp
  pendingPreset : Option (Option Ctx)
  tallyStream   : Vector Stream 6
  (applied degraded programmeStops refusedGlobals tallyOffered : Counter)
  deriving DecidableEq, Repr

/-! ## Chapter 8: home link controller -/

/-- The link states (R112). -/
inductive LinkState where
  | down
  | hailing
  | up
  | lost
  | draining
  | held
  deriving DecidableEq, Repr

/-- The phases of a hail attempt (R114, R115). -/
inductive HailPhase where
  | window
  | gap
  deriving DecidableEq, Repr

/-- The link settings (section 8.7). -/
structure LinkSettings where
  identity : BitVec 16
  (answerWindow retryGap silence ackWindow : Nat)
  deriving DecidableEq, Repr

/-- The home link controller. A timer is absent while stopped, and otherwise the block ticks it still has to
count (R23). The credit rate is decided by the state (R112) and is computed from it. -/
structure Link where
  state   : LinkState
  attempt : Nat
  phase   : Option HailPhase
  capacity : Nat
  credit  : Nat
  (answerWindow retryGap silence drainLimit : Option Nat)
  settings : LinkSettings
  (stateChanges hailAttempts hailsFailed validMessages checkErrors malformed identityMismatches
    strayMessages capacityMessages capacityClamps silenceExpiries drainsCompleted drainsCutShort
    audioDiscarded : Counter)
  deriving DecidableEq, Repr

/-! ## Chapter 9: frame scheduler -/

/-- An AUDIO frame before its sending (R94): its stamp and its 1,152 payload bytes. -/
structure AudioFrame where
  timecode : Timecode
  ms       : Millis
  payload  : List Byte
  deriving DecidableEq, Repr

/-- A label frame in the label queue (R138): the clip's index and version, its source context, and the 64
payload bytes as they stood when it joined or was last replaced (R129). -/
structure LabelFrame where
  clip    : Nat
  version : Byte
  ctx     : Ctx
  payload : List Byte
  deriving DecidableEq, Repr

/-- A cell in the pass queue (R139). -/
structure PassCell where
  stream  : Stream
  payload : List Byte
  deriving DecidableEq, Repr

/-- What an acknowledged frame carries (R141). -/
inductive Origin where
  | video (ctx : Ctx) (picture : PicNum) (fragment : Nat)
  | label (clip : Nat) (version : Byte)
  deriving DecidableEq, Repr

/-- An entry of the awaiting list or the resend queue (R141), with the frame's bytes, which a resend carries
again (R184). The ack timer is absent in the resend queue. -/
structure Entry where
  frame     : FrameNum
  origin    : Origin
  sendCount : Nat
  timer     : Option Nat
  bytes     : List Byte
  deriving DecidableEq, Repr

/-- The frame scheduler. -/
structure Scheduler where
  audioQueue : List AudioFrame
  labelQueue : List LabelFrame
  passQueue  : List PassCell
  videoQueue : Vector (List Queued) 6
  allowance  : Vector Nat 6
  pointer    : Ctx
  awaiting   : List Entry
  resend     : List Entry
  nextFrame  : FrameNum
  (audioSent labelSent videoSent passSent resends audioDrops labelQueueFull passDrops matchedAcks strayAcks
    resendsScheduled entriesLost fragmentsWithdrawn : Counter)
  deriving DecidableEq, Repr

/-! ## Chapter 10: delivery accounting -/

/-- An entry of the send-event log: of a picture (R153) or of a label (R154). -/
inductive LogEntry where
  | picture (outcome : PicOutcome) (picture : Picture) (qUsed : Option Nat) (resolvedAt : Millis)
      (highestSend : Nat)
  | label (delivered : Bool) (clip : Nat) (clipId : BitVec 16) (version : Byte) (timecode : Timecode)
      (resolvedAt : Millis) (highestSend : Nat)
  deriving DecidableEq, Repr

/-- A context's counters at delivery accounting (R156). -/
structure Outcomes where
  (delivered shed late lost : Counter)
  deriving DecidableEq, Repr

/-- Delivery accounting. -/
structure Accounting where
  lowWater : Vector PicNum 6
  log      : List LogEntry
  outcomes : Vector Outcomes 6
  (entriesWritten logFullRefusals : Counter)
  deriving DecidableEq, Repr

/-! ## Chapter 11: clip log -/

/-- The states of an entry that is not FREE (R158). -/
inductive ClipState where
  | opened
  | closed
  | queued
  | awaiting
  | labelled
  | delivered
  | void
  deriving DecidableEq, Repr

/-- A clip record (R158). An entry in state FREE holds none. -/
structure Clip where
  id          : BitVec 16
  state       : ClipState
  sourceUnit  : Fin 4
  ctx         : Ctx
  inPicture   : PicNum
  inTimecode  : Timecode
  outPicture  : Option PicNum
  outTimecode : Option Timecode
  text        : List Byte
  rating      : Nat
  version     : Byte
  (auto gap empty labelLost : Bool)
  parent      : Option (BitVec 16)
  done        : Option Bool
  deriving DecidableEq, Repr

/-- The clip log. The mark stack is held top first. -/
structure ClipLog where
  table    : Vector (Option Clip) 128
  write    : Nat
  fence    : Nat
  stack    : List Nat
  nextId   : BitVec 16
  autoSend : Bool
  autoClip : Vector Bool 6
  (opened autoOpened autoSkipped closed emptyClips labelsLost delivered gapMarks voided : Counter)
  deriving DecidableEq, Repr

/-! ## Chapter 12: control port -/

/-- The control port: the attention set and the notice enables are held as the two bytes of R186 carry them,
with bit 15 clear. held says that one place of the report queue is kept for an answer (R175). -/
structure ControlPort where
  mode      : PartMode
  report    : List OutCell
  held      : Bool
  attention : BitVec 16
  enables   : BitVec 16
  (malformed otherUnit globalsTaken allIgnored queueFullDiscards answered noticesQueued
    noticesDropped : Counter)
  deriving DecidableEq, Repr

/-! ## The part -/

/-- One Holtspar 7320. fo and ht are the model's record of its two output ports: each cell put on FO and each
frame handed to HT, in order, oldest first (log entry 7). choices counts the free choices made (log entry 1). -/
structure Chip where
  unit    : Fin 4
  lanes   : Vector Lane 8
  out     : OutputLane
  fo      : List (List Byte)
  ht      : List (List Byte)
  time    : Timebase
  steer   : Steering
  ctx     : Vector Context 6
  engine  : Engine
  rate    : Vector RateState 6
  budget  : Budget
  mixer   : Mixer
  sel     : Selector
  link    : Link
  sched   : Scheduler
  acct    : Accounting
  clips   : ClipLog
  port    : ControlPort
  choices : Nat
  deriving DecidableEq, Repr

end Sys2Proof.Machine
end

