-- ==== Sys2Proof/Machine/GainTable.lean ====
section
/-! DEFINITION. The gain table's default contents (R80): for n from 1 to 255, entry n is
min(65,535, round(4,096 × 10^((n − 208) / 40))), and entry 0 reads as 0. Written as values, in four pieces of
64; Tests/Slice0.lean checks every entry against the formula in exact arithmetic. -/

namespace Sys2Proof.Machine

/-- Entries 0 to 63 of the default gain table (R80). -/
def gainPiece0 : List Nat :=
  [0, 0, 0, 0, 0, 0, 0, 0, 0, 0, 0, 0, 0, 0, 0, 0,
   0, 0, 0, 0, 0, 0, 0, 0, 0, 0, 0, 0, 0, 0, 0, 0,
   0, 0, 0, 0, 0, 0, 0, 0, 0, 0, 0, 0, 0, 0, 0, 0,
   0, 0, 0, 0, 1, 1, 1, 1, 1, 1, 1, 1, 1, 1, 1, 1]

/-- Entries 64 to 127 of the default gain table (R80). -/
def gainPiece1 : List Nat :=
  [1, 1, 1, 1, 1, 1, 1, 2, 2, 2, 2, 2, 2, 2, 2, 2,
   3, 3, 3, 3, 3, 3, 4, 4, 4, 4, 5, 5, 5, 5, 6, 6,
   6, 7, 7, 8, 8, 9, 9, 10, 10, 11, 12, 12, 13, 14, 15, 15,
   16, 17, 18, 19, 21, 22, 23, 24, 26, 27, 29, 31, 33, 34, 37, 39]

/-- Entries 128 to 191 of the default gain table (R80). -/
def gainPiece2 : List Nat :=
  [41, 43, 46, 49, 52, 55, 58, 61, 65, 69, 73, 77, 82, 87, 92, 97,
   103, 109, 115, 122, 130, 137, 145, 154, 163, 173, 183, 194, 205, 217, 230, 244,
   258, 274, 290, 307, 325, 345, 365, 387, 410, 434, 460, 487, 516, 546, 579, 613,
   649, 688, 728, 772, 817, 866, 917, 971, 1029, 1090, 1154, 1223, 1295, 1372, 1453, 1539]

/-- Entries 192 to 255 of the default gain table (R80). -/
def gainPiece3 : List Nat :=
  [1631, 1727, 1830, 1938, 2053, 2175, 2303, 2440, 2584, 2738, 2900, 3072, 3254, 3446, 3651, 3867,
   4096, 4339, 4596, 4868, 5157, 5462, 5786, 6129, 6492, 6876, 7284, 7715, 8173, 8657, 9170, 9713,
   10289, 10898, 11544, 12228, 12953, 13720, 14533, 15394, 16306, 17273, 18296, 19380, 20529, 21745, 23034, 24398,
   25844, 27375, 28997, 30716, 32536, 34464, 36506, 38669, 40960, 43387, 45958, 48681, 51566, 54621, 57858, 61286]

/-- The default gain table, entry 0 first (R80). -/
def gainDefaults : List Nat := gainPiece0 ++ gainPiece1 ++ gainPiece2 ++ gainPiece3

/-- The default gain table as the mixer holds it (R80). -/
def defaultGain : Vector (BitVec 16) 256 :=
  tabulate 256 (fun n => BitVec.ofNat 16 (gainDefaults.getD n.val 0))

end Sys2Proof.Machine
end

