-- ==== Sys2Proof/Machine/PowerOn.lean ====
section
/-! DEFINITION. The value of every block after power-on reset, by the block's own reset rule. -/

namespace Sys2Proof.Machine

/-- 00:00:00:00. -/
def Timecode.zero : Timecode := ⟨0, 0, 0, 0⟩

/-- R12. -/
def Lane.zero : Lane := ⟨0, 0, 0, 0⟩

/-- R12. -/
def OutputLane.powerOn : OutputLane :=
  { queue := [], tx := none, hold := [], seqReport := 0, seqAuxA := 0, seqAuxB := 0,
    seqTally := Vector.replicate 6 0, auxSent := 0, tallySent := 0, reportsSent := 0, auxDrops := 0,
    tallyReplaced := 0, droppedA := none, droppedB := none }

/-- R24: FREE_RUN at 00:00:00:00 and rate 50, the timer started at one period of 960 samples. -/
def Timebase.powerOn : Timebase :=
  { state := .freeRun, timecode := .zero, rate := .r50, elapsed := 0, length := 960, subTick := 0, ms := 0,
    refsTaken := 0, rateMismatches := 0, invalidRefs := 0, refLosses := 0, jumps := 0 }

/-- R40: match type OFF, operands 0, empty kind set, action DISCARD, note flag clear. -/
def SteerEntry.off : SteerEntry := ⟨3, 0, 0, 0, 0⟩

/-- R40. -/
def Steering.powerOn : Steering :=
  { bank0 := Vector.replicate 64 SteerEntry.off, bank1 := Vector.replicate 64 SteerEntry.off,
    activeBank := 0, pendingSwap := false, default := .discard, lastNote := none, decisions := 0,
    noMatch := 0, kindMismatch := 0, discards := 0, notes := 0, swaps := 0 }

/-- R57. -/
def Context.powerOn : Context :=
  { state := .stopped, gathering := none, ready := none, nextNumber := 0, slices := 0, notRunning := 0,
    orphans := 0, completed := 0, damagedPictures := 0, staleGathers := 0, overruns := 0 }

/-- R57: IDLE, with the rotation pointer at C5. -/
def Engine.powerOn : Engine :=
  { op := none, pointer := 5, grants := 0, programmeGrants := 0, completions := 0, abandoned := 0 }

/-- The defaults of the first group (section 5.11). -/
def CtxSettings.defaults : CtxSettings :=
  { weight := 4, minimum := 0, boost := 2, bias := 2, slew := 4, marker := 0, latency := 400,
    logMode := .trouble }

/-- The defaults of the second group (section 5.11). -/
def Shape.defaults : Shape := { depth := 4, qMin := 4, qMax := 88, qStart := 40 }

/-- R77: T, R and F 0, q at q_start, curve entry j at 8 + 2 × j. -/
def RateState.powerOn : RateState :=
  { target := 0, size := 0, fill := 0, q := 40, settings := .defaults, shape := .defaults,
    curve := tabulate 33 (fun j => 8 + 2 * j.val), accepted := 0, reservoirSheds := 0, queueFullSheds := 0 }

/-- R77. -/
def Budget.powerOn : Budget :=
  { capacity := 0, bytes := 0, audio := 0, label := 0, reserve := 512, minimums := Vector.replicate 6 0,
    targets := Vector.replicate 6 0, idle := 0, shortfalls := 0 }

/-- R99. -/
def Input.powerOn : Input :=
  { active := false, buffer := [], underrunRun := 0, fader := ⟨0, 0, 0, 8⟩, sends := Vector.replicate 4 0,
    link := none, blocksTaken := 0, lengthErrors := 0, overruns := 0, underruns := 0, inputClips := 0,
    sendClips := 0 }

/-- R99. -/
def Bus.powerOn : Bus := { master := 208, mute := false, meter := 0, clips := 0 }

/-- R99. -/
def Mixer.powerOn : Mixer :=
  { inputs := Vector.replicate 16 Input.powerOn, buses := Vector.replicate 4 Bus.powerOn, auxAStream := 0,
    auxBStream := 0, audioSend := true, gain := defaultGain, blockCounter := 0, build := none,
    framesFormed := 0, framesDiscarded := 0, inputsLost := 0 }

/-- R111. -/
def Selector.powerOn : Selector :=
  { programme := none, preset := none, pendingOp := .none, pendingPreset := none,
    tallyStream := Vector.replicate 6 0, applied := 0, degraded := 0, programmeStops := 0,
    refusedGlobals := 0, tallyOffered := 0 }

/-- The defaults of section 8.7. -/
def LinkSettings.defaults : LinkSettings :=
  { identity := 0, answerWindow := 200, retryGap := 1000, silence := 500, ackWindow := 120 }

/-- R128. -/
def Link.powerOn : Link :=
  { state := .down, attempt := 0, phase := none, capacity := 500, credit := 0, answerWindow := none,
    retryGap := none, silence := none, drainLimit := none, settings := .defaults, stateChanges := 0,
    hailAttempts := 0, hailsFailed := 0, validMessages := 0, checkErrors := 0, malformed := 0,
    identityMismatches := 0, strayMessages := 0, capacityMessages := 0, capacityClamps := 0,
    silenceExpiries := 0, drainsCompleted := 0, drainsCutShort := 0, audioDiscarded := 0 }

/-- R147. -/
def Scheduler.powerOn : Scheduler :=
  { audioQueue := [], labelQueue := [], passQueue := [], videoQueue := Vector.replicate 6 [],
    allowance := Vector.replicate 6 0, pointer := 5, awaiting := [], resend := [], nextFrame := 0,
    audioSent := 0, labelSent := 0, videoSent := 0, passSent := 0, resends := 0, audioDrops := 0,
    labelQueueFull := 0, passDrops := 0, matchedAcks := 0, strayAcks := 0, resendsScheduled := 0,
    entriesLost := 0, fragmentsWithdrawn := 0 }

/-- R157. -/
def Outcomes.zero : Outcomes := ⟨0, 0, 0, 0⟩

/-- R157. -/
def Accounting.powerOn : Accounting :=
  { lowWater := Vector.replicate 6 0, log := [], outcomes := Vector.replicate 6 Outcomes.zero,
    entriesWritten := 0, logFullRefusals := 0 }

/-- R174. -/
def ClipLog.powerOn : ClipLog :=
  { table := Vector.replicate 128 none, write := 0, fence := 0, stack := [], nextId := 0, autoSend := true,
    autoClip := Vector.replicate 6 false, opened := 0, autoOpened := 0, autoSkipped := 0, closed := 0,
    emptyClips := 0, labelsLost := 0, delivered := 0, gapMarks := 0, voided := 0 }

/-- R183. -/
def ControlPort.powerOn : ControlPort :=
  { mode := .standby, report := [], held := false, attention := 0, enables := 0, malformed := 0,
    otherUnit := 0, globalsTaken := 0, allIgnored := 0, queueFullDiscards := 0, answered := 0,
    noticesQueued := 0, noticesDropped := 0 }

/-- Every block at its power-on value, with the unit number 0 that R7 gives a part with no strap tied high. -/
def Chip.powerOn : Chip :=
  { unit := 0, lanes := Vector.replicate 8 Lane.zero, out := .powerOn, fo := [], ht := [], time := .powerOn,
    steer := .powerOn, ctx := Vector.replicate 6 Context.powerOn, engine := .powerOn,
    rate := Vector.replicate 6 RateState.powerOn, budget := .powerOn, mixer := .powerOn, sel := .powerOn,
    link := .powerOn, sched := .powerOn, acct := .powerOn, clips := .powerOn, port := .powerOn, choices := 0 }

end Sys2Proof.Machine
end

