-- ==== Sys2Proof/Machine/State.lean ====
section
/-! DEFINITION. The machine's state: the part (Chip, in Blocks.lean) and the queue of commands that wait, first
in, first out; why a step could stop; and the state after power-on reset. -/

namespace Sys2Proof.Machine

/-- The machine: the part, and the commands that wait, first in, first out. -/
structure State where
  chip    : Chip
  pending : List Instr
  deriving DecidableEq, Repr

/-- Why a step could stop with a fault. There is no constructor: the manual gives every command and event an
effect, so none faults. -/
inductive Fault where
  deriving DecidableEq, Repr

/-- Why a step could be refused. -/
inductive Refusal where
  /-- Raised by exec's arm of a command that has no meaning yet. Safe: the machine stops where the part goes
  on. No arm raises it. -/
  | notModelled (mnemonic : String)
  deriving DecidableEq, Repr

/-- The machine right after power-on reset, with no command waiting. -/
def State.reset : State := { chip := Chip.powerOn, pending := [] }

end Sys2Proof.Machine
end

