-- ==== Sys2Proof/Machine/Flags.lean ====
section
/-! DEFINITION. Counters, serial order and the bits of the attention set. -/

namespace Sys2Proof.Machine

/-- Section 0.6.5: an event counter rises by one and stops at 65,535. -/
def bump (x : Counter) : Counter := if x = 65535#16 then x else x + 1#16

/-- Section 0.6.5: an event counter rises by n events and stops at 65,535. -/
def bumpBy (n : Nat) (x : Counter) : Counter := BitVec.ofNat 16 (min 65535 (x.toNat + n))

/-- An event counter that rises where the condition holds. -/
def bumpIf (b : Bool) (x : Counter) : Counter := if b then bump x else x

/-- Section 0.6.3: a is before b when (b − a) modulo the number range lies in 1 to half the range less 1. -/
def serialBefore {w : Nat} (a b : BitVec w) : Bool :=
  0 < (b - a).toNat && (b - a).toNat < 2 ^ (w - 1)

/-- R186: the bit of a class in the two-byte attention set, by its row in the table of section 12.3. -/
def attBit : AttClass → Nat
  | .linkState => 0
  | .linkFailed => 1
  | .capacity => 2
  | .takeDone => 3
  | .takeDegraded => 4
  | .pictureShed => 5
  | .pictureLost => 6
  | .clipDelivered => 7
  | .clipTrouble => 8
  | .logFull => 9
  | .refLost => 10
  | .audioClip => 11
  | .audioInputLost => 12
  | .steerNote => 13
  | .steerSwapped => 14

/-- The attention set that holds just these classes. -/
def attMask : List AttClass → BitVec 16
  | [] => 0
  | a :: rest => (1#16 <<< attBit a) ||| attMask rest

/-- R185: bit 15 of a carried set of classes is reserved and is not read. -/
def attRead (set : BitVec 16) : BitVec 16 := set &&& 0x7FFF#16

/-- Whether a class is set in an attention set. -/
def attHas (set : BitVec 16) (a : AttClass) : Bool := set.getLsbD (attBit a)

end Sys2Proof.Machine
end

