-- ==== Sys2Proof/Machine/Operands.lean ====
section
/-! DEFINITION. The operand forms of the catalogue: numbers that name a thing, choices, and settings with a range
(section 0.6.4, R188); and the replies a command gives (R176). -/

namespace Sys2Proof.Machine

/-- The result codes (R176), in the order of their codes (R187). -/
inductive ResultCode where
  | done
  | doneClamped
  | refusedUnknown
  | refusedRange
  | refusedState
  | refusedBusy
  | refusedFull
  | refusedEmpty
  | refusedFenced
  deriving DecidableEq, Repr

/-- R187. -/
def resultByte : ResultCode → Byte
  | .done => 0
  | .doneClamped => 1
  | .refusedUnknown => 2
  | .refusedRange => 3
  | .refusedState => 4
  | .refusedBusy => 5
  | .refusedFull => 6
  | .refusedEmpty => 7
  | .refusedFenced => 8

/-- What the owning block returns for a command (R176): a result code and, for a command that returns data,
the data. -/
structure Reply where
  code : ResultCode
  data : List Byte
  deriving DecidableEq, Repr

/-- A reply that is a code alone. -/
def reply (r : ResultCode) : Reply := ⟨r, []⟩

/-- R177: an answer carries data only where the command is answered DONE or DONE_CLAMPED. -/
def carriesData : ResultCode → Bool
  | .done => true
  | .doneClamped => true
  | _ => false

/-- Section 0.6.4: DONE_CLAMPED where a value was clamped, DONE otherwise. -/
def doneReply (clamped : Bool) : Reply := reply (if clamped then .doneClamped else .done)

/-- Section 0.6.1: clamp(x, lo, hi). -/
def clampNat (x lo hi : Nat) : Nat := if x < lo then lo else if hi < x then hi else x

/-- Section 0.6.1: clamp(x, lo, hi) on integers. -/
def clampInt (x lo hi : Int) : Int := if x < lo then lo else if hi < x then hi else x

/-- A context number from 0 to 5. -/
def ctxOf (b : Byte) : Option Ctx := if h : b.toNat < 6 then some ⟨b.toNat, h⟩ else none

/-- An input number from 0 to 15. -/
def inputOf (b : Byte) : Option InputNo := if h : b.toNat < 16 then some ⟨b.toNat, h⟩ else none

/-- A bus: PGM-L 0, PGM-R 1, AUX-A 2, AUX-B 3 (R188). -/
def busOf (b : Byte) : Option BusNo := if h : b.toNat < 4 then some ⟨b.toNat, h⟩ else none

/-- R188: OFF 0 and ON 1. -/
def onOffOf (b : Byte) : Option Bool :=
  if b = 0#8 then some false else if b = 1#8 then some true else none

/-- R188: a context choice is the context number, or 255 for NONE. -/
def ctxChoiceOf (b : Byte) : Option (Option Ctx) :=
  if b = 255#8 then some none else (ctxOf b).map some

/-- R21: the four rates. -/
def rateOf (b : Byte) : Option Rate :=
  if b = 25#8 then some .r25 else if b = 30#8 then some .r30
  else if b = 50#8 then some .r50 else if b = 60#8 then some .r60 else none

/-- R31, R188: DISCARD 0, PASS 1. -/
def steerDefaultOf (b : Byte) : Option SteerDefault :=
  if b = 0#8 then some .discard else if b = 1#8 then some .pass else none

/-- R72, R188: NONE 0, TROUBLE 1, ALL 2. -/
def logModeOf (b : Byte) : Option LogMode :=
  if b = 0#8 then some .none else if b = 1#8 then some .trouble
  else if b = 2#8 then some .all else none

/-- R93, R96, R109: a stream of 16 bits clamped into 0 to 4095. -/
def clampStream (s : BitVec 16) : Stream := BitVec.ofNat 12 (clampNat s.toNat 0 4095)

/-- Whether a carried stream lies above 4095 and is clamped. -/
def streamClamped (s : BitVec 16) : Bool := 4095 < s.toNat

/-- R34: an operand above 4095 is stored as 4095. -/
def clampOperand (x : BitVec 16) : BitVec 16 := BitVec.ofNat 16 (clampNat x.toNat 0 4095)

/-- R26, R34, R185: an entry as stored: operands clamped, the reserved bits 3 to 6 of the kind set not read. -/
def storedEntry (e : SteerEntry) : SteerEntry :=
  { e with first := clampOperand e.first, second := clampOperand e.second, kinds := e.kinds &&& 0x87#8 }

/-- Whether an entry has an operand that is clamped (R34). -/
def entryClamped (e : SteerEntry) : Bool := 4095 < e.first.toNat || 4095 < e.second.toNat

end Sys2Proof.Machine
end

