-- ==== Sys2Proof/Machine/Wire.lean ====
section
/-! DEFINITION. Chapter 13: the CRC, the layouts of cells, home frames and return messages, and their reading. -/

namespace Sys2Proof.Machine

/-! ## The CRC (R184) -/

/-- One bit of the CRC of R184. With each byte taken least significant bit first, the polynomial 0x04C11DB7
stands reversed, as 0xEDB88320, and the register moves right. -/
def crcBit (x : BitVec 32) : BitVec 32 :=
  if x.getLsbD 0 then (x >>> 1) ^^^ 0xEDB88320#32 else x >>> 1

/-- One byte of the CRC of R184. -/
def crcByte (x : BitVec 32) (b : Byte) : BitVec 32 :=
  crcBit (crcBit (crcBit (crcBit (crcBit (crcBit (crcBit (crcBit (x ^^^ b.zeroExtend 32))))))))

/-- R184: initial value all ones, result complemented. -/
def crc32 (bs : List Byte) : BitVec 32 := ~~~(bs.foldl crcByte 0xFFFFFFFF#32)

/-- R184: the least significant byte of the result is sent first. -/
def le32 (x : BitVec 32) : List Byte :=
  [x.extractLsb' 0 8, x.extractLsb' 8 8, x.extractLsb' 16 8, x.extractLsb' 24 8]

/-- Bytes followed by their check. -/
def withCheck (bs : List Byte) : List Byte := bs ++ le32 (crc32 bs)

/-- n bytes of 0, for reserved and absent fields (R185). -/
def zeros (n : Nat) : List Byte := List.replicate n 0#8

/-! ## Values in bytes -/

/-- A number in one byte. -/
def num8 (n : Nat) : Byte := BitVec.ofNat 8 n

/-- A number in two bytes. -/
def num16 (n : Nat) : List Byte := be16 (BitVec.ofNat 16 n)

/-- A number in four bytes. -/
def num32 (n : Nat) : List Byte := be32 (BitVec.ofNat 32 n)

/-- A flag in one byte: 0 or 1. -/
def flag8 (b : Bool) : Byte := if b then 1#8 else 0#8

/-- Chapter 13: hours, minutes, seconds and picture, one unsigned byte each. -/
def timecodeBytes (t : Timecode) : List Byte :=
  [num8 t.hours, num8 t.minutes, num8 t.seconds, num8 t.picture]

/-- R186: the rate code: 1 for 25, 2 for 30, 3 for 50, 4 for 60. -/
def rateCode : Rate → Byte
  | .r25 => 1
  | .r30 => 2
  | .r50 => 3
  | .r60 => 4

/-- R186. -/
def rateOfCode (b : Byte) : Option Rate :=
  if b = 1#8 then some .r25 else if b = 2#8 then some .r30
  else if b = 3#8 then some .r50 else if b = 4#8 then some .r60 else none

/-! ## Cells (R186) -/

/-- R186. -/
def kindCode : CellKind → BitVec 4
  | .video => 1
  | .audio => 2
  | .data => 3
  | .control => 4
  | .reference => 5
  | .answer => 6
  | .notice => 7
  | .tally => 8

/-- R186: the codes 0 and 9 to 15 name no kind. -/
def kindOf (k : BitVec 4) : Option CellKind :=
  if k = 1#4 then some .video else if k = 2#4 then some .audio else if k = 3#4 then some .data
  else if k = 4#4 then some .control else if k = 5#4 then some .reference else if k = 6#4 then some .answer
  else if k = 7#4 then some .notice else if k = 8#4 then some .tally else none

/-- The fields of a cell (R1). -/
structure Cell where
  unit     : BitVec 4
  kind     : BitVec 4
  stream   : Stream
  sequence : Byte
  start    : Bool
  stop     : Bool
  payload  : List Byte
  deriving DecidableEq, Repr

/-- R186: the 12 header bytes of a cell with its flags byte. -/
def cellHeader (unit kind : BitVec 4) (stream : Stream) (sequence flags length : Byte) : List Byte :=
  [unit ++ kind] ++ be16 (stream.zeroExtend 16) ++ [sequence, flags, length] ++ zeros 6

/-- R186: a cell's bytes, check included. -/
def cellBytes (x : Cell) : List Byte :=
  withCheck (cellHeader x.unit x.kind x.stream x.sequence
    (flag8 x.start ||| (flag8 x.stop <<< 1)) (num8 x.payload.length) ++ x.payload)

/-- R2, R186: the fields of collected bytes, where the payload length field does not exceed 240, the number of
bytes is 16 plus it, and the CRC over header and payload is the cell check. Reserved bits are not read (R185). -/
def readCell (bs : List Byte) : Option Cell :=
  match bs with
  | b0 :: b1 :: b2 :: b3 :: b4 :: b5 :: _ :: _ :: _ :: _ :: _ :: _ :: rest =>
    if 240 < b5.toNat then none
    else if bs.length ≠ 16 + b5.toNat then none
    else if rest.drop b5.toNat ≠ le32 (crc32 (bs.take (12 + b5.toNat))) then none
    else some
      { unit := b0.extractLsb' 4 4, kind := b0.extractLsb' 0 4,
        stream := (u16 b1 b2).extractLsb' 0 12, sequence := b3,
        start := b4.getLsbD 0, stop := b4.getLsbD 1, payload := rest.take b5.toNat }
  | _ => none

/-- R186: 3 bytes a sample, most significant first, to the last byte. -/
def readSamples : List Byte → List Sample
  | a :: b :: d :: rest => u24 a b d :: readSamples rest
  | _ => []

/-- R186: the samples of one block, 3 bytes each. -/
def sampleBytes (xs : List Sample) : List Byte := xs.flatMap be24

/-! ## Home frames (R129, R189) -/

/-- The fields of the 32-byte home frame header but for the check; a field absent for a kind is 0 (R185). -/
structure HomeHeader where
  kind     : Byte
  unit     : Fin 4
  identity : BitVec 16
  frame    : FrameNum
  ctx      : Byte
  picture  : PicNum
  fragment : Nat
  count    : Nat
  marker   : Byte
  flags    : Byte
  timecode : Timecode
  ms       : Millis
  stream   : Stream
  deriving DecidableEq, Repr

/-- Header bytes 0 to 27 (R189). -/
def homeHeaderBytes (h : HomeHeader) (length : Nat) : List Byte :=
  [h.kind, num8 h.unit.val] ++ be16 h.identity ++ be24 h.frame ++ [h.ctx] ++ be16 h.picture
    ++ num16 h.fragment ++ num16 h.count ++ [h.marker, h.flags] ++ timecodeBytes h.timecode ++ be32 h.ms
    ++ be16 (h.stream.zeroExtend 16) ++ num16 length

/-- R184, R189: a home frame: the header, its home check over header bytes 0 to 27 and the payload, then the
payload. -/
def homeFrame (h : HomeHeader) (payload : List Byte) : List Byte :=
  let head := homeHeaderBytes h payload.length
  head ++ le32 (crc32 (head ++ payload)) ++ payload

/-- R189: the HAIL frame of 64 bytes. -/
def hailFrame (unit : Fin 4) (identity : BitVec 16) (attempt : Nat) (rate : Rate) (tc : Timecode)
    (ms : Millis) : List Byte :=
  withCheck ([0#8, num8 unit.val] ++ be16 identity ++ [num8 attempt, rateCode rate] ++ timecodeBytes tc
    ++ be32 ms ++ zeros 46)

/-! ## Return messages (R190) -/

/-- A return message that passes the tests of R117 on its check and its form. -/
inductive ReturnBody where
  | hailAnswer (capacity : Nat)
  | ack (frames : List FrameNum)
  | capacity (value : Nat)
  deriving DecidableEq, Repr

/-- What R117 makes of the bytes collected on HR, before the identity test. -/
inductive ReturnRead where
  | badCheck
  | malformed
  | message (unit : Byte) (identity : BitVec 16) (body : ReturnBody)
  deriving DecidableEq, Repr

/-- Frame numbers of 3 bytes each, to the last byte. -/
def readFrameNums : List Byte → Option (List FrameNum)
  | [] => some []
  | a :: b :: d :: rest =>
    match readFrameNums rest with
    | some ns => some (u24 a b d :: ns)
    | none => none
  | _ => none

/-- R190: the body of a message by its kind; none where R117 finds it malformed. -/
def readReturnBody (kind : Byte) (body : List Byte) : Option ReturnBody :=
  if kind = 1#8 then
    match body with
    | [a, b, d, e] => some (.hailAnswer (u32 a b d e).toNat)
    | _ => none
  else if kind = 2#8 then
    match body with
    | n :: rest =>
      if n = 0#8 then none
      else if 16 < n.toNat then none
      else if rest.length ≠ 3 * n.toNat then none
      else (readFrameNums rest).map .ack
    | [] => none
  else if kind = 3#8 then
    match body with
    | [a, b, d, e] => some (.capacity (u32 a b d e).toNat)
    | _ => none
  else none

/-- R117, tests 1 and 2, against the table of R190. A message is at least its 6 bytes of header and its
4-byte check. -/
def readReturn (bs : List Byte) : ReturnRead :=
  match bs with
  | k :: u :: v1 :: v0 :: l1 :: l0 :: rest =>
    if bs.length < 10 then .badCheck
    else if (u16 l1 l0).toNat ≠ bs.length then .badCheck
    else if rest.drop (rest.length - 4) ≠ le32 (crc32 (bs.take (bs.length - 4))) then .badCheck
    else
      match readReturnBody k (rest.take (rest.length - 4)) with
      | some body => .message u (u16 v1 v0) body
      | none => .malformed
  | _ => .badCheck

end Sys2Proof.Machine
end

