-- ==== Sys2Proof/Machine/Ops.lean ====
section
/-! DEFINITION. The operations every block shares: changing one context's or one input's state, putting a frame
on HT, the output lane (chapter 1), the attention set and its notices, and taking an addressed command and
answering it (chapter 12). A block's work is a function on Chip; a command's work also returns a Reply. -/

namespace Sys2Proof.Machine

/-! ## One context, one input -/

/-- A context's gatherer changed. -/
def modCtx (k : Ctx) (f : Context → Context) (c : Chip) : Chip := { c with ctx := modAt c.ctx k f }

/-- A context's rate state changed. -/
def modRate (k : Ctx) (f : RateState → RateState) (c : Chip) : Chip := { c with rate := modAt c.rate k f }

/-- A mixer input changed. -/
def modInput (i : InputNo) (f : Input → Input) (c : Chip) : Chip :=
  { c with mixer := { c.mixer with inputs := modAt c.mixer.inputs i f } }

/-- R129: a frame handed to HT. -/
def putHt (frame : List Byte) (c : Chip) : Chip := { c with ht := c.ht ++ [frame] }

/-! ## The output lane (R8 to R11) -/

/-- The cells the output queue holds, the one in transmission among them (R11). -/
def outCount (o : OutputLane) : Nat :=
  o.queue.length + (match o.tx with
    | some t => if t.inQueue then 1 else 0
    | none => 0)

/-- Section 1.5: the output queue holds up to 32 cells. -/
def outHasRoom (o : OutputLane) : Bool := outCount o < 32

/-- The first member of a list for which a test holds, and the list without it. -/
def takeFirst {α : Type} (p : α → Bool) : List α → Option (α × List α)
  | [] => none
  | x :: xs =>
    if p x then some (x, xs)
    else match takeFirst p xs with
      | some (y, ys) => some (y, x :: ys)
      | none => none

/-- Section 1.5: the AUX audio cells, served first. -/
def isAux : OutSource → Bool
  | .auxA => true
  | .auxB => true
  | _ => false

/-- Section 1.5: the tally cells, served second. -/
def isTally : OutSource → Bool
  | .tally _ => true
  | _ => false

/-- R11: the oldest queued cell of the highest-ranking class present. -/
def chooseCell (q : List OutCell) : Option (OutCell × List OutCell) :=
  match takeFirst (fun x => isAux x.source) q with
  | some r => some r
  | none =>
    match takeFirst (fun x => isTally x.source) q with
    | some r => some r
    | none => takeFirst (fun _ => true) q

/-- R11: the sequence count of a source. -/
def seqOf (o : OutputLane) : OutSource → Byte
  | .report => o.seqReport
  | .auxA => o.seqAuxA
  | .auxB => o.seqAuxB
  | .tally k => o.seqTally[k]

/-- R11: a source's count set. -/
def setSeq (o : OutputLane) (n : Byte) : OutSource → OutputLane
  | .report => { o with seqReport := n }
  | .auxA => { o with seqAuxA := n }
  | .auxB => { o with seqAuxB := n }
  | .tally k => { o with seqTally := setAt o.seqTally k n }

/-- R96: the cells of an AUX bus dropped since its last cell that joined the queue. -/
def droppedOf (o : OutputLane) : OutSource → Option Byte
  | .auxA => o.droppedA
  | .auxB => o.droppedB
  | .report => none
  | .tally _ => none

/-- R96: that number set. -/
def setDropped (o : OutputLane) (n : Option Byte) : OutSource → OutputLane
  | .auxA => { o with droppedA := n }
  | .auxB => { o with droppedB := n }
  | .report => o
  | .tally _ => o

/-- R11: the bytes of a cell at the start of its transmission: this unit's number, its source's sequence and
its check filled in. -/
def txBytes (unit : Fin 4) (sequence : Byte) (x : OutCell) : List Byte :=
  cellBytes { unit := BitVec.ofNat 4 unit.val, kind := kindCode x.kind, stream := x.stream,
              sequence := sequence, start := false, stop := false, payload := x.payload }

/-- R1, R11: where FO is idle and the queue is not empty, the lane chooses the next cell and begins to send it. The
cell carries its source's count, which then rises by one, wrapping from 255 to 0; a dropped cell takes no number (log
entry 32). -/
def startFo (c : Chip) : Chip :=
  match c.out.tx with
  | some _ => c
  | none =>
    match chooseCell c.out.queue with
    | none => c
    | some (x, rest) =>
      let n := seqOf c.out x.source
      let bytes := txBytes c.unit n x
      let o := setSeq c.out (n + 1) x.source
      { c with out := { o with queue := rest, tx := some ⟨x, bytes, true⟩ },
               fo := c.fo ++ [bytes] }

/-- A cell joins the output queue; offered while FO is idle, it begins transmission at once (R11). -/
def joinOut (x : OutCell) (c : Chip) : Chip :=
  startFo { c with out := { c.out with queue := c.out.queue ++ [x] } }

/-- R8: an AUX audio cell joins the queue, or is dropped and counted where the queue is full. A dropped cell is never
sent, so by R1 and R11 it takes no number of the bus's sequence. The gap of R96, the blocks a listener misses before a
cell, is kept in State beside the cell: the bus's cells dropped since its last queued one (log entry 32, a choice). A
drop before the bus's first queued cell makes no gap, since nothing was heard before it. -/
def offerAux (x : OutCell) (c : Chip) : Chip :=
  if outHasRoom c.out then
    joinOut { x with gap := (droppedOf c.out x.source).getD 0 } { c with out := setDropped c.out (some 0) x.source }
  else
    let o := setDropped c.out ((droppedOf c.out x.source).map (· + 1)) x.source
    { c with out := { o with auxDrops := bump o.auxDrops } }

/-- R9: a tally cell joins the queue, or where the queue is full takes its context's place in the tally hold,
replacing a cell held there and taking the time of the new one. -/
def offerTally (k : Ctx) (x : OutCell) (c : Chip) : Chip :=
  if outHasRoom c.out then joinOut x c
  else
    let held := c.out.hold.any (fun h => h.ctx == k)
    { c with out := { c.out with
        hold := c.out.hold.filter (fun h => !(h.ctx == k)) ++ [⟨k, x, c.time.ms⟩],
        tallyReplaced := bumpIf held c.out.tallyReplaced } }

/-- R10: where the output queue has room and the tally hold is empty, the oldest answer or notice moves from
the report queue to the output queue. -/
def moveReport (c : Chip) : Chip :=
  if outHasRoom c.out && c.out.hold.isEmpty then
    match c.port.report with
    | [] => c
    | x :: rest => joinOut x { c with port := { c.port with report := rest } }
  else c

/-- R10: an answer or notice placed in the report queue. -/
def placeReport (x : OutCell) (c : Chip) : Chip :=
  moveReport { c with port := { c.port with report := c.port.report ++ [x] } }

/-- R11: the sent counter of a class counts the cell whose transmission completes. -/
def countSent (s : OutSource) (o : OutputLane) : OutputLane :=
  match s with
  | .report => { o with reportsSent := bump o.reportsSent }
  | .auxA => { o with auxSent := bump o.auxSent }
  | .auxB => { o with auxSent := bump o.auxSent }
  | .tally _ => { o with tallySent := bump o.tallySent }

/-- R11: a place freed at a send completion is refilled from the tally hold, earliest placed first, or else
from the report queue. -/
def refillOut (c : Chip) : Chip :=
  if outHasRoom c.out then
    match c.out.hold with
    | h :: rest => { c with out := { c.out with queue := c.out.queue ++ [h.cell], hold := rest } }
    | [] =>
      match c.port.report with
      | x :: rest =>
        { c with out := { c.out with queue := c.out.queue ++ [x] }, port := { c.port with report := rest } }
      | [] => c
  else c

/-- R11: a send completion of FO. With FO idle there is no cell whose transmission could complete. -/
def foSent (c : Chip) : Chip :=
  match c.out.tx with
  | none => c
  | some t => startFo (refillOut { c with out := { countSent t.cell.source c.out with tx := none } })

/-! ## Attention and notices (R179) -/

/-- R186: a NOTICE payload: the attention set, then the ms counter when the notice was queued. -/
def noticeCell (c : Chip) : OutCell :=
  { source := .report, kind := .notice, stream := 0, payload := be16 c.port.attention ++ be32 c.time.ms }

/-- The places of the report queue that are taken: its entries, and a place held for an answer (R175). -/
def reportTaken (p : ControlPort) : Nat := p.report.length + (if p.held then 1 else 0)

/-- R179: one NOTICE is queued, or is dropped and counted where the report queue has no free place. -/
def queueNotice (c : Chip) : Chip :=
  if reportTaken c.port < 16 then
    placeReport (noticeCell c) { c with port := { c.port with noticesQueued := bump c.port.noticesQueued } }
  else { c with port := { c.port with noticesDropped := bump c.port.noticesDropped } }

/-- R179: classes set together at one event. One notice is queued where any of them goes from clear to set
with its enable set. -/
def setAttention (as : List AttClass) (c : Chip) : Chip :=
  let fresh := attMask as &&& ~~~c.port.attention
  let c' := { c with port := { c.port with attention := c.port.attention ||| attMask as } }
  if fresh &&& c.port.enables = 0#16 then c' else queueNotice c'

/-- Classes set where a condition holds. -/
def setAttentionIf (b : Bool) (as : List AttClass) (c : Chip) : Chip :=
  if b then setAttention as c else c

/-! ## Taking an addressed command (R175 to R177) -/

/-- R177, R187: the payload of an answer. The layout gives more than 240 bytes only where the name carried back
is longer than 235 characters, and what such an answer holds is left free (log entry 4). -/
def answerPayload (tag : Byte) (name : List Byte) (r : Reply) (attention : BitVec 16) : List Byte :=
  let p := [tag, num8 name.length] ++ name ++ [resultByte r.code] ++ be16 attention
    ++ (if carriesData r.code then r.data else [])
  if p.length ≤ 240 then p else (Config.oversizeAnswer p).take 240

/-- R177: an answer on stream 0. -/
def answerCell (tag : Byte) (name : List Byte) (r : Reply) (attention : BitVec 16) : OutCell :=
  { source := .report, kind := .answer, stream := 0, payload := answerPayload tag name r attention }

/-- R177: the answer is placed in the held place, with the attention set as it stands once the command has
been taken. Every answer placed is counted, the one to RESET_UNIT as well, so that the counter stands at 1 after a
unit reset (R183; log entry 35, a choice). -/
def placeAnswer (tag : Byte) (name : List Byte) (r : Reply) (c : Chip) : Chip :=
  placeReport (answerCell tag name r c.port.attention)
    { c with port := { c.port with held := false, answered := bump c.port.answered } }

/-- R175: one place of the report queue is held for the answer. -/
def holdPlace (c : Chip) : Chip := { c with port := { c.port with held := true } }

/-- R175 to R177: an addressed command. Where the report queue holds 16 entries it is discarded unexecuted and
counted; otherwise a place is held, the owning block takes the command, and its answer is placed. -/
def takeAddressed (tag : Byte) (name : List Byte) (work : Chip → Chip × Reply) (c : Chip) : Chip :=
  if 16 ≤ c.port.report.length then
    { c with port := { c.port with queueFullDiscards := bump c.port.queueFullDiscards } }
  else
    let w := work (holdPlace c)
    placeAnswer tag name w.2 w.1

/-- A command of the catalogue, addressed to this unit. -/
def takeCommand (tag : Byte) (name : CommandName) (work : Chip → Chip × Reply) (c : Chip) : Chip :=
  takeAddressed tag (nameBytes name) work c

/-- R175: a global command, handed to its owning block, counted, and not answered. -/
def takeGlobal (work : Chip → Chip) (c : Chip) : Chip :=
  work { c with port := { c.port with globalsTaken := bump c.port.globalsTaken } }

/-- A command refused: it changes nothing (R176). -/
def refuse (r : ResultCode) (c : Chip) : Chip × Reply := (c, reply r)

/-! ## The machine's step of one command -/

/-- A command's work on the part, the queue of waiting commands left as it stands. -/
def State.onChip (s : State) (f : Chip → Chip) : Host.Outcome State Fault Refusal :=
  .next { s with chip := f s.chip }

end Sys2Proof.Machine
end

