-- ==== Sys2Proof/Machine/Queues.lean ====
section
/-! DEFINITION. The frame scheduler's audio, label and pass queues (R137 to R139). -/

namespace Sys2Proof.Machine

/-- R137: an AUDIO frame joins the audio queue; a full queue of 16 first drops its oldest. -/
def joinAudio (f : AudioFrame) (c : Chip) : Chip :=
  let full := 16 ≤ c.sched.audioQueue.length
  { c with sched := { c.sched with
      audioQueue := (if full then c.sched.audioQueue.drop 1 else c.sched.audioQueue) ++ [f],
      audioDrops := bumpIf full c.sched.audioDrops } }

/-- R139: a passed cell joins the pass queue; a full queue of 32 first drops its oldest. -/
def joinPass (x : PassCell) (c : Chip) : Chip :=
  let full := 32 ≤ c.sched.passQueue.length
  { c with sched := { c.sched with
      passQueue := (if full then c.sched.passQueue.drop 1 else c.sched.passQueue) ++ [x],
      passDrops := bumpIf full c.sched.passDrops } }

/-- R138: whether the label queue has room. -/
def labelRoom (s : Scheduler) : Bool := s.labelQueue.length < 16

/-- R138, join: the frame joins the end where the queue holds fewer than 16; otherwise it is not taken and the
refusal is counted. -/
def joinLabel (f : LabelFrame) (c : Chip) : Chip :=
  if labelRoom c.sched then { c with sched := { c.sched with labelQueue := c.sched.labelQueue ++ [f] } }
  else { c with sched := { c.sched with labelQueueFull := bump c.sched.labelQueueFull } }

/-- R138, replace: the new frame takes the place of the clip's frame in the queue. -/
def replaceLabel (f : LabelFrame) (c : Chip) : Chip :=
  { c with sched := { c.sched with
      labelQueue := c.sched.labelQueue.map (fun g => if g.clip == f.clip then f else g) } }

/-- R138, withdraw: the clip's frame is removed unsent, and the frames behind it move up. -/
def withdrawLabel (i : Nat) (c : Chip) : Chip :=
  { c with sched := { c.sched with labelQueue := c.sched.labelQueue.filter (fun g => !(g.clip == i)) } }

end Sys2Proof.Machine
end

