-- ==== Sys2Proof/Machine/ClipLog.lean ====
section
/-! DEFINITION. Chapter 11: the clip table and the mark stack, the opening and closing of clips, labels and their
outcomes, GAP and delivery, the commit fence, and the clip log's commands. -/

namespace Sys2Proof.Machine

/-! ## The clip table -/

/-- The clip an entry of the table holds; none where the entry is FREE or there is no such entry. -/
def clipAt (l : ClipLog) (i : Nat) : Option Clip := (l.table[i]?).join

/-- An entry of the table written. -/
def putClip (i : Nat) (x : Clip) (c : Chip) : Chip :=
  { c with clips := { c.clips with table := c.clips.table.setIfInBounds i (some x) } }

/-- R46: the last number a context has assigned is the one before its next picture number. -/
def lastAssigned (k : Ctx) (c : Chip) : PicNum := c.ctx[k].nextNumber - 1

/-- R161: the number of the context's gathering record, if it holds one, and otherwise its next number. -/
def inPictureNow (k : Ctx) (c : Chip) : PicNum :=
  match c.ctx[k].gathering with
  | some g => g.picture.number
  | none => c.ctx[k].nextNumber

/-- R159: the clip id of the clip on top of the mark stack, if any. -/
def parentNow (l : ClipLog) : Option (BitVec 16) :=
  match l.stack with
  | [] => none
  | i :: _ => (clipAt l i).map (·.id)

/-- R161, R164: no clip can be opened where W is 128 or the mark stack holds 4 indices. -/
def clipsFull (l : ClipLog) : Bool := 128 ≤ l.write || 4 ≤ l.stack.length

/-- R159 to R161: a clip opened at W and pushed onto the mark stack. -/
def openClip (k : Ctx) (text : List Byte) (rating : Nat) (auto : Bool) (c : Chip) : Chip :=
  let x : Clip :=
    { id := c.clips.nextId, state := .opened, sourceUnit := c.unit, ctx := k, inPicture := inPictureNow k c,
      inTimecode := c.time.timecode, outPicture := none, outTimecode := none, text := text,
      rating := rating, version := 0, auto := auto, gap := false, empty := false, labelLost := false,
      parent := parentNow c.clips, done := none }
  { c with clips := { c.clips with
      table := c.clips.table.setIfInBounds c.clips.write (some x),
      write := c.clips.write + 1, stack := c.clips.write :: c.clips.stack, nextId := c.clips.nextId + 1 } }

/-! ## Label frames -/

/-- R189: the flags byte of a LABEL frame. -/
def labelFlags (x : Clip) : Byte :=
  flag8 x.auto ||| (flag8 x.gap <<< 1) ||| (flag8 x.empty <<< 2) ||| (flag8 x.labelLost <<< 3)
    ||| (flag8 x.parent.isSome <<< 4)

/-- R189: the 64 payload bytes of a LABEL frame, with the out picture the record holds (log entry 38, a choice). -/
def labelPayload (i : Nat) (x : Clip) : List Byte :=
  [num8 i] ++ be16 x.id ++ [x.version, num8 x.sourceUnit.val, num8 x.ctx.val] ++ be16 x.inPicture
    ++ be16 (x.outPicture.getD 0) ++ timecodeBytes x.inTimecode
    ++ timecodeBytes (x.outTimecode.getD .zero) ++ [num8 x.rating, labelFlags x]
    ++ be16 (x.parent.getD 0) ++ [num8 x.text.length] ++ (x.text ++ zeros 32).take 32 ++ zeros 9

/-- R129, R138: the label frame of a clip as the clip now stands. All 64 payload bytes are fixed here, at joining or
at replacing, the flags byte among them: a clip marked GAP while it is QUEUED keeps the frame it has in the queue, so
that frame does not carry the flag unless LABEL replaces it. R129 names the fields but not the flags, and R168 speaks
only of a label already sent (log entry 39, a choice). -/
def labelFrame (i : Nat) (x : Clip) : LabelFrame :=
  { clip := i, version := x.version, ctx := x.ctx, payload := labelPayload i x }

/-- R138: a clip's label frame is offered to the label queue; the clip becomes QUEUED where it is taken, and
otherwise stays as it stands. -/
def offerLabel (i : Nat) (x : Clip) (c : Chip) : Chip :=
  let c' := joinLabel (labelFrame i x) c
  if labelRoom c.sched then putClip i { x with state := .queued } c' else c'

/-- R162, R165: the offer made by auto-send, with CLIP_TROUBLE set where the label queue is full. -/
def autoOffer (i : Nat) (x : Clip) (c : Chip) : Chip :=
  if c.clips.autoSend then setAttentionIf (!labelRoom c.sched) [.clipTrouble] (offerLabel i x c) else c

/-! ## Closing (R162) -/

/-- R162, step 2: a clip is EMPTY where the last number assigned is serially before its in picture. -/
def closesEmpty (x : Clip) (c : Chip) : Bool := serialBefore (lastAssigned x.ctx c) x.inPicture

/-- R162, steps 1 to 3: the record of a clip once closed. Its out picture is the last number assigned (step 1), EMPTY
or not; R158 and R189 give an EMPTY clip the number before its in picture, which is the same but for a clip open so
long that its numbers wrapped (log entry 38, a choice). -/
def closedClip (x : Clip) (c : Chip) : Clip :=
  let last := lastAssigned x.ctx c
  let empty := closesEmpty x c
  { x with state := .closed, outPicture := some last, outTimecode := some c.time.timecode, empty := empty,
           done := some (empty || serialBefore last c.acct.lowWater[x.ctx]) }

/-- R162: the clip at index i, popped from the mark stack, is closed. -/
def closeClip (i : Nat) (x : Clip) (c : Chip) : Chip :=
  let y := closedClip x c
  autoOffer i y (putClip i y { c with clips := { c.clips with
    closed := bump c.clips.closed, emptyClips := bumpIf y.empty c.clips.emptyClips } })

/-- The mark stack with its top popped. -/
def popMark (c : Chip) : Chip := { c with clips := { c.clips with stack := c.clips.stack.drop 1 } }

/-! ## Automatic clips (R164) -/

/-- The clip on top of the mark stack with its index. -/
def topClip (l : ClipLog) : Option (Nat × Clip) :=
  match l.stack with
  | [] => none
  | i :: _ => (clipAt l i).map (fun x => (i, x))

/-- R164, step 1: an AUTO clip on top whose context is not the programme is popped and closed. -/
def autoClose (programme : Option Ctx) (c : Chip) : Chip :=
  match topClip c.clips with
  | some (i, x) => if x.auto && !(programme == some x.ctx) then closeClip i x (popMark c) else c
  | none => c

/-- R164, step 2: whether the top of the stack is an AUTO clip of this context. -/
def topIsAutoOf (k : Ctx) (l : ClipLog) : Bool :=
  match topClip l with
  | some (_, x) => x.auto && x.ctx == k
  | none => false

/-- R164, step 2: an AUTO clip is opened for a programme context with auto-clip ON, or is skipped with
CLIP_TROUBLE where none can be opened. -/
def autoOpen (programme : Option Ctx) (c : Chip) : Chip :=
  match programme with
  | none => c
  | some k =>
    if c.clips.autoClip[k] && !topIsAutoOf k c.clips then
      if clipsFull c.clips then
        setAttention [.clipTrouble]
          { c with clips := { c.clips with autoSkipped := bump c.clips.autoSkipped } }
      else openClip k [] 0 true { c with clips := { c.clips with autoOpened := bump c.clips.autoOpened } }
    else c

/-- R164: the hand-over of the programme context after a pending operation has been applied. -/
def autoClips (programme : Option Ctx) (c : Chip) : Chip := autoOpen programme (autoClose programme c)

/-! ## A clip's label: sending and outcomes (R167) -/

/-- R167, first sending: the clip becomes AWAITING. -/
def labelSent (i : Nat) (c : Chip) : Chip :=
  match clipAt c.clips i with
  | some x => if x.state = .queued then putClip i { x with state := .awaiting } c else c
  | none => c

/-- R169: a clip that becomes DELIVERED is counted and CLIP_DELIVERED is set. -/
def countDelivered (n : Nat) (c : Chip) : Chip :=
  setAttentionIf (0 < n) [.clipDelivered]
    { c with clips := { c.clips with delivered := bumpBy n c.clips.delivered } }

/-- R167, delivered: the clip becomes LABELLED, or DELIVERED at once where pictures done is set. -/
def labelDelivered (i : Nat) (c : Chip) : Chip :=
  match clipAt c.clips i with
  | some x =>
    if x.state = .awaiting then
      if x.done = some true then
        countDelivered 1 (putClip i { x with state := .delivered, labelLost := false } c)
      else putClip i { x with state := .labelled, labelLost := false } c
    else c
  | none => c

/-- R167, lost: the clip becomes CLOSED with LABEL_LOST, CLIP_TROUBLE is set and the loss is counted. -/
def labelLost (i : Nat) (c : Chip) : Chip :=
  match clipAt c.clips i with
  | some x =>
    if x.state = .awaiting then
      setAttention [.clipTrouble] (putClip i { x with state := .closed, labelLost := true }
        { c with clips := { c.clips with labelsLost := bump c.clips.labelsLost } })
    else c
  | none => c

/-! ## Pictures (R168, R169) -/

/-- R168: whether a clip's span contains picture p: of an OPEN clip from its in picture on, of any other
clip from its in picture to its out picture. -/
def spanHas (x : Clip) (p : PicNum) : Bool :=
  !serialBefore p x.inPicture &&
    (match x.outPicture with
      | none => true
      | some out => !serialBefore out p)

/-- R168: GAP is applied in the states OPEN, CLOSED, QUEUED, AWAITING and LABELLED. -/
def takesGap : ClipState → Bool
  | .opened => true
  | .closed => true
  | .queued => true
  | .awaiting => true
  | .labelled => true
  | .delivered => false
  | .void => false

/-- R168: whether the clip is newly marked GAP by the loss of picture p of context k. An EMPTY clip cannot be marked,
because its span holds no number. -/
def newGap (k : Ctx) (p : PicNum) (x : Clip) : Bool :=
  x.ctx == k && takesGap x.state && !x.empty && spanHas x p && !x.gap

/-- R168: GAP set on each clip of the context whose span holds the picture. -/
def gapStep (k : Ctx) (p : PicNum) (c : Chip) : Chip :=
  let hit (e : Option Clip) : Bool := match e with
    | some x => newGap k p x
    | none => false
  let mark (e : Option Clip) : Option Clip := match e with
    | some x => some (if newGap k p x then { x with gap := true } else x)
    | none => none
  { c with clips := { c.clips with
      table := mapAll mark c.clips.table,
      gapMarks := bumpBy (c.clips.table.toList.countP hit) c.clips.gapMarks } }

/-- R169: the states in which a clip's pictures are judged. -/
def awaitsPictures : ClipState → Bool
  | .closed => true
  | .queued => true
  | .awaiting => true
  | .labelled => true
  | .opened => false
  | .delivered => false
  | .void => false

/-- R169: whether a clip's pictures become done at this low-water number. -/
def newDone (k : Ctx) (lw : PicNum) (x : Clip) : Bool :=
  x.ctx == k && awaitsPictures x.state && x.done == some false &&
    (match x.outPicture with
      | some out => serialBefore out lw
      | none => false)

/-- R169: pictures done set on each such clip, and a LABELLED one becomes DELIVERED. -/
def doneStep (k : Ctx) (lw : PicNum) (c : Chip) : Chip :=
  let hit (e : Option Clip) : Bool := match e with
    | some x => newDone k lw x && x.state == .labelled
    | none => false
  let mark (e : Option Clip) : Option Clip := match e with
    | some x => some (if newDone k lw x then
        { x with done := some true, state := if x.state = .labelled then .delivered else x.state } else x)
    | none => none
  countDelivered (c.clips.table.toList.countP hit)
    { c with clips := { c.clips with table := mapAll mark c.clips.table } }

/-- R168, R169: the hand-over of one resolution: its GAP step where the outcome is SHED or LOST, then the
judgement of the context's clips at the new low-water number. -/
def clipsTakePicture (k : Ctx) (p : PicNum) (bad : Bool) (lw : PicNum) (c : Chip) : Chip :=
  doneStep k lw (if bad then gapStep k p c else c)

/-! ## Commands -/

/-- R161: MARK_IN. -/
def markIn (ctx : Byte) (text : List Byte) (rating : Byte) (c : Chip) : Chip × Reply :=
  if c.port.mode = .standby then refuse .refusedState c
  else match ctxOf ctx with
    | none => refuse .refusedRange c
    | some k =>
      if 32 < text.length then refuse .refusedRange c
      else if clipsFull c.clips then refuse .refusedFull c
      else if c.ctx[k].state ≠ .running then refuse .refusedState c
      else
        (openClip k text (clampNat rating.toNat 0 5) false
          { c with clips := { c.clips with opened := bump c.clips.opened } },
         { code := if 5 < rating.toNat then .doneClamped else .done,
           data := [num8 c.clips.write] ++ be16 c.clips.nextId })

/-- R162: MARK_OUT. Whether the clip is EMPTY is answered in one byte, 1 for EMPTY and 0 otherwise (log entry 33, a
choice: R188 has no type for a flag). -/
def markOut (c : Chip) : Chip × Reply :=
  if c.port.mode = .standby then refuse .refusedState c
  else match topClip c.clips with
    | none => refuse .refusedEmpty c
    | some (i, x) =>
      (closeClip i x (popMark c), { code := .done, data := [num8 i, flag8 (closesEmpty x c)] })

/-- Six OFF or ON choices, where all six are one of the two. -/
def sixOnOff (v : Vector Byte 6) : Option (Vector Bool 6) :=
  if v.toList.all (fun b => (onOffOf b).isSome) then some (mapAll (fun b => b == 1#8) v) else none

/-- R163: SET_CLIP_MODE. -/
def setClipMode (autoSend : Byte) (autoClip : Vector Byte 6) (c : Chip) : Chip × Reply :=
  match onOffOf autoSend, sixOnOff autoClip with
  | some a, some v =>
    ({ c with clips := { c.clips with autoSend := a, autoClip := v } }, reply .done)
  | _, _ => refuse .refusedRange c

/-- R165: the text and rating of a clip replaced. -/
def relabelled (x : Clip) (text : List Byte) (rating : Byte) : Clip :=
  { x with text := text, rating := clampNat rating.toNat 0 5 }

/-- R165: a clip's version raised by one, and LABEL_LOST cleared. -/
def raised (x : Clip) : Clip := { x with version := x.version + 1, labelLost := false }

/-- R165: LABEL, taken by the clip's state. -/
def labelClip (i : Nat) (x : Clip) (text : List Byte) (rating : Byte) (c : Chip) : Chip × Reply :=
  let y := relabelled x text rating
  let ok := doneReply (5 < rating.toNat)
  match x.state with
  | .opened => (putClip i y c, ok)
  | .closed =>
    if x.labelLost then
      if x.version = 255#8 then refuse .refusedState c else (putClip i (raised y) c, ok)
    else (putClip i y c, ok)
  | .queued =>
    if x.labelLost then
      if x.version = 255#8 then refuse .refusedState c
      else (replaceLabel (labelFrame i (raised y)) (putClip i (raised y) c), ok)
    else (replaceLabel (labelFrame i y) (putClip i y c), ok)
  | .awaiting => refuse .refusedBusy c
  | .labelled =>
    if x.version = 255#8 then refuse .refusedState c
    else
      let z := { y with version := y.version + 1, state := .closed }
      (autoOffer i z (putClip i z c), ok)
  | .delivered =>
    if x.version = 255#8 then refuse .refusedState c
    else
      let z := { y with version := y.version + 1, state := .closed }
      (autoOffer i z (putClip i z c), ok)
  | .void => refuse .refusedState c

/-- R165: LABEL. -/
def label (index : Byte) (text : List Byte) (rating : Byte) (c : Chip) : Chip × Reply :=
  if 127 < index.toNat then refuse .refusedRange c
  else if 32 < text.length then refuse .refusedRange c
  else if index.toNat < c.clips.fence then refuse .refusedFenced c
  else match clipAt c.clips index.toNat with
    | none => refuse .refusedState c
    | some x => labelClip index.toNat x text rating c

/-- R166: SEND_LABEL. -/
def sendLabel (index : Byte) (c : Chip) : Chip × Reply :=
  if 127 < index.toNat then refuse .refusedRange c
  else if index.toNat < c.clips.fence then refuse .refusedFenced c
  else match clipAt c.clips index.toNat with
    | none => refuse .refusedState c
    | some x =>
      match x.state with
      | .closed =>
        (offerLabel index.toNat x c, reply (if labelRoom c.sched then .done else .refusedFull))
      | .queued => refuse .refusedBusy c
      | .awaiting => refuse .refusedBusy c
      | .opened => refuse .refusedState c
      | .labelled => refuse .refusedState c
      | .delivered => refuse .refusedState c
      | .void => refuse .refusedState c

/-- R170: a clip made VOID. -/
def makeVoid (i : Nat) (x : Clip) (c : Chip) : Chip :=
  putClip i { x with state := .void } { c with clips := { c.clips with voided := bump c.clips.voided } }

/-- R170: VOID_CLIP. -/
def voidClip (index : Byte) (c : Chip) : Chip × Reply :=
  if 127 < index.toNat then refuse .refusedRange c
  else if index.toNat < c.clips.fence then refuse .refusedFenced c
  else match clipAt c.clips index.toNat with
    | none => refuse .refusedState c
    | some x =>
      match x.state with
      | .closed => (makeVoid index.toNat x c, reply .done)
      | .labelled => (makeVoid index.toNat x c, reply .done)
      | .delivered => (makeVoid index.toNat x c, reply .done)
      | .queued => (makeVoid index.toNat x (withdrawLabel index.toNat c), reply .done)
      | .opened => refuse .refusedState c
      | .awaiting => refuse .refusedBusy c
      | .void => refuse .refusedState c

/-- R171: an entry that may fall below the fence: DELIVERED or VOID. -/
def isSettled (e : Option Clip) : Bool :=
  match e with
  | some x => x.state == .delivered || x.state == .void
  | none => false

/-- R171: SET_FENCE. -/
def setFence (position : Byte) (c : Chip) : Chip × Reply :=
  let n := position.toNat
  if 128 < n then refuse .refusedRange c
  else if n < c.clips.fence || c.clips.write < n then refuse .refusedState c
  else if !((c.clips.table.toList.take n).all isSettled) then refuse .refusedState c
  else ({ c with clips := { c.clips with fence := n } }, reply .done)

/-- R172: an entry that keeps CLEAR_CLIPS from being taken: OPEN, QUEUED or AWAITING. -/
def inWork (e : Option Clip) : Bool :=
  match e with
  | some x => x.state == .opened || x.state == .queued || x.state == .awaiting
  | none => false

/-- R172: CLEAR_CLIPS. -/
def clearClips (c : Chip) : Chip × Reply :=
  if c.clips.table.toList.any inWork then refuse .refusedState c
  else
    ({ c with clips := { c.clips with table := Vector.replicate 128 none, write := 0, fence := 0 } },
     reply .done)

/-- R158, R188: the code of a clip's state in an answer; FREE is 0. -/
def clipStateByte : ClipState → Byte
  | .opened => 1
  | .closed => 2
  | .queued => 3
  | .awaiting => 4
  | .labelled => 5
  | .delivered => 6
  | .void => 7

/-- R185: an optional value behind its presence byte; n bytes of 0 where it is absent. -/
def optBytes (n : Nat) : Option (List Byte) → List Byte
  | some bs => 1#8 :: bs
  | none => 0#8 :: zeros n

/-- R173: the entry's state, then every field of R158 in its order, in the sizes of R188 (log entry 9). -/
def clipBytes (i : Nat) (e : Option Clip) : List Byte :=
  match e with
  | none => [0#8]
  | some x =>
    [clipStateByte x.state, num8 i] ++ be16 x.id ++ [num8 x.sourceUnit.val, num8 x.ctx.val]
      ++ be16 x.inPicture ++ timecodeBytes x.inTimecode ++ optBytes 2 (x.outPicture.map be16)
      ++ optBytes 4 (x.outTimecode.map timecodeBytes) ++ [num8 x.text.length] ++ x.text
      ++ [num8 x.rating] ++ num16 x.version.toNat
      ++ [flag8 x.auto ||| (flag8 x.gap <<< 1) ||| (flag8 x.empty <<< 2) ||| (flag8 x.labelLost <<< 3)]
      ++ optBytes 2 (x.parent.map be16) ++ optBytes 1 (x.done.map (fun d => [flag8 d]))

/-- R173: READ_CLIP. -/
def readClip (index : Byte) (c : Chip) : Chip × Reply :=
  if 127 < index.toNat then refuse .refusedRange c
  else (c, { code := .done, data := clipBytes index.toNat (clipAt c.clips index.toNat) })

/-! ## Resets (R174) -/

/-- R174: the clip log after a unit reset. -/
def resetClips (l : ClipLog) : ClipLog :=
  { ClipLog.powerOn with
    table := tabulate 128 (fun i => if i.val < l.fence then l.table[i] else none),
    write := l.fence, fence := l.fence, nextId := l.nextId, autoSend := l.autoSend, autoClip := l.autoClip }

/-! ## The commands' meanings -/

/-- MARK_IN (R161). -/
def execMarkIn (tag ctx : Byte) (text : List Byte) (rating : Byte) (s : State) :=
  s.onChip (takeCommand tag .markIn (markIn ctx text rating))

/-- MARK_OUT (R162). -/
def execMarkOut (tag : Byte) (s : State) := s.onChip (takeCommand tag .markOut markOut)

/-- SET_CLIP_MODE (R163). -/
def execSetClipMode (tag autoSend : Byte) (autoClip : Vector Byte 6) (s : State) :=
  s.onChip (takeCommand tag .setClipMode (setClipMode autoSend autoClip))

/-- LABEL (R165). -/
def execLabel (tag index : Byte) (text : List Byte) (rating : Byte) (s : State) :=
  s.onChip (takeCommand tag .label (label index text rating))

/-- SEND_LABEL (R166). -/
def execSendLabel (tag index : Byte) (s : State) := s.onChip (takeCommand tag .sendLabel (sendLabel index))

/-- VOID_CLIP (R170). -/
def execVoidClip (tag index : Byte) (s : State) := s.onChip (takeCommand tag .voidClip (voidClip index))

/-- SET_FENCE (R171). -/
def execSetFence (tag position : Byte) (s : State) :=
  s.onChip (takeCommand tag .setFence (setFence position))

/-- CLEAR_CLIPS (R172). -/
def execClearClips (tag : Byte) (s : State) := s.onChip (takeCommand tag .clearClips clearClips)

/-- READ_CLIP (R173). -/
def execReadClip (tag index : Byte) (s : State) := s.onChip (takeCommand tag .readClip (readClip index))

end Sys2Proof.Machine
end

