-- ==== Sys2Proof/Machine/Delivery.lean ====
section
/-! DEFINITION. Chapter 10: the resolution of pictures, the low-water numbers and the send-event log; and the
reaching of STOPPED by a context whose video queue a resolution empties (R45). -/

namespace Sys2Proof.Machine

/-! ## Low-water numbers (R152) -/

/-- R152: the numbers of a context's unresolved records, in the order of R54: those of its video queue, the
record in the engine, the ready record and the gathering record. -/
def unresolved (k : Ctx) (c : Chip) : List PicNum :=
  c.sched.videoQueue[k].map (fun q => q.picture.number)
    ++ (match c.engine.op with
        | some o => if o.picture.ctx = k then [o.picture.number] else []
        | none => [])
    ++ (match c.ctx[k].ready with
        | some r => [r.picture.number]
        | none => [])
    ++ (match c.ctx[k].gathering with
        | some g => [g.picture.number]
        | none => [])

/-- Section 0.6.3: the serially smallest of a list of numbers that begins with x. -/
def serialLeast (x : PicNum) (xs : List PicNum) : PicNum :=
  xs.foldl (fun m y => if serialBefore y m then y else m) x

/-- R152: the serially smallest unresolved number, or the next number where there is none. -/
def lowWaterOf (k : Ctx) (c : Chip) : PicNum :=
  match unresolved k c with
  | [] => c.ctx[k].nextNumber
  | x :: xs => serialLeast x xs

/-- R152: a context's low-water number recomputed. -/
def setLowWater (k : Ctx) (c : Chip) : Chip :=
  { c with acct := { c.acct with lowWater := setAt c.acct.lowWater k (lowWaterOf k c) } }

/-! ## The send-event log (R153, R154) -/

/-- R153: an entry is written at the end of the log, or where the log holds 32 it is refused and counted and
LOG_FULL is set. -/
def writeLog (e : LogEntry) (c : Chip) : Chip :=
  if c.acct.log.length < 32 then
    { c with acct := { c.acct with
        log := c.acct.log ++ [e], entriesWritten := bump c.acct.entriesWritten } }
  else
    setAttention [.logFull]
      { c with acct := { c.acct with logFullRefusals := bump c.acct.logFullRefusals } }

/-- R153: whether a log mode writes an outcome. -/
def logsOutcome (m : LogMode) (o : PicOutcome) : Bool :=
  match m with
  | .none => false
  | .trouble => match o with
    | .delivered => false
    | .shed _ => true
    | .lost => true
  | .all => true

/-- R154: the entry of a settled label; the clip's id and in timecode are read from the clip table. -/
def logLabel (delivered : Bool) (i : Nat) (version : Byte) (sendCount : Nat) (c : Chip) : Chip :=
  let id := (clipAt c.clips i).elim 0 (·.id)
  let tc := (clipAt c.clips i).elim Timecode.zero (·.inTimecode)
  writeLog (.label delivered i id version tc c.time.ms sendCount) c

/-! ## Resolution (R149 to R151) -/

/-- R156: the counter of a context that an outcome raises. -/
def countOutcome (o : PicOutcome) (x : Outcomes) : Outcomes :=
  match o with
  | .delivered => { x with delivered := bump x.delivered }
  | .shed .late => { x with shed := bump x.shed, late := bump x.late }
  | .shed _ => { x with shed := bump x.shed }
  | .lost => { x with lost := bump x.lost }

/-- R151, step 3: the attention an outcome sets. -/
def outcomeAttention (o : PicOutcome) : List AttClass :=
  match o with
  | .delivered => []
  | .shed _ => [.pictureShed]
  | .lost => [.pictureLost]

/-- R168: SHED and LOST open a gap. -/
def isLoss (o : PicOutcome) : Bool :=
  match o with
  | .delivered => false
  | .shed _ => true
  | .lost => true

/-- R151: the six steps of a resolution, for a record that its holder has let go: count, attention, low-water
number, hand-over to the clip log, send-event log. -/
def resolve (p : Picture) (qUsed : Option Nat) (highestSend : Nat) (o : PicOutcome) (c : Chip) : Chip :=
  let k := p.ctx
  let c1 := { c with acct := { c.acct with outcomes := modAt c.acct.outcomes k (countOutcome o) } }
  let c2 := setLowWater k (setAttention (outcomeAttention o) c1)
  let c3 := clipsTakePicture k p.number (isLoss o) c2.acct.lowWater[k] c2
  if logsOutcome c3.rate[k].settings.logMode o then
    writeLog (.picture o p qUsed c3.time.ms highestSend) c3
  else c3

/-- R45: a context reaches STOPPED: T, R and F become 0 and q becomes q_start. -/
def reachStopped (k : Ctx) (c : Chip) : Chip :=
  modRate k (fun r => { r with target := 0, size := 0, fill := 0, q := r.shape.qStart })
    (modCtx k (fun x => { x with state := .stopped }) c)

/-- R45: a DRAINING context whose video queue is empty becomes STOPPED. -/
def endDrainedContext (k : Ctx) (c : Chip) : Chip :=
  if c.ctx[k].state = .draining && c.sched.videoQueue[k].isEmpty then reachStopped k c else c

/-- R140: a queued picture's fragments that are neither sent nor withdrawn. -/
def unsent (q : Queued) : Nat := q.fragments - q.sent - q.withdrawn

/-- R150: the outcome of a queued picture with nothing outstanding and nothing unsent. -/
def queuedOutcome (q : Queued) : PicOutcome :=
  if 1 ≤ q.withdrawn then .shed .late
  else if q.delivered = q.fragments then .delivered
  else .lost

/-- R150: whether a queued picture's counts resolve it. -/
def resolvable (q : Queued) : Bool := q.outstanding == 0 && unsent q == 0

/-- A video queue changed. -/
def modVideo (k : Ctx) (f : List Queued → List Queued) (c : Chip) : Chip :=
  { c with sched := { c.sched with videoQueue := modAt c.sched.videoQueue k f } }

/-- The record of a video queue with a picture number. -/
def findQueued (k : Ctx) (n : PicNum) (c : Chip) : Option Queued :=
  c.sched.videoQueue[k].find? (fun q => q.picture.number == n)

/-- R150: the record is judged; where its counts resolve it, it leaves its queue from wherever it stands, it
is resolved, and a DRAINING context whose queue it empties becomes STOPPED. -/
def judgeQueued (k : Ctx) (n : PicNum) (c : Chip) : Chip :=
  match findQueued k n c with
  | none => c
  | some q =>
    if resolvable q then
      endDrainedContext k (resolve q.picture (some q.qUsed) q.highestSend (queuedOutcome q)
        (modVideo k (fun v => v.filter (fun r => !(r.picture.number == n))) c))
    else c

/-- A queued record's counts changed and handed to delivery accounting (R140). -/
def changeQueued (k : Ctx) (n : PicNum) (f : Queued → Queued) (c : Chip) : Chip :=
  judgeQueued k n (modVideo k (fun v => v.map (fun q => if q.picture.number == n then f q else q)) c)

/-! ## READ_LOG (R155) -/

/-- R155: DELIVERED 0, SHED 1, LOST 2. -/
def outcomeByte : PicOutcome → Byte
  | .delivered => 0
  | .shed _ => 1
  | .lost => 2

/-- R155. -/
def reasonByte : ShedReason → Byte
  | .overrun => 0
  | .stopped => 1
  | .reservoir => 2
  | .queueFull => 3
  | .late => 4

/-- R153: the shed reason, present only for SHED. -/
def reasonOf (o : PicOutcome) : Option ShedReason :=
  match o with
  | .shed r => some r
  | .delivered => none
  | .lost => none

/-- R155: the 23 bytes of an entry. -/
def logEntryBytes : LogEntry → List Byte
  | .picture o p q ms hi =>
    [outcomeByte o, num8 p.ctx.val] ++ be16 p.number ++ [p.marker] ++ timecodeBytes p.timecode
      ++ [flag8 p.damaged] ++ optBytes 1 (q.map (fun x => [num8 x])) ++ be32 ms ++ [num8 hi]
      ++ optBytes 1 ((reasonOf o).map (fun r => [reasonByte r])) ++ zeros 4
  | .label delivered i id version tc ms hi =>
    [if delivered then 3#8 else 4#8] ++ zeros 4 ++ timecodeBytes tc ++ zeros 3 ++ be32 ms ++ [num8 hi]
      ++ zeros 2 ++ [num8 i] ++ be16 id ++ [version]

/-- R155: READ_LOG. -/
def readLog (c : Chip) : Chip × Reply :=
  if c.acct.log.isEmpty then refuse .refusedEmpty c
  else
    let es := c.acct.log.take 4
    ({ c with acct := { c.acct with log := c.acct.log.drop 4 } },
     { code := .done,
       data := [num8 es.length] ++ (es.flatMap logEntryBytes ++ zeros 92).take 92 })

/-! ## Resets (R157) -/

/-- R157: delivery accounting after a unit reset; each low-water number is its context's next number. -/
def resetAcct (c : Chip) : Accounting :=
  { Accounting.powerOn with lowWater := tabulate 6 (fun k => c.ctx[k].nextNumber) }

/-- READ_LOG (R155). -/
def execReadLog (tag : Byte) (s : State) := s.onChip (takeCommand tag .readLog readLog)

end Sys2Proof.Machine
end

