-- ==== Sys2Proof/Machine/Budget.lean ====
section
/-! DEFINITION. Chapter 5, sections 5.1 to 5.4: the planning capacity and the division of each picture period's
bytes into shares and targets; SET_BUDGET. -/

namespace Sys2Proof.Machine

/-- Pictures per second (section 0.6.1). -/
def rateHz : Rate → Nat
  | .r25 => 25
  | .r30 => 30
  | .r50 => 50
  | .r60 => 60

/-- R60, R112: the planning capacity in kbit/s. -/
def planningCapacity (l : Link) : Nat :=
  match l.state with
  | .down => 500
  | .lost => 500
  | .hailing => l.capacity
  | .up => l.capacity
  | .draining => l.capacity
  | .held => l.capacity

/-- R60: B = floor(C × 125 / rate). -/
def periodBytes (capacity : Nat) (r : Rate) : Nat := capacity * 125 / rateHz r

/-- R61: whether the audio share is granted. -/
def audioGranted (c : Chip) : Bool :=
  c.mixer.audioSend && (c.link.state == .up || c.link.state == .lost)

/-- R61: A = min(B, floor(296,000 / rate)), or 0. -/
def audioShare (granted : Bool) (bytes : Nat) (r : Rate) : Nat :=
  if granted then min bytes (296000 / rateHz r) else 0

/-- Section 5.3: the contexts that share the video bytes. -/
def sharing (s : CtxState) : Bool :=
  match s with
  | .running => true
  | .draining => true
  | .stopped => false
  | .starting => false

/-- R63: the sharing contexts, the programme context first, then in ascending number. -/
def grantOrder (shares : Ctx → Bool) (programme : Option Ctx) : List Ctx :=
  match programme with
  | some p => [p].filter shares ++ allCtx.filter (fun k => shares k && !(k == p))
  | none => allCtx.filter shares

/-- R63: the minimums granted in turn from the bytes that remain. -/
def grantMinimums (setting : Ctx → Nat) : List Ctx → Nat → Vector Nat 6 → Nat × Vector Nat 6
  | [], left, g => (left, g)
  | k :: rest, left, g =>
    let grant := min (setting k) left
    grantMinimums setting rest (left - grant) (setAt g k grant)

/-- R64: a context's effective weight. -/
def effectiveWeight (programme : Option Ctx) (k : Ctx) (s : CtxSettings) : Nat :=
  if programme = some k then s.weight * s.boost else s.weight

/-- R64: W, the sum of the effective weights of the sharing contexts. -/
def totalWeight (shares : Ctx → Bool) (weight : Ctx → Nat) : Nat :=
  ((allCtx.filter shares).map weight).sum

/-- R64: T_k = g_k + floor(V′ × e_k / W), and 0 for a context that does not share. -/
def targetOf (shares : Bool) (grant rest weight total : Nat) : Nat :=
  if shares then grant + rest * weight / total else 0

/-- R60 to R64: the division of a picture period's bytes. -/
def divide (c : Chip) : Budget :=
  let capacity := planningCapacity c.link
  let bytes := periodBytes capacity c.time.rate
  let audio := audioShare (audioGranted c) bytes c.time.rate
  let lab := min c.budget.reserve (bytes - audio)
  let video := bytes - audio - lab
  let shares (k : Ctx) : Bool := sharing c.ctx[k].state
  let setting (k : Ctx) : Nat := c.rate[k].settings.minimum
  let order := grantOrder shares c.sel.programme
  let granted := grantMinimums setting order video (Vector.replicate 6 0)
  let weight (k : Ctx) : Nat := effectiveWeight c.sel.programme k c.rate[k].settings
  let total := totalWeight shares weight
  let targets := tabulate 6 (fun k => targetOf (shares k) granted.2[k] granted.1 (weight k) total)
  let short := order.any (fun k => granted.2[k] < setting k)
  { capacity := capacity, bytes := bytes, audio := audio, label := lab, reserve := c.budget.reserve,
    minimums := granted.2, targets := targets, idle := bytes - audio - lab - targets.toList.sum,
    shortfalls := bumpIf short c.budget.shortfalls }

/-- R59: the budget divider's work at a boundary. -/
def budgetBoundary (c : Chip) : Chip := { c with budget := divide c }

/-- R75: SET_BUDGET. -/
def setBudget (reserve : BitVec 16) (c : Chip) : Chip × Reply :=
  ({ c with budget := { c.budget with reserve := clampNat reserve.toNat 0 8192 } },
   doneReply (8192 < reserve.toNat))

/-- R77: the budget divider after a unit reset. -/
def resetBudget (b : Budget) : Budget := { Budget.powerOn with reserve := b.reserve }

/-- SET_BUDGET (R75). -/
def execSetBudget (tag : Byte) (reserve : BitVec 16) (s : State) :=
  s.onChip (takeCommand tag .setBudget (setBudget reserve))

end Sys2Proof.Machine
end

