-- ==== Sys2Proof/Machine/RateControl.lean ====
section
/-! DEFINITION. Chapter 5, sections 5.5 to 5.11: the reservoir, the judgement of a coded picture, the choice of the
next quantiser index, and SET_CONTEXT, SET_RESERVOIR and LOAD_CURVE. -/

namespace Sys2Proof.Machine

/-! ## The reservoir (R65) -/

/-- R65: a target granted: R = T × D, and F = min(F, R). -/
def grantTarget (t : Nat) (r : RateState) : RateState :=
  { r with target := t, size := t * r.shape.depth, fill := min r.fill (t * r.shape.depth) }

/-- R59, R65: each context's new target handed to the rate controller. -/
def rateBoundary (c : Chip) : Chip :=
  { c with rate := tabulate 6 (fun k => grantTarget c.budget.targets[k] c.rate[k]) }

/-! ## The cost of a picture (R66) -/

/-- R66: n = ceil(S / 1,368). -/
def fragmentCount (size : Nat) : Nat := (size + 1367) / 1368

/-- R66: E = S + 32 × n. -/
def sendSize (size : Nat) : Nat := size + 32 * fragmentCount size

/-! ## The judgement (R67) -/

/-- The three cases of R67. -/
inductive Verdict where
  | reservoir
  | queueFull
  | accepted
  deriving DecidableEq, Repr

/-- R67, tried in order: F + E − T > R; the video queue holds 8 records; otherwise accepted. -/
def judge (r : RateState) (e queued : Nat) : Verdict :=
  if r.size + r.target < r.fill + e then .reservoir
  else if 8 ≤ queued then .queueFull
  else .accepted

/-- R67: the fill after a judgement: max(0, F − T) for a shed, max(0, F + E − T) for an acceptance. -/
def fillAfter (r : RateState) (e : Nat) : Verdict → Nat
  | .reservoir => r.fill - r.target
  | .queueFull => r.fill - r.target
  | .accepted => r.fill + e - r.target

/-- R67: the counter of a judgement. -/
def countVerdict (v : Verdict) (r : RateState) : RateState :=
  match v with
  | .reservoir => { r with reservoirSheds := bump r.reservoirSheds }
  | .queueFull => { r with queueFullSheds := bump r.queueFullSheds }
  | .accepted => { r with accepted := bump r.accepted }

/-! ## The next quantiser index (R68 to R70) -/

/-- An entry of the curve. -/
def curveAt (r : RateState) (i : Nat) : Nat := (r.curve[i]?).getD 0

/-- R69: the target index interpolated from the curve at fill F of reservoir R. trunc rounds toward zero. -/
def curveTarget (r : RateState) : Int :=
  if r.size = 0 then r.shape.qMax
  else
    let i := 32 * r.fill / r.size
    if 32 ≤ i then curveAt r 32
    else
      let rem := 32 * r.fill - i * r.size
      (curveAt r i : Int) + Int.tdiv (((curveAt r (i + 1) : Int) - (curveAt r i : Int)) * (rem : Int)) (r.size : Int)

/-- R70: q_next after an acceptance, with the programme flag sampled at the grant. -/
def qAfterAccept (r : RateState) (programme : Bool) : Nat :=
  let biased := curveTarget r - (if programme then (r.settings.bias : Int) else 0)
  let t := clampInt biased r.shape.qMin r.shape.qMax
  ((r.q : Int) + clampInt (t - (r.q : Int)) (-(r.settings.slew : Int)) r.settings.slew).toNat

/-- R68: q_next after a shed. -/
def qAfterShed (r : RateState) : Nat := min r.shape.qMax (r.q + r.settings.slew)

/-- R67 to R70: the rate state after a picture of send size e has been judged. -/
def rateStep (r : RateState) (e : Nat) (v : Verdict) (programme : Bool) : RateState :=
  let r1 := countVerdict v { r with fill := fillAfter r e v }
  match v with
  | .reservoir => { r1 with q := qAfterShed r1 }
  | .queueFull => { r1 with q := qAfterShed r1 }
  | .accepted => { r1 with q := qAfterAccept r1 programme }

/-! ## Settings (R72 to R74) -/

/-- R72: SET_CONTEXT. -/
def setContext (ctx weight : Byte) (minimum : BitVec 32) (boost bias slew marker : Byte)
    (latency : BitVec 16) (logMode : Byte) (c : Chip) : Chip × Reply :=
  match ctxOf ctx, logModeOf logMode with
  | some k, some mode =>
    let w := clampNat weight.toNat 1 16
    let m := clampNat minimum.toNat 0 1000000
    let bo := clampNat boost.toNat 1 4
    let bi := clampNat bias.toNat 0 15
    let sl := clampNat slew.toNat 1 16
    let la := clampNat latency.toNat 40 2000
    let clamped := w ≠ weight.toNat || m ≠ minimum.toNat || bo ≠ boost.toNat || bi ≠ bias.toNat
      || sl ≠ slew.toNat || la ≠ latency.toNat
    (modRate k (fun r => { r with settings := { weight := w, minimum := m, boost := bo, bias := bi, slew := sl,
                                                marker := marker, latency := la, logMode := mode } }) c,
     doneReply clamped)
  | _, _ => refuse .refusedRange c

/-- R73: SET_RESERVOIR. -/
def setReservoir (ctx depth qMin qMax qStart : Byte) (c : Chip) : Chip × Reply :=
  match ctxOf ctx with
  | none => refuse .refusedRange c
  | some k =>
    if c.ctx[k].state ≠ .stopped then refuse .refusedState c
    else
      let d := clampNat depth.toNat 2 16
      let lo := clampNat qMin.toNat 1 96
      let hi := clampNat qMax.toNat 1 96
      if hi < lo then refuse .refusedRange c
      else
        let st := clampNat qStart.toNat lo hi
        let clamped := d ≠ depth.toNat || lo ≠ qMin.toNat || hi ≠ qMax.toNat || st ≠ qStart.toNat
        (modRate k (fun r => { r with shape := { depth := d, qMin := lo, qMax := hi, qStart := st }, q := st }) c,
         doneReply clamped)

/-- R74: 33 entries clamped into 1 to 96, as a curve. -/
def curveOf (es : List Byte) : Vector Nat 33 :=
  tabulate 33 (fun j => clampNat (es.getD j.val 0).toNat 1 96)

/-- R74: whether a curve entry is clamped. -/
def curveEntryClamped (b : Byte) : Bool := b.toNat < 1 || 96 < b.toNat

/-- R74: LOAD_CURVE. -/
def loadCurve (ctx : Byte) (entries : List Byte) (c : Chip) : Chip × Reply :=
  if entries.length ≠ 33 then refuse .refusedRange c
  else match ctxOf ctx with
    | none => refuse .refusedRange c
    | some k =>
      if c.ctx[k].state ≠ .stopped then refuse .refusedState c
      else (modRate k (fun r => { r with curve := curveOf entries }) c, doneReply (entries.any curveEntryClamped))

/-- R77: a context's rate state after a unit reset. -/
def resetRate (r : RateState) : RateState :=
  { r with target := 0, size := 0, fill := 0, q := r.shape.qStart, accepted := 0, reservoirSheds := 0,
           queueFullSheds := 0 }

/-- SET_CONTEXT (R72). -/
def execSetContext (tag ctx weight : Byte) (minimum : BitVec 32) (boost bias slew marker : Byte)
    (latency : BitVec 16) (logMode : Byte) (s : State) :=
  s.onChip (takeCommand tag .setContext (setContext ctx weight minimum boost bias slew marker latency logMode))

/-- SET_RESERVOIR (R73). -/
def execSetReservoir (tag ctx depth qMin qMax qStart : Byte) (s : State) :=
  s.onChip (takeCommand tag .setReservoir (setReservoir ctx depth qMin qMax qStart))

/-- LOAD_CURVE (R74). -/
def execLoadCurve (tag ctx : Byte) (entries : List Byte) (s : State) :=
  s.onChip (takeCommand tag .loadCurve (loadCurve ctx entries))

end Sys2Proof.Machine
end

