-- ==== Sys2Proof/Machine/Engine.lean ====
section
/-! DEFINITION. Section 4.4: the coding engine, its arbiter, the coding completion and the abandonment of an
operation; and the joining of a video queue (R140). -/

namespace Sys2Proof.Machine

/-! ## The arbiter (R51) -/

/-- The contexts in the order that follows a pointer, the pointer's own context last (R51, R135). -/
def rotation (p : Ctx) : List Ctx := [p + 1, p + 2, p + 3, p + 4, p + 5, p]

/-- Whether a context holds a ready record. -/
def hasReady (c : Chip) (k : Ctx) : Bool := c.ctx[k].ready.isSome

/-- R51, step 1: the programme context, where it holds a ready record. -/
def programmeReady (c : Chip) : Option Ctx :=
  match c.sel.programme with
  | some p => if hasReady c p then some p else none
  | none => none

/-- R52: a grant to a context: its ready record goes into the engine with q and the programme flag sampled. -/
def grantTo (k : Ctx) (c : Chip) : Chip :=
  match c.ctx[k].ready with
  | none => c
  | some r =>
    modCtx k (fun x => { x with ready := none })
      { c with engine := { c.engine with
          op := some { picture := r.picture, memory := r.memory, qUsed := c.rate[k].q,
                       programme := c.sel.programme == some k },
          grants := bump c.engine.grants } }

/-- R51: a grant where the engine is IDLE and a context holds a ready record: the programme context first, with
the pointer left where it stands, and otherwise by rotation, with the pointer set to the context granted. -/
def arbitrate (c : Chip) : Chip :=
  match c.engine.op with
  | some _ => c
  | none =>
    match programmeReady c with
    | some k =>
      grantTo k { c with engine := { c.engine with programmeGrants := bump c.engine.programmeGrants } }
    | none =>
      match (rotation c.engine.pointer).find? (hasReady c) with
      | some k => grantTo k { c with engine := { c.engine with pointer := k } }
      | none => c

/-! ## Coding completion (R52, R67, R140) -/

/-- R140: the record of an accepted picture: its deadline is the coding-completion ms plus the context's latency
budget, its fragments are all unsent, and it is not late. -/
def queuedRecord (o : Coding) (coded : List Byte) (ms : Millis) (latency : Nat) : Queued :=
  { picture := o.picture, qUsed := o.qUsed, programme := o.programme, completionMs := ms,
    size := coded.length, sendSize := sendSize coded.length, fragments := fragmentCount coded.length,
    deadline := ms + BitVec.ofNat 32 latency, sent := 0, delivered := 0, lost := 0, withdrawn := 0,
    outstanding := 0, late := false, highestSend := 0, coded := coded }

/-- R67: a judged picture joins its context's video queue, or is shed and resolved. -/
def settleVerdict (o : Coding) (coded : List Byte) (v : Verdict) (c : Chip) : Chip :=
  let k := o.picture.ctx
  match v with
  | .reservoir => resolve o.picture (some o.qUsed) 0 (.shed .reservoir) c
  | .queueFull => resolve o.picture (some o.qUsed) 0 (.shed .queueFull) c
  | .accepted =>
    modVideo k (fun q => q ++ [queuedRecord o coded c.time.ms c.rate[k].settings.latency]) c

/-- R67: the rate controller takes a completed picture: the judgement, its effect on the record, and the step of
F, the counters and q. -/
def takeCoded (o : Coding) (coded : List Byte) (c : Chip) : Chip :=
  let k := o.picture.ctx
  let e := sendSize coded.length
  let v := judge c.rate[k] e c.sched.videoQueue[k].length
  modRate k (fun r => rateStep r e v o.programme) (settleVerdict o coded v c)

/-- R52: the engine ends its operation, the rate controller takes the picture, and the arbiter grants again.
With the engine IDLE, or with a coded size that no engine delivers, there is no such event (log entry 8). -/
def codingDone (coded : List Byte) (c : Chip) : Chip :=
  match c.engine.op with
  | none => c
  | some o =>
    if codedSizeOk coded then
      arbitrate (takeCoded o coded
        { c with engine := { c.engine with op := none, completions := bump c.engine.completions } })
    else c

/-! ## Abandonment (R53) -/

/-- R44, step 1, and R53: an operation in flight for a stopped context is abandoned and its record shed. -/
def abandonFor (k : Ctx) (c : Chip) : Chip :=
  match c.engine.op with
  | none => c
  | some o =>
    if o.picture.ctx = k then
      resolve o.picture (some o.qUsed) 0 (.shed .stopped)
        { c with engine := { c.engine with op := none, abandoned := bump c.engine.abandoned } }
    else c

/-- CODING_COMPLETION (R52). -/
def execCodingCompletion (coded : List Byte) (s : State) := s.onChip (codingDone coded)

end Sys2Proof.Machine
end

