-- ==== Sys2Proof/Machine/Gather.lean ====
section
/-! DEFINITION. Chapter 4, sections 4.1 to 4.3: the picture gatherers at a VIDEO cell and at a picture boundary. -/

namespace Sys2Proof.Machine

/-- R48: a context's picture memory holds up to 4,194,304 bytes. -/
def pictureMemory : Nat := 4194304

/-- R47, R48, R50: a record marked DAMAGED. -/
def markDamaged (p : Picture) : Picture := { p with damaged := true }

/-- A record marked DAMAGED where the condition holds; damaged pictures counts the first marking (R48). -/
def damageIf (b : Bool) (g : Gathering) (x : Context) : Gathering × Context :=
  if b then
    ({ g with picture := markDamaged g.picture },
     { x with damagedPictures := bumpIf (!g.picture.damaged) x.damagedPictures })
  else (g, x)

/-- R50: a record completes: it leaves the gathering slot and becomes the ready record, an older ready record is
shed OVERRUN, and an idle engine is granted at once (R51). -/
def completePicture (k : Ctx) (g : Gathering) (c : Chip) : Chip :=
  let older := c.ctx[k].ready
  let c1 := modCtx k (fun x => { x with gathering := none, ready := some ⟨g.picture, g.memory⟩,
                                        completed := bump x.completed }) c
  arbitrate (match older with
    | none => c1
    | some r => resolve r.picture none 0 (.shed .overrun)
        (modCtx k (fun x => { x with overruns := bump x.overruns }) c1))

/-- R47, R48, R50: a gathering record that is ended without its end slice is marked DAMAGED and completes. -/
def endDamaged (k : Ctx) (g : Gathering) (c : Chip) : Chip :=
  let d := damageIf true g c.ctx[k]
  completePicture k d.1 (modCtx k (fun _ => d.2) c)

/-- R47: the record a start cell opens. -/
def openedRecord (k : Ctx) (lane : LaneNo) (cell : Cell) (c : Chip) : Gathering :=
  { picture := { ctx := k, number := c.ctx[k].nextNumber, timecode := c.time.timecode, startMs := c.time.ms,
                 marker := c.rate[k].settings.marker, damaged := false },
    lane := lane, stream := cell.stream, expected := cell.sequence + 1, fed := true, memory := cell.payload }

/-- R47: a start cell ends any gathering record, opens a new one under the next picture number (R46), and
completes it at once where the cell is a whole picture. -/
def startPicture (k : Ctx) (lane : LaneNo) (cell : Cell) (c : Chip) : Chip :=
  let c1 := match c.ctx[k].gathering with
    | some g => endDamaged k g c
    | none => c
  let g := openedRecord k lane cell c1
  let c2 := modCtx k (fun x => { x with gathering := some g, nextNumber := x.nextNumber + 1,
                                        slices := bump x.slices }) c1
  if cell.stop then completePicture k g c2 else c2

/-- R48: whether a cell follows on from a record: its lane, its stream and the expected sequence. -/
def followsOn (g : Gathering) (lane : LaneNo) (cell : Cell) : Bool :=
  g.lane == lane && g.stream == cell.stream && g.expected == cell.sequence

/-- R48: a slice without a start flag joins the gathering record. A slice that the picture memory cannot hold
is counted without its payload, and ends the record DAMAGED. -/
def joinPicture (k : Ctx) (g : Gathering) (lane : LaneNo) (cell : Cell) (c : Chip) : Chip :=
  let x := { c.ctx[k] with slices := bump c.ctx[k].slices }
  if pictureMemory < g.memory.length + cell.payload.length then
    let d := damageIf true { g with fed := true } x
    completePicture k d.1 (modCtx k (fun _ => d.2) c)
  else
    let d := damageIf (!followsOn g lane cell)
      { g with fed := true, expected := cell.sequence + 1, memory := g.memory ++ cell.payload } x
    let c1 := modCtx k (fun _ => { d.2 with gathering := some d.1 }) c
    if cell.stop then completePicture k d.1 c1 else c1

/-- R41, R46 to R49: a VIDEO cell at a context's gatherer. -/
def gatherCell (k : Ctx) (lane : LaneNo) (cell : Cell) (c : Chip) : Chip :=
  if c.ctx[k].state = .running then
    if cell.start then startPicture k lane cell c
    else
      match c.ctx[k].gathering with
      | some g => joinPicture k g lane cell c
      | none => modCtx k (fun x => { x with orphans := bump x.orphans }) c
  else modCtx k (fun x => { x with notRunning := bump x.notRunning }) c

/-- R50: the stale-gather check of one context: a record that has taken no cell since the previous boundary is
ended DAMAGED; otherwise its fed flag is cleared. -/
def staleCheck (k : Ctx) (c : Chip) : Chip :=
  match c.ctx[k].gathering with
  | none => c
  | some g =>
    if g.fed then modCtx k (fun x => { x with gathering := some { g with fed := false } }) c
    else endDamaged k g (modCtx k (fun x => { x with staleGathers := bump x.staleGathers }) c)

/-- R43: a STARTING context becomes RUNNING with F of 0 and q at q_start. -/
def beginRunning (k : Ctx) (c : Chip) : Chip :=
  modRate k (fun r => { r with fill := 0, q := r.shape.qStart })
    (modCtx k (fun x => { x with state := .running }) c)

/-- R43, R50: one context's gatherer at a picture boundary. -/
def gatherBoundaryAt (k : Ctx) (c : Chip) : Chip :=
  match c.ctx[k].state with
  | .running => staleCheck k c
  | .starting => beginRunning k c
  | .stopped => c
  | .draining => c

/-- R14: the picture gatherers at a picture boundary, taken in the order C0 to C5 (log entry 12). Each context's record
that completes is granted as it completes where the engine is idle (R50, R51), so of several stale records the
lowest-numbered context's is granted, ahead of the programme context's (log entry 36, a choice). -/
def gatherBoundary (c : Chip) : Chip := allCtx.foldl (fun d k => gatherBoundaryAt k d) c

/-- R56, R57: a context at the gatherer after a unit reset. -/
def resetCtx (x : Context) : Context := { Context.powerOn with nextNumber := x.nextNumber }

end Sys2Proof.Machine
end

