-- ==== Sys2Proof/Machine/Mixer.lean ====
section
/-! DEFINITION. Chapter 6: the sound mixer: its inputs and their buffers, the gain table, the fixed-point mix,
faders and audio-follow-video, the programme frame, the AUX cells and the mixer's commands. -/

namespace Sys2Proof.Machine

/-! ## Input buffers (R78, R79) -/

/-- R78: an AUDIO cell at an input. -/
def receiveBlock (payload : List Byte) (x : Input) : Input :=
  if payload.length ≠ 144 then { x with lengthErrors := bump x.lengthErrors }
  else
    let full := 4 ≤ x.buffer.length
    { x with
        active := true,
        underrunRun := if x.active then x.underrunRun else 0,
        buffer := (if full then x.buffer.drop 1 else x.buffer) ++ [readSamples payload],
        overruns := bumpIf full x.overruns }

/-- R79: 48 samples of 0. -/
def silence : List Sample := List.replicate 48 0

/-- R79: an input whose consecutive-underrun count has reached 100 becomes IDLE with the count 0; the loss is
counted and AUDIO_INPUT_LOST is set. -/
def loseInput (i : InputNo) (c : Chip) : Chip :=
  let c1 := modInput i (fun x => { x with active := false, underrunRun := 0 }) c
  setAttention [.audioInputLost]
    { c1 with mixer := { c1.mixer with inputsLost := bump c1.mixer.inputsLost } }

/-- R79: one block, or silence, taken from an input at a tick. -/
def takeBlock (i : InputNo) (c : Chip) : Chip × List Sample :=
  let x := c.mixer.inputs[i]
  match x.buffer with
  | b :: rest =>
    (modInput i (fun y => { y with buffer := rest, blocksTaken := bump y.blocksTaken, underrunRun := 0 }) c, b)
  | [] =>
    if x.active then
      let c1 := modInput i (fun y => { y with underruns := bump y.underruns, underrunRun := y.underrunRun + 1 }) c
      (if 100 ≤ x.underrunRun + 1 then loseInput i c1 else c1, silence)
    else (c, silence)

/-- R83, step 1: one block from every input, in the order I0 to I15. -/
def takeBlocks (c : Chip) : Chip × List (List Sample) :=
  allInputs.foldl (fun acc i =>
    let t := takeBlock i acc.1
    (t.1, acc.2 ++ [t.2])) (c, [])

/-! ## Gains and saturation (R80, R84 to R86) -/

/-- R80: an entry of the gain table as it is read: entry 0 reads as 0. -/
def gainAt (g : Vector (BitVec 16) 256) (n : Nat) : Nat :=
  if n = 0 then 0 else ((g[n]?).getD 0).toNat

/-- R84: floor(x × G / 4,096); / on Int with a positive divisor rounds toward minus infinity. -/
def scale (gain : Nat) (x : Int) : Int := x * (gain : Int) / 4096

/-- R84: saturation into the sample range. -/
def saturate (x : Int) : Int :=
  if x < -8388608 then -8388608 else if 8388607 < x then 8388607 else x

/-- R84: whether a value lies outside the sample range. -/
def clips (x : Int) : Bool := x < -8388608 || 8388607 < x

/-- One stage of the mix on a block: each sample scaled and saturated (R84, R85, R86). -/
def stage (gain : Nat) (xs : List Int) : List Int := xs.map (fun x => saturate (scale gain x))

/-- The samples of a block that a stage saturates. -/
def stageClips (gain : Nat) (xs : List Int) : Nat := xs.countP (fun x => clips (scale gain x))

/-- The samples of a block as integers. -/
def blockInts (b : List Sample) : List Int := (List.range 48).map (fun p => (b.getD p 0).toInt)

/-! ## Faders (R88) -/

/-- R88: a fader moves toward its target by at most its step. -/
def moveFader (x : Fader) : Fader :=
  { x with index :=
      if x.index < x.target then min x.target (x.index + x.step)
      else if x.target < x.index then max x.target (x.index - x.step)
      else x.index }

/-- R88: a target set: the ramp start becomes the current index. -/
def setTarget (t : Nat) (x : Fader) : Fader := { x with target := t, start := x.index }

/-- R83, step 2: each input's fader moved. -/
def moveFaders (m : Mixer) : Mixer :=
  { m with inputs := mapAll (fun x => { x with fader := moveFader x.fader }) m.inputs }

/-! ## The mix (R84 to R86) -/

/-- R84: an input's block after its fader. -/
def faderStage (m : Mixer) (x : Input) (b : List Sample) : List Int :=
  stage (gainAt m.gain x.fader.index) (blockInts b)

/-- R84: the samples an input's fader saturates. -/
def faderClips (m : Mixer) (x : Input) (b : List Sample) : Nat :=
  stageClips (gainAt m.gain x.fader.index) (blockInts b)

/-- R85: an input's contribution to a bus. -/
def sendStage (m : Mixer) (x : Input) (bus : BusNo) (b : List Sample) : List Int :=
  stage (gainAt m.gain x.sends[bus]) (faderStage m x b)

/-- R85: the samples an input's sends saturate, over the four buses. -/
def sendClipsOf (m : Mixer) (x : Input) (b : List Sample) : Nat :=
  (allBuses.map (fun bus => stageClips (gainAt m.gain x.sends[bus]) (faderStage m x b))).sum

/-- R86: the exact sum at each sample position. -/
def sumBlocks (zs : List (List Int)) : List Int :=
  (List.range 48).map (fun p => (zs.map (fun z => z.getD p 0)).sum)

/-- R86: the bus sum acc of a block, from the sixteen input blocks. -/
def busSum (m : Mixer) (bus : BusNo) (blocks : List (List Sample)) : List Int :=
  sumBlocks (allInputs.map (fun i => sendStage m m.inputs[i] bus (blocks.getD i.val [])))

/-- R86: a bus's 48 output samples. -/
def busOut (m : Mixer) (bus : BusNo) (blocks : List (List Sample)) : List Int :=
  if m.buses[bus].mute then List.replicate 48 0
  else stage (gainAt m.gain m.buses[bus].master) (busSum m bus blocks)

/-- R86: the output samples of a bus that are saturated. -/
def busClipCount (m : Mixer) (bus : BusNo) (blocks : List (List Sample)) : Nat :=
  if m.buses[bus].mute then 0
  else stageClips (gainAt m.gain m.buses[bus].master) (busSum m bus blocks)

/-- R86: the largest |out| of a block. -/
def peakOf (xs : List Int) : Nat := xs.foldl (fun a x => max a x.natAbs) 0

/-- R84 to R86: the clip counters of the inputs and of the buses, and the peak meters, after a block. -/
def countMix (m : Mixer) (blocks : List (List Sample)) : Mixer :=
  { m with
      inputs := tabulate 16 (fun i =>
        let x := m.inputs[i]
        let b := blocks.getD i.val []
        { x with inputClips := bumpBy (faderClips m x b) x.inputClips,
                 sendClips := bumpBy (sendClipsOf m x b) x.sendClips }),
      buses := tabulate 4 (fun j =>
        let y := m.buses[j]
        { y with clips := bumpBy (busClipCount m j blocks) y.clips,
                 meter := max y.meter (peakOf (busOut m j blocks)) }) }

/-- Output samples as carried: 24-bit two's complement. -/
def toSamples (xs : List Int) : List Sample := xs.map (fun x => BitVec.ofInt 24 x)

/-! ## AUX cells (R96) -/

/-- R96: an AUX audio cell. -/
def auxCell (source : OutSource) (stream : Stream) (out : List Int) : OutCell :=
  { source := source, kind := .audio, stream := stream, payload := sampleBytes (toSamples out) }

/-- R96: an AUX bus's cell offered where its stream is not 0. -/
def offerAuxBus (source : OutSource) (stream : Stream) (out : List Int) (c : Chip) : Chip :=
  if stream = 0#12 then c else offerAux (auxCell source stream out) c

/-! ## The programme frame (R94, R95) -/

/-- R189: for each sample position the PGM-L sample, then the PGM-R sample. -/
def interleave : List Sample → List Sample → List Byte
  | l :: ls, r :: rs => be24 l ++ be24 r ++ interleave ls rs
  | _, _ => []

/-- R189: the 1,152 bytes of an AUDIO payload. -/
def audioPayload (blocks : List (List Sample × List Sample)) : List Byte :=
  blocks.flatMap (fun b => interleave b.1 b.2)

/-- R95: a formed frame joins the audio queue where programme-audio send is ON and the link is UP or LOST, and is
otherwise discarded and counted. -/
def queueOrDiscard (f : AudioFrame) (c : Chip) : Chip :=
  if audioGranted c then joinAudio f c
  else { c with mixer := { c.mixer with framesDiscarded := bump c.mixer.framesDiscarded } }

/-- R94: the programme blocks of a tick added to the frame being built; a block that finds no frame begun stamps
the frame with the timecode and ms counter of this tick. -/
def addToBuild (c : Chip) (left right : List Sample) : FrameBuild :=
  match c.mixer.build with
  | some b => { b with blocks := b.blocks ++ [(left, right)] }
  | none => { timecode := c.time.timecode, ms := c.time.ms, blocks := [(left, right)] }

/-- R94: the last step of the mixer's tick. -/
def buildFrame (left right : List Sample) (c : Chip) : Chip :=
  let b := addToBuild c left right
  if c.mixer.blockCounter < 3 then
    { c with mixer := { c.mixer with build := some b, blockCounter := c.mixer.blockCounter + 1 } }
  else
    queueOrDiscard { timecode := b.timecode, ms := b.ms, payload := audioPayload b.blocks }
      { c with mixer := { c.mixer with
          build := none, blockCounter := 0, framesFormed := bump c.mixer.framesFormed } }

/-- R83: the mixer's work at a block tick in RUN, in its six steps. In STANDBY it does none of it (R97). -/
def mixerTick (c : Chip) : Chip :=
  match c.port.mode with
  | .standby => c
  | .run =>
    let t := takeBlocks c
    let m := moveFaders t.1.mixer
    let left := busOut m 0 t.2
    let right := busOut m 1 t.2
    let auxA := busOut m 2 t.2
    let auxB := busOut m 3 t.2
    let clipped := allBuses.any (fun j => 0 < busClipCount m j t.2)
    let c1 := setAttentionIf clipped [.audioClip] { t.1 with mixer := countMix m t.2 }
    let c2 := offerAuxBus .auxA m.auxAStream auxA c1
    let c3 := offerAuxBus .auxB m.auxBStream auxB c2
    buildFrame (toSamples left) (toSamples right) c3

/-! ## Audio-follow-video (R91) -/

/-- R91: the target a link gives an input for the programme context handed over. -/
def afvTarget (programme : Option Ctx) (l : AfvLink) : Nat :=
  if programme = some l.ctx then l.onIndex else l.offIndex

/-- R91: the hand-over of the programme context to the mixer: every linked input's fader target set. -/
def afvHandover (programme : Option Ctx) (c : Chip) : Chip :=
  { c with mixer := { c.mixer with
      inputs := mapAll (fun x => match x.link with
        | some l => { x with fader := setTarget (afvTarget programme l) x.fader }
        | none => x) c.mixer.inputs } }

/-! ## Commands -/

/-- R81: the gain table with the entries written from the first index on. -/
def writeGain (g : Vector (BitVec 16) 256) : Nat → List (BitVec 16) → Vector (BitVec 16) 256
  | _, [] => g
  | n, e :: es => writeGain (g.setIfInBounds n e) (n + 1) es

/-- R81, R82: whether a first index and a count name entries of the gain table. -/
def gainRange (first count : Nat) : Bool := 1 ≤ count && count ≤ 64 && first + count ≤ 256

/-- R81: LOAD_GAIN. -/
def loadGain (first count : Byte) (entries : List (BitVec 16)) (c : Chip) : Chip × Reply :=
  if !(countOk count entries.length) then refuse .refusedRange c
  else if c.port.mode = .run then refuse .refusedState c
  else if gainRange first.toNat count.toNat then
    ({ c with mixer := { c.mixer with gain := writeGain c.mixer.gain first.toNat entries } }, reply .done)
  else refuse .refusedRange c

/-- R82: READ_GAIN. -/
def readGain (first count : Byte) (c : Chip) : Chip × Reply :=
  if gainRange first.toNat count.toNat then
    (c, { code := .done,
          data := (List.range count.toNat).flatMap (fun j => num16 (gainAt c.mixer.gain (first.toNat + j))) })
  else refuse .refusedRange c

/-- R89: SET_FADER. Every byte is a target index in range. -/
def setFader (input target step : Byte) (c : Chip) : Chip × Reply :=
  match inputOf input with
  | none => refuse .refusedRange c
  | some i =>
    let r := clampNat step.toNat 1 32
    (modInput i (fun x => { x with fader := { setTarget target.toNat x.fader with step := r } }) c,
     doneReply (r ≠ step.toNat))

/-- R90: SET_AFV. Every byte is an index in range. -/
def setAfv (input link onIndex offIndex : Byte) (c : Chip) : Chip × Reply :=
  match inputOf input, ctxChoiceOf link with
  | some i, some choice =>
    (modInput i (fun x => { x with link := choice.map (fun k => ⟨k, onIndex.toNat, offIndex.toNat⟩) }) c,
     reply .done)
  | _, _ => refuse .refusedRange c

/-- R92: SET_SENDS. Every byte is an index in range. -/
def setSends (input pgmL pgmR auxA auxB : Byte) (c : Chip) : Chip × Reply :=
  match inputOf input with
  | none => refuse .refusedRange c
  | some i =>
    (modInput i (fun x => { x with sends := #v[pgmL.toNat, pgmR.toNat, auxA.toNat, auxB.toNat] }) c,
     reply .done)

/-- R93: a bus's master index and mute stored. -/
def storeBus (b : BusNo) (master : Nat) (mute : Bool) (m : Mixer) : Mixer :=
  { m with buses := modAt m.buses b (fun x => { x with master := master, mute := mute }) }

/-- R93: an AUX bus's stream stored; PGM-L and PGM-R have none. -/
def storeAuxStream (b : BusNo) (s : Stream) (m : Mixer) : Mixer :=
  if b = 2 then { m with auxAStream := s } else if b = 3 then { m with auxBStream := s } else m

/-- R93: SET_BUS. Every byte is a master index in range. -/
def setBus (bus master mute : Byte) (stream : BitVec 16) (c : Chip) : Chip × Reply :=
  match busOf bus, onOffOf mute with
  | some b, some mu =>
    if 2 ≤ b.val then
      if clampStream stream = 1#12 then refuse .refusedRange c
      else
        ({ c with mixer := storeAuxStream b (clampStream stream) (storeBus b master.toNat mu c.mixer) },
         doneReply (streamClamped stream))
    else ({ c with mixer := storeBus b master.toNat mu c.mixer }, reply .done)
  | _, _ => refuse .refusedRange c

/-- R95: SET_AUDIO_SEND. -/
def setAudioSend (value : Byte) (c : Chip) : Chip × Reply :=
  match onOffOf value with
  | none => refuse .refusedRange c
  | some v => ({ c with mixer := { c.mixer with audioSend := v } }, reply .done)

/-- R87: READ_METERS. -/
def readMeters (c : Chip) : Chip × Reply :=
  ({ c with mixer := { c.mixer with buses := mapAll (fun b => { b with meter := 0 }) c.mixer.buses } },
   { code := .done, data := c.mixer.buses.toList.flatMap (fun b => num32 b.meter) })

/-! ## STANDBY and resets (R97, R99) -/

/-- R97: the mixer made ready for a clean start. -/
def cleanStart (m : Mixer) : Mixer :=
  { m with inputs := mapAll (fun x => { x with buffer := [], active := false, underrunRun := 0 }) m.inputs,
           build := none, blockCounter := 0 }

/-- R99: an input after a unit reset. -/
def resetInput (x : Input) : Input :=
  { Input.powerOn with fader := ⟨0, 0, 0, x.fader.step⟩, sends := x.sends, link := x.link }

/-- R99: the mixer after a unit reset. -/
def resetMixer (m : Mixer) : Mixer :=
  { m with inputs := mapAll resetInput m.inputs,
           buses := mapAll (fun b => { b with meter := 0, clips := 0 }) m.buses,
           blockCounter := 0, build := none, framesFormed := 0, framesDiscarded := 0, inputsLost := 0 }

/-! ## The rows' meanings -/

/-- R79: an input that is ACTIVE with no block buffered and 99 underruns in a row: its next underrun is the hundredth. -/
def atLastUnderrun (x : Input) : Bool := x.active && x.buffer.isEmpty && 99 ≤ x.underrunRun

/-- R79: the event AUDIO_INPUT_LOST by itself: the taking of a block from an input in RUN whose underrun is the
hundredth, the underrun counted within it. For any other input there is no such event (log entry 5). -/
def audioInputLost (i : InputNo) (c : Chip) : Chip :=
  if c.port.mode = .run && atLastUnderrun c.mixer.inputs[i] then (takeBlock i c).1 else c

/-- AUDIO_INPUT_LOST (R79). -/
def execAudioInputLost (i : InputNo) (s : State) := s.onChip (audioInputLost i)

/-- LOAD_GAIN (R81). -/
def execLoadGain (tag first count : Byte) (entries : List (BitVec 16)) (s : State) :=
  s.onChip (takeCommand tag .loadGain (loadGain first count entries))

/-- READ_GAIN (R82). -/
def execReadGain (tag first count : Byte) (s : State) :=
  s.onChip (takeCommand tag .readGain (readGain first count))

/-- SET_FADER (R89). -/
def execSetFader (tag input target step : Byte) (s : State) :=
  s.onChip (takeCommand tag .setFader (setFader input target step))

/-- SET_AFV (R90). -/
def execSetAfv (tag input link onIndex offIndex : Byte) (s : State) :=
  s.onChip (takeCommand tag .setAfv (setAfv input link onIndex offIndex))

/-- SET_SENDS (R92). -/
def execSetSends (tag input pgmL pgmR auxA auxB : Byte) (s : State) :=
  s.onChip (takeCommand tag .setSends (setSends input pgmL pgmR auxA auxB))

/-- SET_BUS (R93). -/
def execSetBus (tag bus master mute : Byte) (stream : BitVec 16) (s : State) :=
  s.onChip (takeCommand tag .setBus (setBus bus master mute stream))

/-- SET_AUDIO_SEND (R95). -/
def execSetAudioSend (tag value : Byte) (s : State) :=
  s.onChip (takeCommand tag .setAudioSend (setAudioSend value))

/-- READ_METERS (R87). -/
def execReadMeters (tag : Byte) (s : State) := s.onChip (takeCommand tag .readMeters readMeters)

end Sys2Proof.Machine
end

