-- ==== Sys2Proof/Machine/Selector.lean ====
section
/-! DEFINITION. Chapter 7: the programme selector: PRESET, TAKE and CUT_TO, their application at a picture
boundary, stops, and tally; and START_CONTEXT and STOP_CONTEXT of chapter 4, which reach the selector. -/

namespace Sys2Proof.Machine

/-! ## Tally (R108, R109) -/

/-- R108: the tally state of a context: ON_AIR 0, PRESET 1, OFF 2 (R186). -/
def tallyByte (s : Selector) (k : Ctx) : Byte :=
  if s.programme = some k then 0#8 else if s.preset = some k then 1#8 else 2#8

/-- R108, R186: a context's tally cell with the state given. -/
def tallyCell (k : Ctx) (state : Byte) (c : Chip) : OutCell :=
  { source := .tally k, kind := .tally, stream := c.sel.tallyStream[k],
    payload := [num8 k.val, state] ++ timecodeBytes c.time.timecode }

/-- R108, R109: a context's tally cell with its current state, offered and counted where it has a stream. -/
def offerTallyOf (k : Ctx) (c : Chip) : Chip :=
  if c.sel.tallyStream[k] = 0#12 then c
  else offerTally k (tallyCell k (tallyByte c.sel k) c)
    { c with sel := { c.sel with tallyOffered := bump c.sel.tallyOffered } }

/-- R108: a set of tally cells, in the order C0 to C5. -/
def offerTallySet (c : Chip) : Chip := allCtx.foldl (fun d k => offerTallyOf k d) c

/-- R111: at a unit reset, an OFF cell for each context with a stream, in the order C0 to C5. -/
def offerTallyOff (c : Chip) : Chip :=
  allCtx.foldl (fun d k =>
    if d.sel.tallyStream[k] = 0#12 then d else offerTally k (tallyCell k 2#8 d) d) c

/-! ## The pending operation at a boundary (R104, R105) -/

/-- R104: the programme a pending operation names. -/
def namedProgramme (s : Selector) : Option Ctx :=
  match s.pendingOp with
  | .none => s.programme
  | .swap false => s.preset
  | .swap true => none
  | .cut k => k

/-- R104: the new programme: the context named where it is RUNNING, and otherwise none. -/
def newProgramme (c : Chip) : Option Ctx :=
  match namedProgramme c.sel with
  | some k => if c.ctx[k].state = .running then some k else none
  | none => none

/-- R104: whether the change is TAKE_DEGRADED. -/
def takeDegraded (c : Chip) : Bool :=
  match c.sel.pendingOp with
  | .swap true => true
  | _ =>
    match namedProgramme c.sel with
    | some k => !(c.ctx[k].state == .running)
    | none => false

/-- R104: for a SWAP the preset becomes the old programme; a CUT leaves it as it stands. -/
def newPreset (s : Selector) : Option Ctx :=
  match s.pendingOp with
  | .swap _ => s.programme
  | .cut _ => s.preset
  | .none => s.preset

/-- R104, R105: the pending operation applied, and the new programme handed to the mixer and the clip log. -/
def applyOp (c : Chip) : Chip :=
  let p := newProgramme c
  let bad := takeDegraded c
  let c1 := { c with sel := { c.sel with
    programme := p, preset := newPreset c.sel, pendingOp := .none, applied := bump c.sel.applied,
    degraded := bumpIf bad c.sel.degraded } }
  setAttention [if bad then .takeDegraded else .takeDone] c1

/-- R104: the pending preset applied. -/
def applyPreset (c : Chip) : Chip :=
  match c.sel.pendingPreset with
  | some v => { c with sel := { c.sel with preset := v, pendingPreset := none } }
  | none => c

/-- Whether an operation is pending. -/
def opPending (s : Selector) : Bool :=
  match s.pendingOp with
  | .none => false
  | .swap _ => true
  | .cut _ => true

/-- R104, R105, R108: the selector at a picture boundary: the pending operation, then the pending preset, then
the hand-over of a change of operation to the mixer and the clip log, then a set of tally cells. -/
def selectorBoundary (c : Chip) : Chip :=
  let op := opPending c.sel
  let pre := c.sel.pendingPreset.isSome
  let c1 := applyPreset (if op then applyOp c else c)
  let c2 := if op then autoClips c1.sel.programme (afvHandover c1.sel.programme c1) else c1
  if op || pre then offerTallySet c2 else c2

/-! ## The global commands (R101 to R103) -/

/-- R101: whether a unit number and a context choice are in range. -/
def selectInRange (unit ctx : Byte) : Bool := unit.toNat < 4 && (ctxChoiceOf ctx).isSome

/-- R102, R103: the context a choice names on this unit: none where the unit named is another. -/
def chosenHere (unit ctx : Byte) (c : Chip) : Option Ctx :=
  if unit.toNat = c.unit.val then (ctxChoiceOf ctx).join else none

/-- R102: PRESET taken. -/
def takePreset (unit ctx : Byte) (c : Chip) : Chip :=
  { c with sel := { c.sel with pendingPreset := some (chosenHere unit ctx c) } }

/-- R103: TAKE taken. -/
def takeTake (c : Chip) : Chip := { c with sel := { c.sel with pendingOp := .swap false } }

/-- R103: CUT_TO taken. -/
def takeCut (unit ctx : Byte) (c : Chip) : Chip :=
  { c with sel := { c.sel with pendingOp := .cut (chosenHere unit ctx c) } }

/-- R101: a global command out of range is not taken, and is counted. -/
def countRefusedGlobal (c : Chip) : Chip :=
  { c with sel := { c.sel with refusedGlobals := bump c.sel.refusedGlobals } }

/-- R101, R102: PRESET in both forms. -/
def preset (dest : Dest) (unit ctx : Byte) (c : Chip) : Chip :=
  match dest with
  | .unit tag =>
    takeCommand tag .preset (fun d =>
      if selectInRange unit ctx then (takePreset unit ctx d, reply .done) else refuse .refusedRange d) c
  | .all =>
    takeGlobal (fun d => if selectInRange unit ctx then takePreset unit ctx d else countRefusedGlobal d) c

/-- R101, R103: TAKE in both forms. -/
def take (dest : Dest) (c : Chip) : Chip :=
  match dest with
  | .unit tag => takeCommand tag .take (fun d => (takeTake d, reply .done)) c
  | .all => takeGlobal takeTake c

/-- R101, R103: CUT_TO in both forms. -/
def cutTo (dest : Dest) (unit ctx : Byte) (c : Chip) : Chip :=
  match dest with
  | .unit tag =>
    takeCommand tag .cutTo (fun d =>
      if selectInRange unit ctx then (takeCut unit ctx d, reply .done) else refuse .refusedRange d) c
  | .all =>
    takeGlobal (fun d => if selectInRange unit ctx then takeCut unit ctx d else countRefusedGlobal d) c

/-- R109: SET_TALLY. -/
def setTally (ctx : Byte) (stream : BitVec 16) (c : Chip) : Chip × Reply :=
  match ctxOf ctx with
  | none => refuse .refusedRange c
  | some k =>
    let s := clampStream stream
    if s = 1#12 then refuse .refusedRange c
    else
      (offerTallyOf k { c with sel := { c.sel with tallyStream := setAt c.sel.tallyStream k s } },
       doneReply (streamClamped stream))

/-! ## Stops (R106, R107) -/

/-- R107: a pending SWAP takes the lost-preset mark. -/
def markLostPreset (p : PendingOp) : PendingOp :=
  match p with
  | .swap _ => .swap true
  | .cut k => .cut k
  | .none => .none

/-- R106: a stop of the programme context makes the programme none at once, is counted, sets TAKE_DEGRADED and is
handed to the mixer. -/
def stopProgramme (k : Ctx) (c : Chip) : Chip :=
  if c.sel.programme = some k then
    afvHandover none (setAttention [.takeDegraded]
      { c with sel := { c.sel with programme := none, programmeStops := bump c.sel.programmeStops } })
  else c

/-- R107: a stop of the preset context makes the preset none at once. -/
def stopPreset (k : Ctx) (c : Chip) : Chip :=
  if c.sel.preset = some k then
    { c with sel := { c.sel with preset := none, pendingOp := markLostPreset c.sel.pendingOp } }
  else c

/-- R106, R107: a stop reaches the selector; where it took the programme or the preset, one set of tally cells
is offered. -/
def stopAtSelector (k : Ctx) (c : Chip) : Chip :=
  let touched := c.sel.programme = some k || c.sel.preset = some k
  let c1 := stopPreset k (stopProgramme k c)
  if touched then offerTallySet c1 else c1

/-! ## START_CONTEXT and STOP_CONTEXT (R42, R44) -/

/-- R42: START_CONTEXT. -/
def startContext (ctx : Byte) (c : Chip) : Chip × Reply :=
  if c.port.mode = .standby then refuse .refusedState c
  else match ctxOf ctx with
    | none => refuse .refusedRange c
    | some k =>
      match c.ctx[k].state with
      | .stopped => (modCtx k (fun x => { x with state := .starting }) c, reply .done)
      | .draining => (modCtx k (fun x => { x with state := .running }) c, reply .done)
      | .starting => refuse .refusedState c
      | .running => refuse .refusedState c

/-- R44, step 2: the ready record shed STOPPED, with no count at the gatherer (R58; log entry 37, a choice). -/
def shedReady (k : Ctx) (c : Chip) : Chip :=
  match c.ctx[k].ready with
  | some r => resolve r.picture none 0 (.shed .stopped) (modCtx k (fun x => { x with ready := none }) c)
  | none => c

/-- R44, step 3: the gathering record shed STOPPED, likewise uncounted at the gatherer (log entry 37). -/
def shedGathering (k : Ctx) (c : Chip) : Chip :=
  match c.ctx[k].gathering with
  | some g => resolve g.picture none 0 (.shed .stopped) (modCtx k (fun x => { x with gathering := none }) c)
  | none => c

/-- R44, step 4: DRAINING where the video queue holds records, and otherwise STOPPED. -/
def drainOrStop (k : Ctx) (c : Chip) : Chip :=
  if c.sched.videoQueue[k].isEmpty then reachStopped k c
  else modCtx k (fun x => { x with state := .draining }) c

/-- R44: the stop of a RUNNING context, its four steps. -/
def stopRunning (k : Ctx) (c : Chip) : Chip := drainOrStop k (shedGathering k (shedReady k (abandonFor k c)))

/-- R44, R51, R106, R107: STOP_CONTEXT: the stop, its effect on the selector, and then the engine's grant. The rules
give no order between R44's sheds and the selector's part: the sheds come first (log entry 34, a choice). -/
def stopContext (ctx : Byte) (c : Chip) : Chip × Reply :=
  if c.port.mode = .standby then refuse .refusedState c
  else match ctxOf ctx with
    | none => refuse .refusedRange c
    | some k =>
      match c.ctx[k].state with
      | .starting => (arbitrate (stopAtSelector k (reachStopped k c)), reply .done)
      | .running => (arbitrate (stopAtSelector k (stopRunning k c)), reply .done)
      | .stopped => refuse .refusedState c
      | .draining => refuse .refusedState c

/-- R111: the selector after a unit reset. -/
def resetSelector (s : Selector) : Selector := { Selector.powerOn with tallyStream := s.tallyStream }

/-! ## The rows' meanings -/

/-- PRESET (R101, R102). -/
def execPreset (dest : Dest) (unit ctx : Byte) (s : State) := s.onChip (preset dest unit ctx)

/-- TAKE (R101, R103). -/
def execTake (dest : Dest) (s : State) := s.onChip (take dest)

/-- CUT_TO (R101, R103). -/
def execCutTo (dest : Dest) (unit ctx : Byte) (s : State) := s.onChip (cutTo dest unit ctx)

/-- SET_TALLY (R109). -/
def execSetTally (tag ctx : Byte) (stream : BitVec 16) (s : State) :=
  s.onChip (takeCommand tag .setTally (setTally ctx stream))

/-- START_CONTEXT (R42). -/
def execStartContext (tag ctx : Byte) (s : State) := s.onChip (takeCommand tag .startContext (startContext ctx))

/-- STOP_CONTEXT (R44). -/
def execStopContext (tag ctx : Byte) (s : State) := s.onChip (takeCommand tag .stopContext (stopContext ctx))

end Sys2Proof.Machine
end

