-- ==== Sys2Proof/Machine/Settlement.lean ====
section
/-! DEFINITION. Section 9.5: the settling of an acknowledged frame (R144). -/

namespace Sys2Proof.Machine

/-- R144, VIDEO: the change of a settled fragment's picture counts. -/
def settleFragment (delivered : Bool) (q : Queued) : Queued :=
  if delivered then { q with delivered := q.delivered + 1, outstanding := q.outstanding - 1 }
  else { q with lost := q.lost + 1, outstanding := q.outstanding - 1 }

/-- R144: each lost entry is counted. -/
def countLost (delivered : Bool) (c : Chip) : Chip :=
  { c with sched := { c.sched with entriesLost := bumpIf (!delivered) c.sched.entriesLost } }

/-- R144, LABEL: the clip log is told, and then delivery accounting for its log. -/
def settleLabel (delivered : Bool) (i : Nat) (version : Byte) (sendCount : Nat) (c : Chip) : Chip :=
  logLabel delivered i version sendCount (if delivered then labelDelivered i c else labelLost i c)

/-- R144: an entry that has left the lists is settled, delivered or lost. -/
def settle (delivered : Bool) (e : Entry) (c : Chip) : Chip :=
  let c1 := countLost delivered c
  match e.origin with
  | .video k n _ => changeQueued k n (settleFragment delivered) c1
  | .label i v => settleLabel delivered i v e.sendCount c1

/-- R123, R125: every entry of the awaiting list, oldest send first, and then of the resend queue, oldest first,
removed and declared LOST. -/
def declareAllLost (c : Chip) : Chip :=
  (c.sched.awaiting ++ c.sched.resend).foldl (fun d e => settle false e d)
    { c with sched := { c.sched with awaiting := [], resend := [] } }

/-- R123: whether both lists are empty. -/
def listsEmpty (s : Scheduler) : Bool := s.awaiting.isEmpty && s.resend.isEmpty

end Sys2Proof.Machine
end

