-- ==== Sys2Proof/Machine/HomeLink.lean ====
section
/-! DEFINITION. Chapter 8: the home link controller: link states, hailing, capacity, silence, handover and close,
and the commands LINK_OPEN, HANDOVER, LINK_CLOSE and SET_LINK. -/

namespace Sys2Proof.Machine

/-- R112: the credit rate of a link state in kbit/s, 0 where the table says none. -/
def creditRate (l : Link) : Nat :=
  match l.state with
  | .down => 0
  | .hailing => 0
  | .up => l.capacity
  | .lost => 500
  | .draining => l.capacity
  | .held => 0

/-- R112: the states in which the link sends and earns credit. -/
def linkSends (s : LinkState) : Bool :=
  match s with
  | .up => true
  | .lost => true
  | .draining => true
  | .down => false
  | .hailing => false
  | .held => false

/-- R112: the transmit credit on entering a state. -/
def creditOnEntry (s : LinkState) (credit : Nat) : Nat := if linkSends s then credit else 0

/-- The link controller's state changed by a function. -/
def modLink (f : Link → Link) (c : Chip) : Chip := { c with link := f c.link }

/-- R112: a change of link state: counted, with LINK_STATE set, together with other classes of the same event. -/
def enterLink (s : LinkState) (also : List AttClass) (c : Chip) : Chip :=
  setAttention (.linkState :: also)
    (modLink (fun l => { l with state := s, credit := creditOnEntry s l.credit,
                                stateChanges := bump l.stateChanges }) c)

/-- R119: an announced capacity stored clamped into 500 to 200,000, a clamp counted. -/
def storeCapacity (v : Nat) (l : Link) : Link :=
  { l with capacity := clampNat v 500 200000,
           capacityClamps := bumpIf (clampNat v 500 200000 ≠ v) l.capacityClamps }

/-- R120: the silence timer started or restarted at its setting. -/
def startSilence (l : Link) : Link := { l with silence := some l.settings.silence }

/-! ## Hailing (R113 to R116) -/

/-- R114: an attempt begins: its HAIL frame goes to HT, the answer window starts and the phase is WINDOW. -/
def beginAttempt (c : Chip) : Chip :=
  putHt (hailFrame c.unit c.link.settings.identity c.link.attempt c.time.rate c.time.timecode c.time.ms)
    (modLink (fun l => { l with phase := some .window, answerWindow := some l.settings.answerWindow,
                                hailAttempts := bump l.hailAttempts }) c)

/-- R115: the answer window runs out. A window that is not running does not expire (R23). -/
def windowExpiry (c : Chip) : Chip :=
  match c.link.answerWindow with
  | none => c
  | some _ =>
    if c.link.attempt < 3 then
      modLink (fun l => { l with answerWindow := none, phase := some .gap,
                                 retryGap := some l.settings.retryGap }) c
    else
      enterLink .down [.linkFailed]
        (modLink (fun l => { l with answerWindow := none, phase := none, attempt := 0,
                                    hailsFailed := bump l.hailsFailed }) c)

/-- R115: the retry gap runs out, and the next attempt begins. A gap that is not running does not expire. -/
def gapExpiry (c : Chip) : Chip :=
  match c.link.retryGap with
  | none => c
  | some _ => beginAttempt (modLink (fun l => { l with retryGap := none, attempt := l.attempt + 1 }) c)

/-- R116: a HAIL_ANSWER in HAILING opens the link. -/
def openLink (v : Nat) (c : Chip) : Chip :=
  modLink startSilence
    (enterLink .up []
      (modLink (fun l => { storeCapacity v l with
        answerWindow := none, retryGap := none, phase := none, attempt := 0, credit := 0 }) c))

/-! ## The drain (R122, R123) -/

/-- R123, R125: the audio queue emptied, its frames counted. -/
def discardAudio (c : Chip) : Chip :=
  { c with sched := { c.sched with audioQueue := [] },
           link := { c.link with audioDiscarded := bumpBy c.sched.audioQueue.length c.link.audioDiscarded } }

/-- R123: the drain ends: timers stopped, the remaining entries declared LOST, the audio queue emptied, HELD
entered; completed where both lists were empty, and cut short otherwise. -/
def drainEnd (c : Chip) : Chip :=
  let complete := listsEmpty c.sched
  let c1 := modLink (fun l => { l with
    silence := none, drainLimit := none, drainsCompleted := bumpIf complete l.drainsCompleted,
    drainsCutShort := bumpIf (!complete) l.drainsCutShort }) c
  enterLink .held [] (discardAudio (declareAllLost c1))

/-- R123: in DRAINING the drain ends once both lists are empty. -/
def checkDrain (c : Chip) : Chip :=
  if c.link.state = .draining && listsEmpty c.sched then drainEnd c else c

/-- R123: the drain limit runs out. A limit that is not running does not expire. -/
def drainExpiry (c : Chip) : Chip :=
  match c.link.drainLimit with
  | none => c
  | some _ => if c.link.state = .draining then drainEnd c else c

/-! ## Silence (R120, R121) -/

/-- R121: the silence timer runs out. A timer that is not running does not expire. -/
def silenceRunsOut (c : Chip) : Chip :=
  match c.link.silence with
  | none => c
  | some _ =>
    let c1 := modLink (fun l => { l with silence := none, silenceExpiries := bump l.silenceExpiries }) c
    match c.link.state with
    | .up => enterLink .lost [] c1
    | .draining => drainEnd c1
    | .down => c
    | .hailing => c
    | .lost => c
    | .held => c

/-! ## Commands -/

/-- R113: LINK_OPEN. -/
def linkOpen (c : Chip) : Chip × Reply :=
  if c.port.mode = .standby then refuse .refusedState c
  else if c.link.state = .down || c.link.state = .held then
    (beginAttempt (enterLink .hailing [] (modLink (fun l => { l with attempt := 1 }) c)), reply .done)
  else refuse .refusedState c

/-- R122: HANDOVER. -/
def handover (c : Chip) : Chip × Reply :=
  if c.port.mode = .standby then refuse .refusedState c
  else if c.link.state = .up || c.link.state = .lost then
    (checkDrain (enterLink .draining []
      (modLink (fun l => { startSilence l with drainLimit := some (2 * l.settings.ackWindow) }) c)),
     reply .done)
  else refuse .refusedState c

/-- R125: the link closed from any state but DOWN. -/
def closeLink (c : Chip) : Chip :=
  enterLink .down [] (discardAudio (declareAllLost
    (modLink (fun l => { l with answerWindow := none, retryGap := none, silence := none, drainLimit := none,
                                phase := none, attempt := 0 }) c)))

/-- R125: LINK_CLOSE. -/
def linkClose (c : Chip) : Chip × Reply :=
  if c.port.mode = .standby then refuse .refusedState c
  else if c.link.state = .down then (c, reply .done)
  else (closeLink c, reply .done)

/-- R126: SET_LINK. -/
def setLink (identity answerWindow retryGap silence ackWindow : BitVec 16) (c : Chip) : Chip × Reply :=
  let a := clampNat answerWindow.toNat 50 2000
  let r := clampNat retryGap.toNat 100 5000
  let s := clampNat silence.toNat 100 2000
  let k := clampNat ackWindow.toNat 20 1000
  (modLink (fun l => { l with settings :=
    { identity := identity, answerWindow := a, retryGap := r, silence := s, ackWindow := k } }) c,
   doneReply (a ≠ answerWindow.toNat || r ≠ retryGap.toNat || s ≠ silence.toNat || k ≠ ackWindow.toNat))

/-- R128: the link controller after a unit reset; the change to DOWN is neither reported nor counted. -/
def resetLink (l : Link) : Link := { Link.powerOn with settings := l.settings }

/-! ## The link controller at a block tick (R23) -/

/-- R23: a timer counts one block tick. -/
def countDown (t : Option Nat) : Option Nat := t.map (· - 1)

/-- R23: a timer that has counted its last tick. -/
def ranOut (t : Option Nat) : Bool := t == some 0

/-- R23: each running timer of the link controller counts the tick. -/
def countLinkTimers (l : Link) : Link :=
  { l with answerWindow := countDown l.answerWindow, retryGap := countDown l.retryGap,
           silence := countDown l.silence, drainLimit := countDown l.drainLimit }

/-- The expiry of the silence timer, where it has run out at this tick. -/
def takeSilence (c : Chip) : Chip := if ranOut c.link.silence then silenceRunsOut c else c

/-- The expiry of the drain limit, where it has run out at this tick. -/
def takeDrain (c : Chip) : Chip := if ranOut c.link.drainLimit then drainExpiry c else c

/-- R23: the link controller's timers at a block tick, and the expiries that fall at it. At most one of the
answer window and the retry gap runs. The silence timer and the drain limit are taken in a free order. -/
def linkTick (silenceFirst : Bool) (c : Chip) : Chip :=
  let c1 := modLink countLinkTimers c
  let window := ranOut c1.link.answerWindow
  let gap := ranOut c1.link.retryGap
  let c2 := if window then windowExpiry c1 else c1
  let c3 := if gap then gapExpiry c2 else c2
  if silenceFirst then takeDrain (takeSilence c3) else takeSilence (takeDrain c3)

/-! ## The rows' meanings -/

/-- HAIL_ANSWER_WINDOW_EXPIRY (R115). -/
def execHailAnswerWindowExpiry (s : State) := s.onChip windowExpiry

/-- HAIL_RETRY_GAP_EXPIRY (R115). -/
def execHailRetryGapExpiry (s : State) := s.onChip gapExpiry

/-- SILENCE_EXPIRY (R121). -/
def execSilenceExpiry (s : State) := s.onChip silenceRunsOut

/-- DRAIN_LIMIT_EXPIRY (R123). -/
def execDrainLimitExpiry (s : State) := s.onChip drainExpiry

/-- LINK_OPEN (R113). -/
def execLinkOpen (tag : Byte) (s : State) := s.onChip (takeCommand tag .linkOpen linkOpen)

/-- HANDOVER (R122). -/
def execHandover (tag : Byte) (s : State) := s.onChip (takeCommand tag .handover handover)

/-- LINK_CLOSE (R125). -/
def execLinkClose (tag : Byte) (s : State) := s.onChip (takeCommand tag .linkClose linkClose)

/-- SET_LINK (R126). -/
def execSetLink (tag : Byte) (identity answerWindow retryGap silence ackWindow : BitVec 16) (s : State) :=
  s.onChip (takeCommand tag .setLink (setLink identity answerWindow retryGap silence ackWindow))

end Sys2Proof.Machine
end

