-- ==== Sys2Proof/Machine/Scheduler.lean ====
section
/-! DEFINITION. Chapter 9: the frame scheduler: credit and allowances, acknowledgement and resend, deadlines,
selection and sending; and its work at a block tick. -/

namespace Sys2Proof.Machine

/-- The scheduler's state changed by a function. -/
def modSched (f : Scheduler → Scheduler) (c : Chip) : Chip := { c with sched := f c.sched }

/-! ## Credit and allowances (R131, R132) -/

/-- R131: credit becomes min(credit + rate, 40 × rate) where the link sends. -/
def earnCredit (c : Chip) : Chip :=
  if linkSends c.link.state then
    modLink (fun l => { l with credit := min (l.credit + creditRate l) (40 * creditRate l) }) c
  else c

/-- R132: allowance becomes min(allowance + T, 2 × T). -/
def creditAllowance (target allowance : Nat) : Nat := min (allowance + target) (2 * target)

/-- R132: each context's allowance credited with the target of this boundary. -/
def allowanceBoundary (c : Chip) : Chip :=
  modSched (fun s => { s with
    allowance := tabulate 6 (fun k => creditAllowance c.budget.targets[k] s.allowance[k]) }) c

/-! ## Acknowledgement (R142) -/

/-- R142: one frame number of an ACK: matched on the awaiting list, or else in the resend queue, and settled as
delivered; otherwise stray. In DRAINING the drain ends once both lists are empty (R123). -/
def ackFrame (n : FrameNum) (c : Chip) : Chip :=
  match takeFirst (fun e => e.frame == n) c.sched.awaiting with
  | some (e, rest) =>
    checkDrain (settle true e (modSched (fun s => { s with
      awaiting := rest, matchedAcks := bump s.matchedAcks }) c))
  | none =>
    match takeFirst (fun e => e.frame == n) c.sched.resend with
    | some (e, rest) =>
      checkDrain (settle true e (modSched (fun s => { s with
        resend := rest, matchedAcks := bump s.matchedAcks }) c))
    | none => modSched (fun s => { s with strayAcks := bump s.strayAcks }) c

/-- R142: the frame numbers of an ACK, one at a time in the order they appear. -/
def ackFrames (ns : List FrameNum) (c : Chip) : Chip := ns.foldl (fun d n => ackFrame n d) c

/-! ## Ack-window expiry (R143) -/

/-- R143: whether an expired entry's frame can still be of use: it has been sent once, and it is a LABEL or a
fragment of a picture that is not late. -/
def resendable (e : Entry) (c : Chip) : Bool :=
  e.sendCount == 1 &&
    (match e.origin with
      | .label _ _ => true
      | .video k n _ =>
        match findQueued k n c with
        | some q => !q.late
        | none => false)

/-- R143: an entry removed from the awaiting list at its window's expiry goes to the resend queue, or is settled
as lost. -/
def expire (e : Entry) (c : Chip) : Chip :=
  if resendable e c then
    modSched (fun s => { s with resend := s.resend ++ [{ e with timer := none }],
                                resendsScheduled := bump s.resendsScheduled }) c
  else checkDrain (settle false e c)

/-- R143: the expiry of the ack window of the awaiting entry with a frame number. -/
def ackExpiry (n : FrameNum) (c : Chip) : Chip :=
  match takeFirst (fun e => e.frame == n) c.sched.awaiting with
  | some (e, rest) => expire e (modSched (fun s => { s with awaiting := rest }) c)
  | none => c

/-- R23: every running ack window counts the tick. -/
def countAckTimers (s : Scheduler) : Scheduler :=
  { s with awaiting := s.awaiting.map (fun e => { e with timer := countDown e.timer }) }

/-- R133, step 2: the ack windows that fall at this tick expire, oldest send first. -/
def expireWindows (c : Chip) : Chip :=
  let c1 := modSched countAckTimers c
  (c1.sched.awaiting.filter (fun e => ranOut e.timer)).foldl (fun d e => ackExpiry e.frame d) c1

/-! ## Deadlines (R145) -/

/-- R145, step 1: a picture becomes late and its unsent fragments are withdrawn. -/
def withdrawUnsent (q : Queued) : Queued := { q with late := true, withdrawn := q.withdrawn + unsent q }

/-- Whether an entry is a fragment of a picture. -/
def isOf (k : Ctx) (n : PicNum) (e : Entry) : Bool :=
  match e.origin with
  | .video k' n' _ => k' == k && n' == n
  | .label _ _ => false

/-- R145, step 2: an entry of the resend queue, if it still stands there, is removed and settled as lost. -/
def loseResend (e : Entry) (c : Chip) : Chip :=
  match takeFirst (fun x => x == e) c.sched.resend with
  | some (_, rest) => checkDrain (settle false e (modSched (fun s => { s with resend := rest }) c))
  | none => c

/-- R145: a queued picture's deadline passes: its unsent fragments are withdrawn and counted, and its entries in
the resend queue are lost. -/
def makeLate (k : Ctx) (q : Queued) (c : Chip) : Chip :=
  let n := q.picture.number
  let entries := c.sched.resend.filter (isOf k n)
  let c1 := modSched (fun s => { s with fragmentsWithdrawn := bumpBy (unsent q) s.fragmentsWithdrawn }) c
  entries.foldl (fun d e => loseResend e d) (changeQueued k n withdrawUnsent c1)

/-- R145: the deadline of a context's queued picture that is not yet late passes. -/
def deadlinePasses (k : Ctx) (n : PicNum) (c : Chip) : Chip :=
  match findQueued k n c with
  | some q => if q.late then c else makeLate k q c
  | none => c

/-- R23, R145: a deadline has passed where it is serially before the ms counter. -/
def deadlineDue (ms : Millis) (q : Queued) : Bool := !q.late && serialBefore q.deadline ms

/-- R145: one context's queue, oldest first. -/
def deadlinesOf (k : Ctx) (c : Chip) : Chip :=
  (c.sched.videoQueue[k].filter (deadlineDue c.time.ms)).foldl
    (fun d q => deadlinePasses k q.picture.number d) c

/-- R133, step 3, R145: every context in the order C0 to C5. -/
def applyDeadlines (c : Chip) : Chip := allCtx.foldl (fun d k => deadlinesOf k d) c

/-! ## Selection (R134, R135) -/

/-- R129: the size of a fragment's payload. -/
def fragmentPayload (q : Queued) (j : Nat) : List Byte := (q.coded.drop (1368 * j)).take 1368

/-- R135: a context's head picture: the oldest record with unsent fragments. -/
def headPicture (k : Ctx) (c : Chip) : Option Queued := c.sched.videoQueue[k].find? (fun q => 0 < unsent q)

/-- R129: the size of a VIDEO frame in bytes. -/
def fragmentSize (q : Queued) (j : Nat) : Nat := 32 + (fragmentPayload q j).length

/-- R135: a context's eligible fragment: the next fragment of its head picture, where the allowance covers it. -/
def eligibleFragment (k : Ctx) (c : Chip) : Option Queued :=
  match headPicture k c with
  | some q => if fragmentSize q q.sent ≤ c.sched.allowance[k] then some q else none
  | none => none

/-- A frame found by the scheduler's search (R134). -/
inductive Found where
  | audio (f : AudioFrame)
  | resend (e : Entry)
  | label (f : LabelFrame)
  | video (k : Ctx) (q : Queued) (rotated : Bool)
  | pass (x : PassCell)
  deriving DecidableEq, Repr

/-- R135, step 2: the first context of the rotation, the programme context left out, with an eligible fragment. -/
def rotatedFragment (c : Chip) : List Ctx → Option Found
  | [] => none
  | k :: rest =>
    if c.sel.programme = some k then rotatedFragment c rest
    else
      match eligibleFragment k c with
      | some q => some (.video k q true)
      | none => rotatedFragment c rest

/-- R135: the fragment found: the programme context's, and otherwise by rotation. -/
def findFragment (c : Chip) : Option Found :=
  match c.sel.programme with
  | some p =>
    match eligibleFragment p c with
    | some q => some (.video p q false)
    | none => rotatedFragment c (rotation c.sched.pointer)
  | none => rotatedFragment c (rotation c.sched.pointer)

/-- R134: whether the awaiting list and the resend queue together hold fewer than 48 entries. -/
def listsHaveRoom (s : Scheduler) : Bool := s.awaiting.length + s.resend.length < 48

/-- R134, class 5. -/
def findPass (c : Chip) : Option Found := c.sched.passQueue.head?.map .pass

/-- R134, classes 3 to 5. -/
def findNew (c : Chip) : Option Found :=
  if listsHaveRoom c.sched then
    match c.sched.labelQueue with
    | f :: _ => some (.label f)
    | [] =>
      match findFragment c with
      | some f => some f
      | none => findPass c
  else findPass c

/-- R134: the first eligible frame by class; in DRAINING class 2 alone is eligible. -/
def findFrame (c : Chip) : Option Found :=
  if c.link.state = .draining then c.sched.resend.head?.map .resend
  else
    match c.sched.audioQueue with
    | f :: _ => some (.audio f)
    | [] =>
      match c.sched.resend with
      | e :: _ => some (.resend e)
      | [] => findNew c

/-- R129: the size in bytes of the home frame of what is found. -/
def foundSize : Found → Nat
  | .audio f => 32 + f.payload.length
  | .resend e => e.bytes.length
  | .label f => 32 + f.payload.length
  | .video _ q _ => fragmentSize q q.sent
  | .pass x => 32 + x.payload.length

/-! ## Sending (R136) -/

/-- The header of a home frame of this unit with the next frame number, its other fields absent (R189). -/
def blankHeader (kind : Byte) (c : Chip) : HomeHeader :=
  { kind := kind, unit := c.unit, identity := c.link.settings.identity, frame := c.sched.nextFrame, ctx := 0,
    picture := 0, fragment := 0, count := 0, marker := 0, flags := 0, timecode := .zero, ms := 0, stream := 0 }

/-- R189: an AUDIO frame's bytes. -/
def audioBytes (f : AudioFrame) (c : Chip) : List Byte :=
  homeFrame { blankHeader 2#8 c with timecode := f.timecode, ms := f.ms } f.payload

/-- R189: a LABEL frame's bytes. -/
def labelBytes (f : LabelFrame) (c : Chip) : List Byte :=
  homeFrame { blankHeader 3#8 c with ctx := num8 f.ctx.val } f.payload

/-- R189: a PASS frame's bytes. -/
def passBytes (x : PassCell) (c : Chip) : List Byte :=
  homeFrame { blankHeader 4#8 c with stream := x.stream } x.payload

/-- R129, R189: the bytes of the VIDEO frame of a picture's fragment j. -/
def videoBytes (q : Queued) (j : Nat) (c : Chip) : List Byte :=
  homeFrame { blankHeader 1#8 c with
      ctx := num8 q.picture.ctx.val, picture := q.picture.number, fragment := j, count := q.fragments,
      marker := q.picture.marker, flags := flag8 q.picture.damaged ||| (flag8 q.programme <<< 1),
      timecode := q.picture.timecode, ms := q.picture.startMs }
    (fragmentPayload q j)

/-- R136: a frame's cost, 8 bits a byte, taken from the credit. -/
def charge (size : Nat) (c : Chip) : Chip := modLink (fun l => { l with credit := l.credit - 8 * size }) c

/-- R130: a frame sent for the first time takes the counter's number. -/
def numberFrame (c : Chip) : Chip := modSched (fun s => { s with nextFrame := s.nextFrame + 1 }) c

/-- R136, R141: an entry that joins the end of the awaiting list, its ack window started. -/
def await (e : Entry) (c : Chip) : Chip :=
  modSched (fun s => { s with awaiting := s.awaiting ++ [{ e with timer := some c.link.settings.ackWindow }] }) c

/-- R136, AUDIO. -/
def sendAudio (f : AudioFrame) (c : Chip) : Chip :=
  let bytes := audioBytes f c
  modSched (fun s => { s with audioQueue := s.audioQueue.drop 1, audioSent := bump s.audioSent })
    (numberFrame (charge bytes.length (putHt bytes c)))

/-- R136, PASS. -/
def sendPass (x : PassCell) (c : Chip) : Chip :=
  let bytes := passBytes x c
  modSched (fun s => { s with passQueue := s.passQueue.drop 1, passSent := bump s.passSent })
    (numberFrame (charge bytes.length (putHt bytes c)))

/-- R136, LABEL, first sending. -/
def sendLabelFrame (f : LabelFrame) (c : Chip) : Chip :=
  let bytes := labelBytes f c
  let e : Entry := { frame := c.sched.nextFrame, origin := .label f.clip f.version, sendCount := 1, timer := none,
                     bytes := bytes }
  labelSent f.clip (await e
    (modSched (fun s => { s with labelQueue := s.labelQueue.drop 1, labelSent := bump s.labelSent })
      (numberFrame (charge bytes.length (putHt bytes c)))))

/-- R136, R148: a queued record after the first sending of its next fragment. -/
def fragmentSent (q : Queued) : Queued :=
  { q with sent := q.sent + 1, outstanding := q.outstanding + 1, highestSend := max q.highestSend 1 }

/-- R136, VIDEO, first sending; R135: a fragment found by rotation moves the pointer. -/
def sendVideo (k : Ctx) (q : Queued) (rotated : Bool) (c : Chip) : Chip :=
  let bytes := videoBytes q q.sent c
  let e : Entry := { frame := c.sched.nextFrame, origin := .video k q.picture.number q.sent, sendCount := 1,
                     timer := none, bytes := bytes }
  changeQueued k q.picture.number fragmentSent (await e
    (modSched (fun s => { s with
        allowance := modAt s.allowance k (fun a => a - bytes.length),
        pointer := if rotated then k else s.pointer, videoSent := bump s.videoSent })
      (numberFrame (charge bytes.length (putHt bytes c)))))

/-- R148: a queued record one of whose fragments is resent. -/
def fragmentResent (q : Queued) : Queued := { q with highestSend := 2 }

/-- R148: the highest send count of a resent fragment's picture. -/
def noteResend (o : Origin) (c : Chip) : Chip :=
  match o with
  | .video k n _ => changeQueued k n fragmentResent c
  | .label _ _ => c

/-- R136, resend. -/
def resendEntry (e : Entry) (c : Chip) : Chip :=
  noteResend e.origin (await { e with sendCount := 2 }
    (modSched (fun s => { s with resend := s.resend.drop 1, resends := bump s.resends })
      (charge e.bytes.length (putHt e.bytes c))))

/-- R136: what is found is sent. -/
def sendFound (f : Found) (c : Chip) : Chip :=
  match f with
  | .audio a => sendAudio a c
  | .resend e => resendEntry e c
  | .label l => sendLabelFrame l c
  | .video k q rotated => sendVideo k q rotated c
  | .pass x => sendPass x c

/-- R134: the search, repeated until no frame is eligible or the credit does not cover the frame found. -/
def selectFrames : Nat → Chip → Chip
  | 0, c => c
  | fuel + 1, c =>
    match findFrame c with
    | none => c
    | some f => if 8 * foundSize f ≤ c.link.credit then selectFrames fuel (sendFound f c) else c

/-- The most frames one tick's selection can send: every queued AUDIO frame, resend and pass cell once, and
labels and fragments while the lists hold fewer than 48 entries. -/
def selectionBound (s : Scheduler) : Nat := s.audioQueue.length + s.resend.length + s.passQueue.length + 48

/-- R133, step 4. -/
def selectTick (c : Chip) : Chip :=
  if linkSends c.link.state then selectFrames (selectionBound c.sched) c else c

/-- R133: the scheduler's work at a block tick, in its four steps. -/
def schedulerTick (c : Chip) : Chip := selectTick (applyDeadlines (expireWindows (earnCredit c)))

/-- R147: the scheduler after a unit reset: discarded without settlement, the frame numbers run on. -/
def resetSched (s : Scheduler) : Scheduler := { Scheduler.powerOn with nextFrame := s.nextFrame }

/-! ## The rows' meanings -/

/-- PICTURE_DEADLINE (R145). -/
def execPictureDeadline (k : Ctx) (n : PicNum) (s : State) := s.onChip (deadlinePasses k n)

/-- ACK_WINDOW_EXPIRY (R143). -/
def execAckWindowExpiry (n : FrameNum) (s : State) := s.onChip (ackExpiry n)

end Sys2Proof.Machine
end

