-- ==== Sys2Proof/Machine/Steering.lean ====
section
/-! DEFINITION. Chapter 3: the steering unit: matching and evaluation, notes, the swap at a picture boundary, and
LOAD_STEER, READ_STEER, STEER_DEFAULT and SWAP_STEER. -/

namespace Sys2Proof.Machine

/-! ## Reading an entry (R26) -/

/-- R26: the actions an entry can name. -/
inductive SteerAction where
  | discard
  | code (ctx : Ctx)
  | mix (input : InputNo)
  | pass
  deriving DecidableEq, Repr

/-- R188: 0 DISCARD, 1 to 6 CODE 0 to CODE 5, 16 to 31 MIX 0 to MIX 15, 48 PASS; any other names no action. -/
def actionOf (b : Byte) : Option SteerAction :=
  if b = 0#8 then some .discard
  else if h : 1 ≤ b.toNat ∧ b.toNat ≤ 6 then some (.code ⟨b.toNat - 1, by omega⟩)
  else if h : 16 ≤ b.toNat ∧ b.toNat ≤ 31 then some (.mix ⟨b.toNat - 16, by omega⟩)
  else if b = 48#8 then some .pass
  else none

/-- R27: whether an entry's match holds for a stream: RANGE 0, PAIR 1, MASK 2; OFF and every other code never. -/
def matchHolds (e : SteerEntry) (s : Stream) : Bool :=
  let a : Stream := e.first.extractLsb' 0 12
  let b : Stream := e.second.extractLsb' 0 12
  if e.matchType = 0#8 then decide (a ≤ s) && decide (s ≤ b)
  else if e.matchType = 1#8 then s == a || s == b
  else if e.matchType = 2#8 then s &&& b == a &&& b
  else false

/-- R188: the bit of a kind in a kind set: VIDEO 0, AUDIO 1, DATA 2. No other kind reaches steering (R5). -/
def kindBit : CellKind → Option Nat
  | .video => some 0
  | .audio => some 1
  | .data => some 2
  | .control => none
  | .reference => none
  | .answer => none
  | .notice => none
  | .tally => none

/-- R26: whether a kind set holds a kind. -/
def kindInSet (set : Byte) (k : CellKind) : Bool :=
  match kindBit k with
  | some n => set.getLsbD n
  | none => false

/-- R26, R188: the note flag, carried in bit 7 of the kind set. -/
def noteFlag (e : SteerEntry) : Bool := e.kinds.getLsbD 7

/-- R28: the action with which an entry decides a cell; none where the entry reads as OFF, its kind set lacks
the cell's kind, or its match does not hold. -/
def entryDecides (e : SteerEntry) (k : CellKind) (s : Stream) : Option SteerAction :=
  if kindInSet e.kinds k && matchHolds e s then actionOf e.action else none

/-- R28: the first entry, in index order, that decides a cell, with its index and action. -/
def firstDecision (bank : Vector SteerEntry 64) (k : CellKind) (s : Stream) : List (Fin 64) →
    Option (Fin 64 × SteerAction)
  | [] => none
  | i :: rest =>
    match entryDecides bank[i] k s with
    | some a => some (i, a)
    | none => firstDecision bank k s rest

/-! ## The banks (R25) -/

/-- A bank by its number. -/
def bankOf (t : Steering) (n : Fin 2) : Vector SteerEntry 64 := if n = 0 then t.bank0 else t.bank1

/-- R25: the bank named by the active-bank pointer. -/
def activeEntries (t : Steering) : Vector SteerEntry 64 := bankOf t t.activeBank

/-- R25: the number of the shadow. -/
def shadowBank (t : Steering) : Fin 2 := t.activeBank + 1

/-- R28: the examination of a cell against the active bank. -/
def decideCell (t : Steering) (k : CellKind) (s : Stream) : Option (Fin 64 × SteerAction) :=
  firstDecision (activeEntries t) k s (List.finRange 64)

/-! ## A decided cell (R29 to R32) -/

/-- The steering unit's state changed. -/
def modSteer (f : Steering → Steering) (c : Chip) : Chip := { c with steer := f c.steer }

/-- R29: an entry decides a cell and its action is carried out. -/
def countDecision (c : Chip) : Chip := modSteer (fun t => { t with decisions := bump t.decisions }) c

/-- R30: a kind mismatch. -/
def countMismatch (c : Chip) : Chip := modSteer (fun t => { t with kindMismatch := bump t.kindMismatch }) c

/-- R29, R31: a cell discarded by an action. -/
def countDiscard (c : Chip) : Chip := modSteer (fun t => { t with discards := bump t.discards }) c

/-- R29, R30: the action of the entry that decides a cell. -/
def carryOut (a : SteerAction) (lane : LaneNo) (k : CellKind) (cell : Cell) (c : Chip) : Chip :=
  match a with
  | .discard => countDecision (countDiscard c)
  | .code x => if k = .video then gatherCell x lane cell (countDecision c) else countMismatch c
  | .mix i => if k = .audio then modInput i (receiveBlock cell.payload) (countDecision c) else countMismatch c
  | .pass => joinPass ⟨cell.stream, cell.payload⟩ (countDecision c)

/-- R32: a noted decision recorded, with the timecode current at the cell's arrival. -/
def recordNote (i : Fin 64) (lane : LaneNo) (s : Stream) (c : Chip) : Chip :=
  setAttention [.steerNote]
    (modSteer (fun t => { t with lastNote := some ⟨i, s, lane, c.time.timecode⟩, notes := bump t.notes }) c)

/-- R31: the default action. -/
def defaultAction (cell : Cell) (c : Chip) : Chip :=
  let c1 := modSteer (fun t => { t with noMatch := bump t.noMatch }) c
  match c.steer.default with
  | .discard => countDiscard c1
  | .pass => joinPass ⟨cell.stream, cell.payload⟩ c1

/-- R28 to R32: a cell evaluated in RUN. A note is recorded after the action is carried out (log entry 13). -/
def evaluateCell (lane : LaneNo) (k : CellKind) (cell : Cell) (c : Chip) : Chip :=
  match decideCell c.steer k cell.stream with
  | some (i, a) =>
    let c1 := carryOut a lane k cell c
    if noteFlag (activeEntries c.steer)[i] then recordNote i lane cell.stream c1 else c1
  | none => defaultAction cell c

/-- R33: a cell that reaches steering: discarded without evaluation in STANDBY, evaluated in RUN. -/
def steerCell (lane : LaneNo) (k : CellKind) (cell : Cell) (c : Chip) : Chip :=
  match c.port.mode with
  | .standby => c
  | .run => evaluateCell lane k cell c

/-! ## The swap (R37) -/

/-- R37: the banks exchanged. -/
def swapBanks (c : Chip) : Chip :=
  setAttention [.steerSwapped]
    (modSteer (fun t => { t with activeBank := shadowBank t, pendingSwap := false, swaps := bump t.swaps }) c)

/-- R37: steering at a picture boundary. -/
def steerBoundary (c : Chip) : Chip := if c.steer.pendingSwap then swapBanks c else c

/-! ## Commands -/

/-- R34, R35: whether a first index and a count name entries of a bank. -/
def steerRange (first count : Nat) : Bool := 1 ≤ count && count ≤ 8 && first + count ≤ 64

/-- R34: a bank with entries written from a first index on. -/
def writeEntries (b : Vector SteerEntry 64) : Nat → List SteerEntry → Vector SteerEntry 64
  | _, [] => b
  | n, e :: es => writeEntries (b.setIfInBounds n (storedEntry e)) (n + 1) es

/-- R34: entries written to the shadow. -/
def writeShadow (first : Nat) (es : List SteerEntry) (t : Steering) : Steering :=
  if shadowBank t = 0 then { t with bank0 := writeEntries t.bank0 first es }
  else { t with bank1 := writeEntries t.bank1 first es }

/-- R34: LOAD_STEER. -/
def loadSteer (first count : Byte) (entries : List SteerEntry) (c : Chip) : Chip × Reply :=
  if countOk count entries.length && steerRange first.toNat count.toNat then
    (modSteer (writeShadow first.toNat entries) c, doneReply (entries.any entryClamped))
  else refuse .refusedRange c

/-- R35: ACTIVE 0, SHADOW 1. -/
def bankChoice (t : Steering) (b : Byte) : Option (Fin 2) :=
  if b = 0#8 then some t.activeBank else if b = 1#8 then some (shadowBank t) else none

/-- R35: the data of a READ_STEER answer. R188 has no type for a flag: the pending-swap flag is one byte, 1 set and 0
clear (log entry 33, a choice). -/
def steerData (t : Steering) (bank : Fin 2) (first count : Nat) : List Byte :=
  [num8 bank.val, flag8 t.pendingSwap]
    ++ (List.range count).flatMap (fun j => entryBytes (((bankOf t bank)[first + j]?).getD SteerEntry.off))

/-- R35: READ_STEER. -/
def readSteer (bank first count : Byte) (c : Chip) : Chip × Reply :=
  match bankChoice c.steer bank with
  | none => refuse .refusedRange c
  | some n =>
    if steerRange first.toNat count.toNat then
      (c, { code := .done, data := steerData c.steer n first.toNat count.toNat })
    else refuse .refusedRange c

/-- R31: STEER_DEFAULT. -/
def steerDefault (action : Byte) (c : Chip) : Chip × Reply :=
  match steerDefaultOf action with
  | some d => (modSteer (fun t => { t with default := d }) c, reply .done)
  | none => refuse .refusedRange c

/-- R36: the pending-swap flag set. -/
def requestSwap (c : Chip) : Chip := modSteer (fun t => { t with pendingSwap := true }) c

/-- R36: SWAP_STEER in both forms. -/
def swapSteer (dest : Dest) (c : Chip) : Chip :=
  match dest with
  | .unit tag => takeCommand tag .swapSteer (fun d => (requestSwap d, reply .done)) c
  | .all => takeGlobal requestSwap c

/-- R40: the steering unit after a unit reset: the plan kept, a requested swap forgotten. -/
def resetSteering (t : Steering) : Steering :=
  { Steering.powerOn with bank0 := t.bank0, bank1 := t.bank1, activeBank := t.activeBank, default := t.default }

/-! ## The rows' meanings -/

/-- LOAD_STEER (R34). -/
def execLoadSteer (tag first count : Byte) (entries : List SteerEntry) (s : State) :=
  s.onChip (takeCommand tag .loadSteer (loadSteer first count entries))

/-- READ_STEER (R35). -/
def execReadSteer (tag bank first count : Byte) (s : State) :=
  s.onChip (takeCommand tag .readSteer (readSteer bank first count))

/-- STEER_DEFAULT (R31). -/
def execSteerDefault (tag action : Byte) (s : State) :=
  s.onChip (takeCommand tag .steerDefault (steerDefault action))

/-- SWAP_STEER (R36). -/
def execSwapSteer (dest : Dest) (s : State) := s.onChip (swapSteer dest)

end Sys2Proof.Machine
end

