-- ==== Sys2Proof/Machine/Timebase.lean ====
section
/-! DEFINITION. Chapter 2: the timebase: counting timecode forward, the picture boundary and the blocks that take it,
reference cells, the expected-boundary timer, SET_RATE, the block tick, and one sample of the 48 kHz clock. -/

namespace Sys2Proof.Machine

/-- The timebase's state changed. -/
def modTime (f : Timebase → Timebase) (c : Chip) : Chip := { c with time := f c.time }

/-! ## Picture periods in samples (section 2.1) -/

/-- Section 2.1: the samples of a picture period. -/
def periodSamples (r : Rate) : Nat := 48000 / rateHz r

/-- Section 2.1: the samples of half a picture period. -/
def halfSamples (r : Rate) : Nat := periodSamples r / 2

/-- Section 2.1: the samples of one and a half picture periods. -/
def lockSamples (r : Rate) : Nat := periodSamples r + halfSamples r

/-! ## Timecode (R13, R20) -/

/-- R13, R20: a timecode in range at a rate. -/
def timecodeOk (r : Rate) (t : Timecode) : Bool :=
  t.hours ≤ 23 && t.minutes ≤ 59 && t.seconds ≤ 59 && t.picture < rateHz r

/-- R20: counting forward one picture. -/
def countForward (r : Rate) (t : Timecode) : Timecode :=
  if t.picture + 1 ≠ rateHz r then { t with picture := t.picture + 1 }
  else if t.seconds + 1 ≠ 60 then { t with seconds := t.seconds + 1, picture := 0 }
  else if t.minutes + 1 ≠ 60 then { t with minutes := t.minutes + 1, seconds := 0, picture := 0 }
  else if t.hours + 1 ≠ 24 then { hours := t.hours + 1, minutes := 0, seconds := 0, picture := 0 }
  else .zero

/-! ## The expected-boundary timer (R15) -/

/-- R15: the timer's length in a state at a rate. -/
def timerLength (s : TimebaseState) (r : Rate) : Nat :=
  match s with
  | .locked => lockSamples r
  | .freeRun => periodSamples r

/-- R15: the timebase in a state at a timecode, with the timer restarted at that state's length. -/
def restartTimer (s : TimebaseState) (tc : Timecode) (t : Timebase) : Timebase :=
  { t with state := s, timecode := tc, elapsed := 0, length := timerLength s t.rate }

/-- R15, R22: one sample of the 48 kHz clock is counted: by the expected-boundary timer, and toward the next block
tick. -/
def countSample (t : Timebase) : Timebase := { t with elapsed := t.elapsed + 1, subTick := (t.subTick + 1) % 48 }

/-! ## The picture boundary (R14) -/

/-- R14, R59, R104: the blocks that take a picture boundary, in the order steering, gatherers, selector, budget
divider, rate controller, frame scheduler (log entry 12). -/
def boundaryWork (c : Chip) : Chip :=
  allowanceBoundary (rateBoundary (budgetBoundary (selectorBoundary (gatherBoundary (steerBoundary c)))))

/-- R14: a picture boundary that leaves the timebase in a state with a new timecode. -/
def makeBoundary (s : TimebaseState) (tc : Timecode) (c : Chip) : Chip :=
  boundaryWork (modTime (restartTimer s tc) c)

/-! ## Reference cells (R13, R16, R19) -/

/-- What R13 makes of a reference cell. -/
inductive RefJudgement where
  | invalid
  | mismatch
  | valid (timecode : Timecode)
  deriving DecidableEq, Repr

/-- R13: the three tests on a reference payload at the configured rate. -/
def judgeReference (rate : Rate) (payload : List Byte) : RefJudgement :=
  match payload with
  | [h, m, s, p, code] =>
    let tc : Timecode := ⟨h.toNat, m.toNat, s.toNat, p.toNat⟩
    if rateOfCode code = some rate then
      if timecodeOk rate tc then .valid tc else .invalid
    else .mismatch
  | _ => .invalid

/-- R16: whether a carried timecode is a jump. -/
def isJump (t : Timebase) (tc : Timecode) : Bool := !(tc == countForward t.rate t.timecode)

/-- R16, R19: a valid reference. -/
def takeReference (tc : Timecode) (c : Chip) : Chip :=
  let c1 := modTime (fun t => { t with refsTaken := bump t.refsTaken }) c
  match c.time.state with
  | .locked =>
    makeBoundary .locked tc (modTime (fun t => { t with jumps := bumpIf (isJump t tc) t.jumps }) c1)
  | .freeRun =>
    if c.time.elapsed < halfSamples c.time.rate then modTime (restartTimer .locked tc) c1
    else makeBoundary .locked tc c1

/-- R13: a REFERENCE cell at the timebase. -/
def referenceCell (payload : List Byte) (c : Chip) : Chip :=
  match judgeReference c.time.rate payload with
  | .invalid => modTime (fun t => { t with invalidRefs := bump t.invalidRefs }) c
  | .mismatch => modTime (fun t => { t with rateMismatches := bump t.rateMismatches }) c
  | .valid tc => takeReference tc c

/-! ## Expiries of the timer (R17, R18) -/

/-- R17: the timer expires in LOCKED: a boundary counted forward, FREE_RUN, the loss counted, REF_LOST set. -/
def loseReference (c : Chip) : Chip :=
  setAttention [.refLost] (modTime (fun t => { t with refLosses := bump t.refLosses })
    (makeBoundary .freeRun (countForward c.time.rate c.time.timecode) c))

/-- R18: the timer expires in FREE_RUN: a boundary counted forward. -/
def freeBoundary (c : Chip) : Chip := makeBoundary .freeRun (countForward c.time.rate c.time.timecode) c

/-- R15: the timer's expiry, by the state. -/
def expireBoundary (c : Chip) : Chip :=
  match c.time.state with
  | .locked => loseReference c
  | .freeRun => freeBoundary c

/-! ## The block tick (R22) -/

/-- The parts of the 7320 in an order in which they take a block tick. -/
def tickParts (o : TickOrder) : List TickPart :=
  match o with
  | .mixerSchedulerLink => [.mixer, .scheduler, .link]
  | .mixerLinkScheduler => [.mixer, .link, .scheduler]
  | .schedulerMixerLink => [.scheduler, .mixer, .link]
  | .schedulerLinkMixer => [.scheduler, .link, .mixer]
  | .linkMixerScheduler => [.link, .mixer, .scheduler]
  | .linkSchedulerMixer => [.link, .scheduler, .mixer]

/-- One part's work at a block tick. -/
def tickPart (silenceFirst : Bool) (p : TickPart) (c : Chip) : Chip :=
  match p with
  | .mixer => mixerTick c
  | .scheduler => schedulerTick c
  | .link => linkTick silenceFirst c

/-- A free choice is made. -/
def madeChoice (c : Chip) : Chip := { c with choices := c.choices + 1 }

/-- R22: the ms counter rises by one, wrapping, and then the blocks that act on the block tick take it, in an
order given. -/
def tickWith (o : TickOrder) (silenceFirst : Bool) (c : Chip) : Chip :=
  (tickParts o).foldl (fun d p => tickPart silenceFirst p d) (modTime (fun t => { t with ms := t.ms + 1 }) c)

/-- R22: the work of a block tick, its order free (log entries 1 and 2). -/
def tickWork (c : Chip) : Chip :=
  tickWith (Config.tickOrder c.choices) (Config.silenceFirst c.choices) (madeChoice c)

/-! ## The 48 kHz clock (R15, R22; log entry 6) -/

/-- R15, R22: one sample passes; the timer's expiry and the block tick that fall at it are taken, in a free order
where both do (log entry 3). -/
def sampleStep (c : Chip) : Chip :=
  let c1 := modTime countSample c
  let boundary := c1.time.length ≤ c1.time.elapsed
  let tick := c1.time.subTick = 0
  if boundary then
    if tick then
      if Config.boundaryFirst c.choices then tickWork (expireBoundary (madeChoice c1))
      else expireBoundary (tickWork (madeChoice c1))
    else expireBoundary c1
  else if tick then tickWork c1
  else c1

/-- A number of samples pass, with every boundary and every block tick that falls at one of them. -/
def runClock : Nat → Chip → Chip
  | 0, c => c
  | n + 1, c => runClock n (sampleStep c)

/-- R22: the samples up to and including that of the next block tick. -/
def toTick (t : Timebase) : Nat := 48 - t.subTick % 48

/-- R15: the samples up to and including that at which the expected-boundary timer expires. -/
def toExpiry (t : Timebase) : Nat := max 1 (t.length - t.elapsed)

/-- R22: the clock runs up to the next block tick, which is taken; so is an expiry of the expected-boundary timer
that falls before it or with it (R15, log entry 6). -/
def blockTick (c : Chip) : Chip := runClock (toTick c.time) c

/-- R17, R18: the row of an expiry in a state: the clock runs up to the timer's end, and the expiry is taken; so is
every block tick that falls before it or with it (R22, log entry 6). In the other state there is no such event (log
entry 5). -/
def expiryIn (s : TimebaseState) (c : Chip) : Chip :=
  if c.time.state = s then runClock (toExpiry c.time) c else c

/-! ## SET_RATE (R21) -/

/-- R21: the timebase at a new rate. -/
def changeRate (r : Rate) (t : Timebase) : Timebase :=
  restartTimer .freeRun { t.timecode with picture := 0 } { t with rate := r }

/-- R21: SET_RATE. -/
def setRate (rate : Byte) (c : Chip) : Chip × Reply :=
  if c.port.mode ≠ .standby then refuse .refusedState c
  else match rateOf rate with
    | none => refuse .refusedRange c
    | some r => if r = c.time.rate then (c, reply .done) else (modTime (changeRate r) c, reply .done)

/-- R24: the timebase after a unit reset: its counters 0, all else running on. -/
def resetTime (t : Timebase) : Timebase :=
  { t with refsTaken := 0, rateMismatches := 0, invalidRefs := 0, refLosses := 0, jumps := 0 }

/-! ## The rows' meanings -/

/-- REFERENCE_LOSS (R17). -/
def execReferenceLoss (s : State) := s.onChip (expiryIn .locked)

/-- FREE_RUN_BOUNDARY (R18). -/
def execFreeRunBoundary (s : State) := s.onChip (expiryIn .freeRun)

/-- BLOCK_TICK (R22, R23). -/
def execBlockTick (s : State) := s.onChip blockTick

/-- SET_RATE (R21). -/
def execSetRate (tag rate : Byte) (s : State) := s.onChip (takeCommand tag .setRate (setRate rate))

end Sys2Proof.Machine
end

