-- ==== Sys2Proof/Machine/ReturnPath.lean ====
section
/-! DEFINITION. Section 8.3: return messages on HR (R116 to R119). -/

namespace Sys2Proof.Machine

/-- R118: a stray message. -/
def countStray (c : Chip) : Chip := modLink (fun l => { l with strayMessages := bump l.strayMessages }) c

/-- R119: a CAPACITY message taken. -/
def takeCapacity (v : Nat) (c : Chip) : Chip :=
  setAttention [.capacity]
    (modLink (fun l => { storeCapacity v l with capacityMessages := bump l.capacityMessages }) c)

/-- R118: what a valid message does by its kind in a link state, before the message counts as one heard. -/
def takeBody (b : ReturnBody) (c : Chip) : Chip :=
  match b, c.link.state with
  | .hailAnswer v, .hailing => openLink v c
  | .hailAnswer _, .down => countStray c
  | .hailAnswer _, .up => countStray c
  | .hailAnswer _, .lost => countStray c
  | .hailAnswer _, .draining => countStray c
  | .hailAnswer _, .held => countStray c
  | .capacity _, .down => countStray c
  | .capacity v, .hailing => takeCapacity v c
  | .capacity v, .up => takeCapacity v c
  | .capacity v, .lost => takeCapacity v c
  | .capacity v, .draining => takeCapacity v c
  | .capacity v, .held => takeCapacity v c
  | .ack _, .down => countStray c
  | .ack ns, .hailing => ackFrames ns c
  | .ack ns, .up => ackFrames ns c
  | .ack ns, .lost => ackFrames ns c
  | .ack ns, .draining => ackFrames ns c
  | .ack ns, .held => ackFrames ns c

/-- R118, R120: a message heard from the studio: in UP and DRAINING it restarts the silence timer, and in LOST it
returns the link to UP with the timer started, the transmit credit kept. -/
def heard (c : Chip) : Chip :=
  match c.link.state with
  | .up => modLink startSilence c
  | .draining => modLink startSilence c
  | .lost => modLink startSilence (enterLink .up [] c)
  | .down => c
  | .hailing => c
  | .held => c

/-- R117, R118: a valid message counted, taken by its kind and the link state, and then heard. -/
def takeMessage (b : ReturnBody) (c : Chip) : Chip :=
  heard (takeBody b (modLink (fun l => { l with validMessages := bump l.validMessages }) c))

/-- R117, test 3: whether a message is for this unit and this van. -/
def forThisUnit (unit : Byte) (identity : BitVec 16) (c : Chip) : Bool :=
  unit.toNat == c.unit.val && identity == c.link.settings.identity

/-- R117: a return message on HR. -/
def returnMessage (bytes : List Byte) (c : Chip) : Chip :=
  match readReturn bytes with
  | .badCheck => modLink (fun l => { l with checkErrors := bump l.checkErrors }) c
  | .malformed => modLink (fun l => { l with malformed := bump l.malformed }) c
  | .message unit identity body =>
    if forThisUnit unit identity c then takeMessage body c
    else modLink (fun l => { l with identityMismatches := bump l.identityMismatches }) c

/-- RETURN_MESSAGE_ARRIVAL (R117). -/
def execReturnMessageArrival (bytes : List Byte) (s : State) := s.onChip (returnMessage bytes)

end Sys2Proof.Machine
end

