-- ==== Sys2Proof/Machine/Status.lean ====
section
/-! DEFINITION. READ_STATUS (R181): what each of the sixteen blocks returns. The fields stand in the order of the
block's own rule, each in the size R188 gives its type; the readings of R188 that this takes are log entry 10. -/

namespace Sys2Proof.Machine

/-- Counters, 2 bytes each (R188). -/
def counters (xs : List Counter) : List Byte := xs.flatMap be16

/-- R188: a context choice in an answer: the context number, or 255 for NONE. -/
def choiceByte (k : Option Ctx) : Byte :=
  match k with
  | some x => num8 x.val
  | none => 255#8

/-- R12: an input lane. -/
def laneStatus (l : Lane) : List Byte := counters [l.accepted, l.checkErrors, l.foreign, l.malformed]

/-- R12: the output lane. -/
def outStatus (o : OutputLane) : List Byte :=
  [num8 (outCount o), num8 o.hold.length]
    ++ counters [o.auxSent, o.tallySent, o.reportsSent, o.auxDrops, o.tallyReplaced]

/-- Section 2.4: FREE_RUN 0, LOCKED 1. -/
def timebaseStateByte : TimebaseState → Byte
  | .freeRun => 0
  | .locked => 1

/-- R24: the timebase. -/
def timeStatus (t : Timebase) : List Byte :=
  [timebaseStateByte t.state] ++ timecodeBytes t.timecode ++ [num8 (rateHz t.rate)] ++ be32 t.ms
    ++ counters [t.refsTaken, t.rateMismatches, t.invalidRefs, t.refLosses, t.jumps]

/-- R31: DISCARD 0, PASS 1. -/
def steerDefaultByte : SteerDefault → Byte
  | .discard => 0
  | .pass => 1

/-- R32, R188: the last-note record. -/
def noteBytes (n : LastNote) : List Byte :=
  [num8 n.entry.val] ++ be16 (n.stream.zeroExtend 16) ++ num16 n.lane.val ++ timecodeBytes n.timecode

/-- R39: the steering unit. -/
def steerStatus (t : Steering) : List Byte :=
  [num8 t.activeBank.val, flag8 t.pendingSwap, steerDefaultByte t.default]
    ++ optBytes 9 (t.lastNote.map noteBytes)
    ++ counters [t.decisions, t.noMatch, t.kindMismatch, t.discards, t.notes, t.swaps]

/-- R41: STOPPED 0, STARTING 1, RUNNING 2, DRAINING 3. -/
def ctxStateByte : CtxState → Byte
  | .stopped => 0
  | .starting => 1
  | .running => 2
  | .draining => 3

/-- R55, R188: a context's gathering record. -/
def gatheringBytes (g : Gathering) : List Byte :=
  be16 g.picture.number ++ [flag8 g.picture.damaged] ++ num16 g.lane.val ++ be16 (g.stream.zeroExtend 16)

/-- R55: a context's ready record. -/
def readyBytes (r : Ready) : List Byte := be16 r.picture.number ++ [flag8 r.picture.damaged]

/-- R55: a context. One presence byte stands before all the fields of the gathering record, and one before those of
the ready record (log entry 10, a choice). -/
def ctxStatus (x : Context) (marker : Byte) : List Byte :=
  [ctxStateByte x.state] ++ optBytes 7 (x.gathering.map gatheringBytes) ++ optBytes 3 (x.ready.map readyBytes)
    ++ be16 x.nextNumber ++ [marker]
    ++ counters [x.slices, x.notRunning, x.orphans, x.completed, x.damagedPictures, x.staleGathers, x.overruns]

/-- R55: the engine, IDLE 0 or CODING 1. One presence byte stands before the context and the picture number of the
operation together (log entry 10, a choice). -/
def engineStatus (e : Engine) : List Byte :=
  [flag8 e.op.isSome]
    ++ optBytes 3 (e.op.map (fun o => num8 o.picture.ctx.val :: be16 o.picture.number))
    ++ [num8 e.pointer.val] ++ counters [e.grants, e.programmeGrants, e.completions, e.abandoned]

/-- R76: the budget divider. -/
def budgetStatus (b : Budget) : List Byte :=
  num32 b.capacity ++ num32 b.bytes ++ num16 b.audio ++ num16 b.label
    ++ allCtx.flatMap (fun k => num32 b.minimums[k] ++ num32 b.targets[k])
    ++ num32 b.idle ++ num16 b.reserve ++ be16 b.shortfalls

/-- R72: NONE 0, TROUBLE 1, ALL 2. -/
def logModeByte : LogMode → Byte
  | .none => 0
  | .trouble => 1
  | .all => 2

/-- R76: the two groups of a context's settings and its curve. -/
def settingsBytes (s : CtxSettings) (p : Shape) (curve : Vector Nat 33) : List Byte :=
  [num8 s.weight] ++ num32 s.minimum ++ [num8 s.boost, num8 s.bias, num8 s.slew, s.marker] ++ num16 s.latency
    ++ [logModeByte s.logMode, num8 p.depth, num8 p.qMin, num8 p.qMax, num8 p.qStart]
    ++ curve.toList.map num8

/-- R76: a context at the rate controller. -/
def rateStatus (r : RateState) : List Byte :=
  num32 r.target ++ num32 r.size ++ num32 r.fill ++ [num8 r.q] ++ settingsBytes r.settings r.shape r.curve
    ++ counters [r.accepted, r.reservoirSheds, r.queueFullSheds]

/-- R98: an audio-follow-video link. -/
def linkBytes (l : AfvLink) : List Byte := [num8 l.ctx.val, num8 l.onIndex, num8 l.offIndex]

/-- R98: a mixer input, IDLE 0 or ACTIVE 1. -/
def inputStatus (x : Input) : List Byte :=
  [flag8 x.active, num8 x.buffer.length, num8 x.underrunRun, num8 x.fader.index, num8 x.fader.target,
   num8 x.fader.start, num8 x.fader.step] ++ x.sends.toList.map num8
    ++ optBytes 3 (x.link.map linkBytes)
    ++ counters [x.blocksTaken, x.lengthErrors, x.overruns, x.underruns, x.inputClips, x.sendClips]

/-- R98: each bus's master index and mute, and for AUX-A and AUX-B the stream. -/
def busBytes (m : Mixer) (b : BusNo) : List Byte :=
  [num8 m.buses[b].master, flag8 m.buses[b].mute]
    ++ (if b = 2 then be16 (m.auxAStream.zeroExtend 16)
        else if b = 3 then be16 (m.auxBStream.zeroExtend 16) else [])

/-- R98: the mixer. -/
def mixerStatus (m : Mixer) : List Byte :=
  allBuses.flatMap (busBytes m) ++ [flag8 m.audioSend] ++ num16 m.blockCounter
    ++ counters (m.buses.toList.map (·.clips) ++ [m.framesFormed, m.framesDiscarded, m.inputsLost])

/-- R100, R110: NONE 0, SWAP 1, CUT 2, then the lost-preset mark and the context of a CUT, in three bytes whatever the
operation: the mark byte is 0 but for a marked SWAP, and the context byte 255, as for no context, but for a CUT (log
entry 10, a choice). -/
def pendingOpBytes : PendingOp → List Byte
  | .none => [0#8, 0#8, 255#8]
  | .swap lost => [1#8, flag8 lost, 255#8]
  | .cut k => [2#8, 0#8, choiceByte k]

/-- R110: the programme selector. -/
def selStatus (s : Selector) : List Byte :=
  [choiceByte s.programme, choiceByte s.preset] ++ pendingOpBytes s.pendingOp
    ++ optBytes 1 (s.pendingPreset.map (fun k => [choiceByte k]))
    ++ s.tallyStream.toList.flatMap (fun t => be16 (t.zeroExtend 16))
    ++ counters [s.applied, s.degraded, s.programmeStops, s.refusedGlobals, s.tallyOffered]

/-- R112: DOWN 0, HAILING 1, UP 2, LOST 3, DRAINING 4, HELD 5. -/
def linkStateByte : LinkState → Byte
  | .down => 0
  | .hailing => 1
  | .up => 2
  | .lost => 3
  | .draining => 4
  | .held => 5

/-- R114, R115: WINDOW 0, GAP 1. -/
def phaseByte : HailPhase → Byte
  | .window => 0
  | .gap => 1

/-- R127: the home link controller; the attempt and the phase stand where there is a phase, that is in HAILING. -/
def linkStatus (l : Link) : List Byte :=
  [linkStateByte l.state] ++ optBytes 3 (l.phase.map (fun p => num16 l.attempt ++ [phaseByte p]))
    ++ num32 l.capacity ++ num32 (planningCapacity l) ++ num32 (creditRate l) ++ num32 l.credit
    ++ [flag8 l.answerWindow.isSome, flag8 l.retryGap.isSome, flag8 l.silence.isSome, flag8 l.drainLimit.isSome]
    ++ be16 l.settings.identity ++ num16 l.settings.answerWindow ++ num16 l.settings.retryGap
    ++ num16 l.settings.silence ++ num16 l.settings.ackWindow
    ++ counters [l.stateChanges, l.hailAttempts, l.hailsFailed, l.validMessages, l.checkErrors, l.malformed,
        l.identityMismatches, l.strayMessages, l.capacityMessages, l.capacityClamps, l.silenceExpiries,
        l.drainsCompleted, l.drainsCutShort, l.audioDiscarded]

/-- R146: one context at the frame scheduler. One presence byte stands before the head picture's number and its next
fragment index together (log entry 10, a choice). -/
def schedCtxBytes (c : Chip) (k : Ctx) : List Byte :=
  num32 c.sched.allowance[k] ++ [num8 c.sched.videoQueue[k].length]
    ++ optBytes 4 ((headPicture k c).map (fun q => be16 q.picture.number ++ num16 q.sent))

/-- R146: the frame scheduler. -/
def schedStatus (c : Chip) : List Byte :=
  let s := c.sched
  [num8 s.audioQueue.length, num8 s.labelQueue.length, num8 s.passQueue.length]
    ++ allCtx.flatMap (schedCtxBytes c)
    ++ [num8 s.pointer.val, num8 s.awaiting.length, num8 s.resend.length] ++ be24 s.nextFrame
    ++ counters [s.audioSent, s.labelSent, s.videoSent, s.passSent, s.resends, s.audioDrops, s.labelQueueFull,
        s.passDrops, s.matchedAcks, s.strayAcks, s.resendsScheduled, s.entriesLost, s.fragmentsWithdrawn]

/-- R156: delivery accounting; the counters context by context, the four of each together (log entry 10, a choice). -/
def acctStatus (a : Accounting) : List Byte :=
  a.lowWater.toList.flatMap be16 ++ [num8 a.log.length]
    ++ a.outcomes.toList.flatMap (fun o => counters [o.delivered, o.shed, o.late, o.lost])
    ++ counters [a.entriesWritten, a.logFullRefusals]

/-- R173: the clip log; the mark stack bottom first behind its depth, filled to its four places with 0. -/
def clipStatus (l : ClipLog) : List Byte :=
  [num8 l.write, num8 l.fence, num8 l.stack.length] ++ (l.stack.reverse.map num8 ++ zeros 4).take 4
    ++ be16 l.nextId ++ [flag8 l.autoSend] ++ l.autoClip.toList.map flag8
    ++ counters [l.opened, l.autoOpened, l.autoSkipped, l.closed, l.emptyClips, l.labelsLost, l.delivered,
        l.gapMarks, l.voided]

/-- R178: STANDBY 0, RUN 1. -/
def modeByte : PartMode → Byte
  | .standby => 0
  | .run => 1

/-- R183: the control port. -/
def portStatus (unit : Fin 4) (p : ControlPort) : List Byte :=
  [modeByte p.mode, num8 unit.val, num8 p.report.length] ++ be16 p.attention ++ be16 p.enables
    ++ counters [p.malformed, p.otherUnit, p.globalsTaken, p.allIgnored, p.queueFullDiscards, p.answered,
        p.noticesQueued, p.noticesDropped]

/-- A lane number from 0 to 7. -/
def laneOf (b : Byte) : Option LaneNo := if h : b.toNat < 8 then some ⟨b.toNat, h⟩ else none

/-- R181: what a block and an index name; none where the block names none of the sixteen or the index is out of
range. The index of a block listed with none is not read. -/
def statusData (block index : Byte) (c : Chip) : Option (List Byte) :=
  match block.toNat with
  | 0 => (laneOf index).map (fun n => laneStatus c.lanes[n])
  | 1 => some (outStatus c.out)
  | 2 => some (timeStatus c.time)
  | 3 => some (steerStatus c.steer)
  | 4 => (ctxOf index).map (fun k => ctxStatus c.ctx[k] c.rate[k].settings.marker)
  | 5 => some (engineStatus c.engine)
  | 6 => some (budgetStatus c.budget)
  | 7 => (ctxOf index).map (fun k => rateStatus c.rate[k])
  | 8 => (inputOf index).map (fun i => inputStatus c.mixer.inputs[i])
  | 9 => some (mixerStatus c.mixer)
  | 10 => some (selStatus c.sel)
  | 11 => some (linkStatus c.link)
  | 12 => some (schedStatus c)
  | 13 => some (acctStatus c.acct)
  | 14 => some (clipStatus c.clips)
  | 15 => some (portStatus c.unit c.port)
  | _ => none

/-- R181: READ_STATUS. -/
def readStatus (block index : Byte) (c : Chip) : Chip × Reply :=
  match statusData block index c with
  | some bs => (c, { code := .done, data := bs })
  | none => refuse .refusedRange c

/-- READ_STATUS (R181). -/
def execReadStatus (tag block index : Byte) (s : State) :=
  s.onChip (takeCommand tag .readStatus (readStatus block index))

end Sys2Proof.Machine
end

