-- ==== Sys2Proof/Machine/Control.lean ====
section
/-! DEFINITION. Chapter 12 and chapter 1: the part modes, GO, STANDBY, RESET_UNIT, SET_NOTICES and ACK_ATTENTION; the
control cell; the lane receivers; the send completion of FO; and power-on reset. -/

namespace Sys2Proof.Machine

/-! ## Part modes (R178) -/

/-- The control port's state changed. -/
def modPort (f : ControlPort → ControlPort) (c : Chip) : Chip := { c with port := f c.port }

/-- R178: GO. -/
def goRun (c : Chip) : Chip × Reply :=
  match c.port.mode with
  | .standby => (modPort (fun p => { p with mode := .run }) c, reply .done)
  | .run => refuse .refusedState c

/-- R178: whether the link is DOWN and every context STOPPED. -/
def allQuiet (c : Chip) : Bool := c.link.state == .down && c.ctx.toList.all (fun x => x.state == .stopped)

/-- R97, R178: STANDBY. -/
def standBy (c : Chip) : Chip × Reply :=
  if allQuiet c then
    (modPort (fun p => { p with mode := .standby }) { c with mixer := cleanStart c.mixer }, reply .done)
  else refuse .refusedState c

/-! ## Attention (R180) -/

/-- R180: SET_NOTICES. -/
def setNotices (classes : BitVec 16) (c : Chip) : Chip × Reply :=
  (modPort (fun p => { p with enables := attRead classes }) c, reply .done)

/-- R180: ACK_ATTENTION. -/
def ackAttention (classes : BitVec 16) (c : Chip) : Chip × Reply :=
  (modPort (fun p => { p with attention := p.attention &&& ~~~(attRead classes) }) c, reply .done)

/-! ## Unit reset (R182) -/

/-- R12: the output lane after a unit reset; a cell in transmission is finished, out of the emptied queue. -/
def resetOut (o : OutputLane) : OutputLane :=
  { OutputLane.powerOn with tx := o.tx.map (fun t => { t with inQueue := false }) }

/-- R182, R183: the control port after a unit reset, the place held for the reset's answer still held. -/
def resetPort (p : ControlPort) : ControlPort := { ControlPort.powerOn with held := p.held, enables := p.enables }

/-- R182: every block's part of a unit reset, taken as one event. -/
def resetBlocks (c : Chip) : Chip :=
  { c with
      lanes := Vector.replicate 8 Lane.zero, out := resetOut c.out, time := resetTime c.time,
      steer := resetSteering c.steer, ctx := mapAll resetCtx c.ctx, engine := .powerOn,
      rate := mapAll resetRate c.rate, budget := resetBudget c.budget, mixer := resetMixer c.mixer,
      sel := resetSelector c.sel, link := resetLink c.link, sched := resetSched c.sched, acct := resetAcct c,
      clips := resetClips c.clips, port := resetPort c.port }

/-- R111, R182: a unit reset: every block's, and then the OFF tally cells, which reach the emptied output lane. -/
def unitReset (c : Chip) : Chip := offerTallyOff (resetBlocks c)

/-- R182: RESET_UNIT. -/
def resetUnit (c : Chip) : Chip × Reply := (unitReset c, reply .done)

/-- GO (R178). -/
def execGo (tag : Byte) (s : State) := s.onChip (takeCommand tag .go goRun)

/-- STANDBY (R178). -/
def execStandby (tag : Byte) (s : State) := s.onChip (takeCommand tag .standby standBy)

/-- RESET_UNIT (R182). -/
def execResetUnit (tag : Byte) (s : State) := s.onChip (takeCommand tag .resetUnit resetUnit)

/-- SET_NOTICES (R180). -/
def execSetNotices (tag : Byte) (classes : BitVec 16) (s : State) :=
  s.onChip (takeCommand tag .setNotices (setNotices classes))

/-- ACK_ATTENTION (R180). -/
def execAckAttention (tag : Byte) (classes : BitVec 16) (s : State) :=
  s.onChip (takeCommand tag .ackAttention (ackAttention classes))

/-! ## The control cell (R175, R176) -/

/-- The part after a command's meaning has run on it; no meaning stops. -/
def partAfter (c : Chip) (run : State → Host.Outcome State Fault Refusal) : Chip :=
  match run ⟨c, []⟩ with
  | .next s => s.chip
  | .fault _ => c
  | .refused _ => c

/-- R176: a command of the catalogue handed to its owning block: what the command's own row does to the part. An
event is no command. -/
def runCommand (i : Instr) (c : Chip) : Chip :=
  match i with
  | .powerOnReset _ => c
  | .cellArrival _ _ => c
  | .referenceLoss => c
  | .freeRunBoundary => c
  | .blockTick => c
  | .audioInputLost _ => c
  | .pictureDeadline _ _ => c
  | .ackWindowExpiry _ => c
  | .hailAnswerWindowExpiry => c
  | .hailRetryGapExpiry => c
  | .silenceExpiry => c
  | .drainLimitExpiry => c
  | .codingCompletion _ => c
  | .returnMessageArrival _ => c
  | .foSendCompletion => c
  | .setRate t r => partAfter c (execSetRate t r)
  | .loadSteer t f n es => partAfter c (execLoadSteer t f n es)
  | .readSteer t b f n => partAfter c (execReadSteer t b f n)
  | .steerDefault t a => partAfter c (execSteerDefault t a)
  | .swapSteer d => partAfter c (execSwapSteer d)
  | .startContext t k => partAfter c (execStartContext t k)
  | .stopContext t k => partAfter c (execStopContext t k)
  | .setContext t k w m bo bi sl mk la mode => partAfter c (execSetContext t k w m bo bi sl mk la mode)
  | .setReservoir t k d lo hi st => partAfter c (execSetReservoir t k d lo hi st)
  | .loadCurve t k es => partAfter c (execLoadCurve t k es)
  | .setBudget t r => partAfter c (execSetBudget t r)
  | .loadGain t f n es => partAfter c (execLoadGain t f n es)
  | .readGain t f n => partAfter c (execReadGain t f n)
  | .setFader t i x r => partAfter c (execSetFader t i x r)
  | .setAfv t i l on off => partAfter c (execSetAfv t i l on off)
  | .setSends t i a b x y => partAfter c (execSetSends t i a b x y)
  | .setBus t b m mute s => partAfter c (execSetBus t b m mute s)
  | .setAudioSend t v => partAfter c (execSetAudioSend t v)
  | .readMeters t => partAfter c (execReadMeters t)
  | .preset d u k => partAfter c (execPreset d u k)
  | .take d => partAfter c (execTake d)
  | .cutTo d u k => partAfter c (execCutTo d u k)
  | .setTally t k s => partAfter c (execSetTally t k s)
  | .linkOpen t => partAfter c (execLinkOpen t)
  | .handover t => partAfter c (execHandover t)
  | .linkClose t => partAfter c (execLinkClose t)
  | .setLink t v a r s k => partAfter c (execSetLink t v a r s k)
  | .readLog t => partAfter c (execReadLog t)
  | .markIn t k text rating => partAfter c (execMarkIn t k text rating)
  | .markOut t => partAfter c (execMarkOut t)
  | .setClipMode t a cs => partAfter c (execSetClipMode t a cs)
  | .label t i text rating => partAfter c (execLabel t i text rating)
  | .sendLabel t i => partAfter c (execSendLabel t i)
  | .voidClip t i => partAfter c (execVoidClip t i)
  | .setFence t n => partAfter c (execSetFence t n)
  | .clearClips t => partAfter c (execClearClips t)
  | .readClip t i => partAfter c (execReadClip t i)
  | .go t => partAfter c (execGo t)
  | .standby t => partAfter c (execStandby t)
  | .resetUnit t => partAfter c (execResetUnit t)
  | .readStatus t b i => partAfter c (execReadStatus t b i)
  | .setNotices t m => partAfter c (execSetNotices t m)
  | .ackAttention t m => partAfter c (execAckAttention t m)

/-- R176: an addressed cell: an unknown name is refused REFUSED_UNKNOWN, parameters of another number or size are
refused REFUSED_RANGE, and otherwise the command is taken. -/
def addressedCell (fr : ControlFrame) (c : Chip) : Chip :=
  match commandNamed fr.name with
  | none => takeAddressed fr.tag fr.name (refuse .refusedUnknown) c
  | some n =>
    match decodeParams n (.unit fr.tag) fr.tag fr.params with
    | none => takeAddressed fr.tag fr.name (refuse .refusedRange) c
    | some i => runCommand i c

/-- R175: a cell sent to ALL that is ignored. -/
def ignoreAll (c : Chip) : Chip := modPort (fun p => { p with allIgnored := bump p.allIgnored }) c

/-- R175: the command of a cell sent to ALL, where it is one of the four global commands in its own layout. -/
def globalCommand (fr : ControlFrame) : Option Instr :=
  match commandNamed fr.name with
  | some n => if mayBeGlobal n then decodeParams n .all fr.tag fr.params else none
  | none => none

/-- R175: a cell sent to ALL. -/
def globalCell (fr : ControlFrame) (c : Chip) : Chip :=
  match globalCommand fr with
  | some i => runCommand i c
  | none => ignoreAll c

/-- R175: a control cell at the control port. -/
def controlCell (unit : BitVec 4) (payload : List Byte) (c : Chip) : Chip :=
  match readFrame payload with
  | none => modPort (fun p => { p with malformed := bump p.malformed }) c
  | some fr =>
    if unit.toNat = c.unit.val then addressedCell fr c
    else if unit = 15#4 then globalCell fr c
    else modPort (fun p => { p with otherUnit := bump p.otherUnit }) c

/-! ## The lane receivers (R2 to R6) -/

/-- An input lane's counters changed. -/
def modLane (n : LaneNo) (f : Lane → Lane) (c : Chip) : Chip := { c with lanes := modAt c.lanes n f }

/-- What a lane receiver makes of a cell that passes its check (R3 to R5). -/
inductive LaneVerdict where
  | malformed
  | foreign
  | control
  | reference
  | steering (kind : CellKind)
  deriving DecidableEq, Repr

/-- R5: where a kind and a stream are sent on. -/
def routeOf (k : CellKind) (s : Stream) : LaneVerdict :=
  match k with
  | .answer => .foreign
  | .notice => .foreign
  | .tally => .foreign
  | .control => if s = 0#12 then .control else .malformed
  | .reference => if s = 1#12 then .reference else .malformed
  | .video => if s = 0#12 || s = 1#12 then .malformed else .steering .video
  | .audio => if s = 0#12 || s = 1#12 then .malformed else .steering .audio
  | .data => if s = 0#12 || s = 1#12 then .malformed else .steering .data

/-- R3 to R5: the verdict on a cell. -/
def laneVerdict (cell : Cell) : LaneVerdict :=
  match kindOf cell.kind with
  | none => .malformed
  | some k => routeOf k cell.stream

/-- R5, R12: a cell accepted and counted. -/
def countAccepted (n : LaneNo) (c : Chip) : Chip := modLane n (fun l => { l with accepted := bump l.accepted }) c

/-- R3 to R6: a cell that passes the check, discarded and counted or passed on. -/
def receiveCell (n : LaneNo) (cell : Cell) (c : Chip) : Chip :=
  match laneVerdict cell with
  | .malformed => modLane n (fun l => { l with malformed := bump l.malformed }) c
  | .foreign => modLane n (fun l => { l with foreign := bump l.foreign }) c
  | .control => controlCell cell.unit cell.payload (countAccepted n c)
  | .reference => referenceCell cell.payload (countAccepted n c)
  | .steering k => steerCell n k cell (countAccepted n c)

/-- R2: the bytes collected by a lane receiver. -/
def laneBytes (n : LaneNo) (bytes : List Byte) (c : Chip) : Chip :=
  match readCell bytes with
  | none => modLane n (fun l => { l with checkErrors := bump l.checkErrors }) c
  | some cell => receiveCell n cell c

/-- CELL_ARRIVAL (R2). -/
def execCellArrival (n : LaneNo) (bytes : List Byte) (s : State) := s.onChip (laneBytes n bytes)

/-- FO_SEND_COMPLETION (R11). -/
def execFoSendCompletion (s : State) := s.onChip foSent

/-! ## Power-on reset (R7) -/

/-- R7: the number of the lowest-numbered strap tied high, 0 where none is. -/
def unitOf (straps : BitVec 4) : Fin 4 :=
  if straps.getLsbD 0 then 0 else if straps.getLsbD 1 then 1
  else if straps.getLsbD 2 then 2 else if straps.getLsbD 3 then 3 else 0

/-- R7: the part at power-on, with the unit number its straps give. The count of free choices made runs on. -/
def powerOnPart (straps : BitVec 4) (c : Chip) : Chip :=
  { Chip.powerOn with unit := unitOf straps, choices := c.choices }

/-- POWER_ON_RESET (R7). -/
def execPowerOnReset (straps : BitVec 4) (s : State) := s.onChip (powerOnPart straps)

end Sys2Proof.Machine
end

