-- ==== Sys2Proof/Machine/Dispatch.lean ====
section
/-! DEFINITION. exec: the meaning of each command, one arm per row of spec/opcode_table.json. -/

namespace Sys2Proof.Machine

def exec (i : Instr) (s : State) : Host.Outcome State Fault Refusal :=
  match i with
  | .powerOnReset straps => Sys2Proof.Machine.execPowerOnReset straps s
  | .cellArrival lane bytes => Sys2Proof.Machine.execCellArrival lane bytes s
  | .referenceLoss => Sys2Proof.Machine.execReferenceLoss s
  | .freeRunBoundary => Sys2Proof.Machine.execFreeRunBoundary s
  | .blockTick => Sys2Proof.Machine.execBlockTick s
  | .audioInputLost input => Sys2Proof.Machine.execAudioInputLost input s
  | .pictureDeadline ctx picture => Sys2Proof.Machine.execPictureDeadline ctx picture s
  | .ackWindowExpiry frame => Sys2Proof.Machine.execAckWindowExpiry frame s
  | .hailAnswerWindowExpiry => Sys2Proof.Machine.execHailAnswerWindowExpiry s
  | .hailRetryGapExpiry => Sys2Proof.Machine.execHailRetryGapExpiry s
  | .silenceExpiry => Sys2Proof.Machine.execSilenceExpiry s
  | .drainLimitExpiry => Sys2Proof.Machine.execDrainLimitExpiry s
  | .codingCompletion coded => Sys2Proof.Machine.execCodingCompletion coded s
  | .returnMessageArrival bytes => Sys2Proof.Machine.execReturnMessageArrival bytes s
  | .foSendCompletion => Sys2Proof.Machine.execFoSendCompletion s
  | .setRate tag rate => Sys2Proof.Machine.execSetRate tag rate s
  | .loadSteer tag first count entries => Sys2Proof.Machine.execLoadSteer tag first count entries s
  | .readSteer tag bank first count => Sys2Proof.Machine.execReadSteer tag bank first count s
  | .steerDefault tag action => Sys2Proof.Machine.execSteerDefault tag action s
  | .swapSteer dest => Sys2Proof.Machine.execSwapSteer dest s
  | .startContext tag ctx => Sys2Proof.Machine.execStartContext tag ctx s
  | .stopContext tag ctx => Sys2Proof.Machine.execStopContext tag ctx s
  | .setContext tag ctx weight minimum boost bias slew marker latency logMode => Sys2Proof.Machine.execSetContext tag ctx weight minimum boost bias slew marker latency logMode s
  | .setReservoir tag ctx depth qMin qMax qStart => Sys2Proof.Machine.execSetReservoir tag ctx depth qMin qMax qStart s
  | .loadCurve tag ctx entries => Sys2Proof.Machine.execLoadCurve tag ctx entries s
  | .setBudget tag reserve => Sys2Proof.Machine.execSetBudget tag reserve s
  | .loadGain tag first count entries => Sys2Proof.Machine.execLoadGain tag first count entries s
  | .readGain tag first count => Sys2Proof.Machine.execReadGain tag first count s
  | .setFader tag input target step => Sys2Proof.Machine.execSetFader tag input target step s
  | .setAfv tag input link onIndex offIndex => Sys2Proof.Machine.execSetAfv tag input link onIndex offIndex s
  | .setSends tag input pgmL pgmR auxA auxB => Sys2Proof.Machine.execSetSends tag input pgmL pgmR auxA auxB s
  | .setBus tag bus master mute stream => Sys2Proof.Machine.execSetBus tag bus master mute stream s
  | .setAudioSend tag value => Sys2Proof.Machine.execSetAudioSend tag value s
  | .readMeters tag => Sys2Proof.Machine.execReadMeters tag s
  | .preset dest unit ctx => Sys2Proof.Machine.execPreset dest unit ctx s
  | .take dest => Sys2Proof.Machine.execTake dest s
  | .cutTo dest unit ctx => Sys2Proof.Machine.execCutTo dest unit ctx s
  | .setTally tag ctx stream => Sys2Proof.Machine.execSetTally tag ctx stream s
  | .linkOpen tag => Sys2Proof.Machine.execLinkOpen tag s
  | .handover tag => Sys2Proof.Machine.execHandover tag s
  | .linkClose tag => Sys2Proof.Machine.execLinkClose tag s
  | .setLink tag identity answerWindow retryGap silence ackWindow => Sys2Proof.Machine.execSetLink tag identity answerWindow retryGap silence ackWindow s
  | .readLog tag => Sys2Proof.Machine.execReadLog tag s
  | .markIn tag ctx text rating => Sys2Proof.Machine.execMarkIn tag ctx text rating s
  | .markOut tag => Sys2Proof.Machine.execMarkOut tag s
  | .setClipMode tag autoSend autoClip => Sys2Proof.Machine.execSetClipMode tag autoSend autoClip s
  | .label tag index text rating => Sys2Proof.Machine.execLabel tag index text rating s
  | .sendLabel tag index => Sys2Proof.Machine.execSendLabel tag index s
  | .voidClip tag index => Sys2Proof.Machine.execVoidClip tag index s
  | .setFence tag position => Sys2Proof.Machine.execSetFence tag position s
  | .clearClips tag => Sys2Proof.Machine.execClearClips tag s
  | .readClip tag index => Sys2Proof.Machine.execReadClip tag index s
  | .go tag => Sys2Proof.Machine.execGo tag s
  | .standby tag => Sys2Proof.Machine.execStandby tag s
  | .resetUnit tag => Sys2Proof.Machine.execResetUnit tag s
  | .readStatus tag block index => Sys2Proof.Machine.execReadStatus tag block index s
  | .setNotices tag classes => Sys2Proof.Machine.execSetNotices tag classes s
  | .ackAttention tag classes => Sys2Proof.Machine.execAckAttention tag classes s

end Sys2Proof.Machine
end

