-- ==== Sys2Proof/Machine/Step.lean ====
section
/-! DEFINITION. One step of the machine: the command at the front of the queue is taken, and with no command
waiting one sample of the 48 kHz clock passes. -/

namespace Sys2Proof.Machine

/-- The command at the front of the queue is run with the queue's rest. On an empty queue time passes: one sample
of the 48 kHz clock, with the picture boundary and the block tick that fall at it (log entry 6). -/
def step (s : State) : Host.Outcome State Fault Refusal :=
  match s.pending with
  | i :: rest => exec i { s with pending := rest }
  | [] => s.onChip sampleStep

/-- The state with the command a word spells put at the front of its queue; the state itself where the word
spells none. -/
def State.withFetchWord (s : State) (nbits w : Nat) : State :=
  match decodeTableWord nbits w with
  | some i => { s with pending := i :: s.pending }
  | none => s

end Sys2Proof.Machine
end

