-- ==== Sys2Proof/Safety.lean ====
section
/-! DEFINITION. What every state of a 7320 satisfies, block by block: the conditions the manual's tables of states
and its sentences with "always", "never" and "only" give. Each is a condition on the part alone, kept by every
command and by the passing of time (the statements are in Certificates/Slice0/Obligations.lean). -/

namespace Sys2Proof.Safety

open Sys2Proof.Machine

/-! ## Timebase -/

/-- R13, R15, R20: the timecode is in range at the configured rate, the expected-boundary timer has the length of
the timebase's state and has not reached it, and fewer than 48 samples stand since the last block tick. -/
def TimeOk (c : Chip) : Prop :=
  timecodeOk c.time.rate c.time.timecode = true ∧ c.time.length = timerLength c.time.state c.time.rate ∧
    c.time.elapsed < c.time.length ∧ c.time.subTick < 48

/-! ## Steering -/

/-- R26, R34: every operand of either bank lies in 0 to 4095. -/
def BanksOk (c : Chip) : Prop :=
  (∀ e ∈ c.steer.bank0.toList, e.first.toNat ≤ 4095 ∧ e.second.toNat ≤ 4095) ∧
    (∀ e ∈ c.steer.bank1.toList, e.first.toNat ≤ 4095 ∧ e.second.toNat ≤ 4095)

/-! ## Output lane and report queue -/

/-- R10, R11: the output queue holds at most 32 cells; FO is idle only with an empty queue; the tally hold and the
report queue hold anything only while the output queue is full; the tally hold has one place for each context; and
the report queue, with a place held for an answer, has at most 16. -/
def OutOk (c : Chip) : Prop :=
  outCount c.out ≤ 32 ∧ (c.out.tx = none → c.out.queue = []) ∧ (c.out.hold ≠ [] → outCount c.out = 32) ∧
    (c.port.report ≠ [] → outCount c.out = 32) ∧ (c.out.hold.map (·.ctx)).Nodup ∧ reportTaken c.port ≤ 16

/-- R175: a place is held for an answer only while a command is being taken. -/
def NoPlaceHeld (c : Chip) : Prop := c.port.held = false

/-- R1, R186: no cell that waits for FO has more than 240 payload bytes. -/
def CellsFit (c : Chip) : Prop :=
  (∀ x ∈ c.out.queue, x.payload.length ≤ 240) ∧ (∀ h ∈ c.out.hold, h.cell.payload.length ≤ 240) ∧
    (∀ x ∈ c.port.report, x.payload.length ≤ 240)

/-- R9, R10, R96: the report queue holds answers and notices alone, and each place of the tally hold a tally cell of its
own context; and no cell but one of an AUX bus has dropped cells of its source before it. -/
def SourcesOk (c : Chip) : Prop :=
  (∀ x ∈ c.port.report, x.source = .report ∧ x.gap = 0) ∧
    (∀ h ∈ c.out.hold, h.cell.source = .tally h.ctx ∧ h.cell.gap = 0) ∧
    (∀ x ∈ c.out.queue, isAux x.source = true ∨ x.gap = 0)

/-- R2, R184: every cell the part has put on FO passes a receiver's check and carries the part's own number. -/
def SentCellsRead (c : Chip) : Prop :=
  ∀ bytes ∈ c.fo, ∃ x, readCell bytes = some x ∧ x.unit = BitVec.ofNat 4 c.unit.val

/-! ## Contexts, engine and programme -/

/-- R41: what a context's records are in each of its states. -/
def ContextOk (c : Chip) (k : Ctx) : Prop :=
  (c.ctx[k].state ≠ .running → c.ctx[k].gathering = none ∧ c.ctx[k].ready = none) ∧
    (c.ctx[k].state = .stopped ∨ c.ctx[k].state = .starting → c.sched.videoQueue[k] = []) ∧
    (c.ctx[k].state = .draining → c.sched.videoQueue[k] ≠ []) ∧ c.sched.videoQueue[k].length ≤ 8 ∧
    (∀ g, c.ctx[k].gathering = some g → g.picture.ctx = k) ∧ (∀ r, c.ctx[k].ready = some r → r.picture.ctx = k)

/-- R45, R59, R65: the target, the reservoir and its fill are 0 while a context is STOPPED or STARTING. -/
def QuietRate (c : Chip) (k : Ctx) : Prop :=
  c.ctx[k].state = .stopped ∨ c.ctx[k].state = .starting →
    c.rate[k].target = 0 ∧ c.rate[k].size = 0 ∧ c.rate[k].fill = 0

/-- R41, R51, R53: the operation in flight is a RUNNING context's, and an idle engine leaves no ready record. -/
def EngineOk (c : Chip) : Prop :=
  (∀ o, c.engine.op = some o → c.ctx[o.picture.ctx].state = .running) ∧
    (c.engine.op = none → ∀ k : Ctx, c.ctx[k].ready = none)

/-- R104, R106: the programme context is RUNNING. -/
def ProgrammeOk (c : Chip) : Prop := ∀ k, c.sel.programme = some k → c.ctx[k].state = .running

/-- R178: in STANDBY the link is DOWN and every context STOPPED. -/
def StandbyOk (c : Chip) : Prop :=
  c.port.mode = .standby → c.link.state = .down ∧ ∀ k : Ctx, c.ctx[k].state = .stopped

/-- The contexts, the engine and the programme selection together. -/
def PicturesOk (c : Chip) : Prop :=
  (∀ k, ContextOk c k) ∧ (∀ k, QuietRate c k) ∧ EngineOk c ∧ ProgrammeOk c

/-! ## Rate control -/

/-- R65 to R74: the fill lies between 0 and R, the quantiser index between q_min and q_max, and every setting in
its range. -/
def RateOk (r : RateState) : Prop :=
  r.fill ≤ r.size ∧ 1 ≤ r.shape.qMin ∧ r.shape.qMin ≤ r.q ∧ r.q ≤ r.shape.qMax ∧ r.shape.qMax ≤ 96 ∧
    r.shape.qMin ≤ r.shape.qStart ∧ r.shape.qStart ≤ r.shape.qMax ∧ 2 ≤ r.shape.depth ∧ r.shape.depth ≤ 16 ∧
    (∀ x ∈ r.curve.toList, 1 ≤ x ∧ x ≤ 96) ∧ 1 ≤ r.settings.weight ∧ r.settings.weight ≤ 16 ∧
    r.settings.minimum ≤ 1000000 ∧ 1 ≤ r.settings.boost ∧ r.settings.boost ≤ 4 ∧ r.settings.bias ≤ 15 ∧
    1 ≤ r.settings.slew ∧ r.settings.slew ≤ 16 ∧ 40 ≤ r.settings.latency ∧ r.settings.latency ≤ 2000

/-- Every context's rate state. -/
def RatesOk (c : Chip) : Prop := ∀ k : Ctx, RateOk c.rate[k]

/-- R59: the shares and targets last computed, with the idle bytes, make up the period's bytes exactly. -/
def BudgetOk (c : Chip) : Prop :=
  c.budget.audio + c.budget.label + c.budget.targets.toList.sum + c.budget.idle = c.budget.bytes ∧
    c.budget.reserve ≤ 8192

/-! ## Sound mixer -/

/-- R88: a fader's index lies between its latest ramp start and its target inclusive, with the step in 1 to 32. -/
def FaderOk (f : Fader) : Prop :=
  ((f.start ≤ f.index ∧ f.index ≤ f.target) ∨ (f.target ≤ f.index ∧ f.index ≤ f.start)) ∧
    f.start ≤ 255 ∧ f.target ≤ 255 ∧ 1 ≤ f.step ∧ f.step ≤ 32

/-- R78, R79, R88, R90, R92: one input: at most four blocks, none while it is IDLE, a consecutive-underrun count
below 100, and its indices in range. -/
def InputOk (x : Input) : Prop :=
  x.buffer.length ≤ 4 ∧ (x.active = false → x.buffer = [] ∧ x.underrunRun = 0) ∧ x.underrunRun < 100 ∧
    FaderOk x.fader ∧ (∀ n ∈ x.sends.toList, n ≤ 255) ∧
    (∀ l, x.link = some l → l.onIndex ≤ 255 ∧ l.offIndex ≤ 255)

/-- R93, R94: every input and master in range; the frame being built holds as many blocks as the block counter
counts, at most three. -/
def MixerOk (c : Chip) : Prop :=
  (∀ i : InputNo, InputOk c.mixer.inputs[i]) ∧ (∀ b : BusNo, c.mixer.buses[b].master ≤ 255) ∧
    c.mixer.blockCounter ≤ 3 ∧
    (match c.mixer.build with
      | none => c.mixer.blockCounter = 0
      | some b => 1 ≤ c.mixer.blockCounter ∧ b.blocks.length = c.mixer.blockCounter)

/-! ## Home link -/

/-- R112 to R121: the phase, the attempt and the timers of each link state, and the transmit credit of the states
that send nothing. -/
def LinkTimersOk (l : Link) : Prop :=
  match l.state with
  | .down => l.phase = none ∧ l.attempt = 0 ∧ l.answerWindow = none ∧ l.retryGap = none ∧ l.silence = none ∧
      l.drainLimit = none ∧ l.credit = 0
  | .hailing => 1 ≤ l.attempt ∧ l.attempt ≤ 3 ∧ l.silence = none ∧ l.drainLimit = none ∧ l.credit = 0 ∧
      ((l.phase = some .window ∧ l.answerWindow.isSome = true ∧ l.retryGap = none) ∨
        (l.phase = some .gap ∧ l.answerWindow = none ∧ l.retryGap.isSome = true ∧ l.attempt ≤ 2))
  | .up => l.phase = none ∧ l.attempt = 0 ∧ l.answerWindow = none ∧ l.retryGap = none ∧
      l.silence.isSome = true ∧ l.drainLimit = none
  | .lost => l.phase = none ∧ l.attempt = 0 ∧ l.answerWindow = none ∧ l.retryGap = none ∧ l.silence = none ∧
      l.drainLimit = none
  | .draining => l.phase = none ∧ l.attempt = 0 ∧ l.answerWindow = none ∧ l.retryGap = none ∧
      l.silence.isSome = true ∧ l.drainLimit.isSome = true
  | .held => l.phase = none ∧ l.attempt = 0 ∧ l.answerWindow = none ∧ l.retryGap = none ∧ l.silence = none ∧
      l.drainLimit = none ∧ l.credit = 0

/-- R119, R126: the last-announced capacity and the link settings in their ranges. -/
def LinkRangesOk (l : Link) : Prop :=
  500 ≤ l.capacity ∧ l.capacity ≤ 200000 ∧ 50 ≤ l.settings.answerWindow ∧ l.settings.answerWindow ≤ 2000 ∧
    100 ≤ l.settings.retryGap ∧ l.settings.retryGap ≤ 5000 ∧ 100 ≤ l.settings.silence ∧
    l.settings.silence ≤ 2000 ∧ 20 ≤ l.settings.ackWindow ∧ l.settings.ackWindow ≤ 1000

/-- R123, R125: with the link DOWN, HAILING or HELD the awaiting list and the resend queue are empty. -/
def ListsOk (c : Chip) : Prop :=
  linkSends c.link.state = false → c.sched.awaiting = [] ∧ c.sched.resend = []

/-- The home link controller, with the lists it empties. -/
def LinkOk (c : Chip) : Prop := LinkTimersOk c.link ∧ LinkRangesOk c.link ∧ ListsOk c

/-! ## Frame scheduler -/

/-- R132, R134, R137 to R139: the bounds of the queues, the lists and the allowances; a running ack window for each
awaiting entry, and none, and one sending, for each entry of the resend queue. -/
def SchedOk (c : Chip) : Prop :=
  c.sched.audioQueue.length ≤ 16 ∧ c.sched.labelQueue.length ≤ 16 ∧ c.sched.passQueue.length ≤ 32 ∧
    c.sched.awaiting.length + c.sched.resend.length ≤ 48 ∧
    (∀ k : Ctx, c.sched.allowance[k] ≤ 2 * c.budget.targets[k]) ∧
    (∀ e ∈ c.sched.awaiting, e.timer.isSome = true ∧ 1 ≤ e.sendCount ∧ e.sendCount ≤ 2) ∧
    (∀ e ∈ c.sched.resend, e.timer = none ∧ e.sendCount = 1)

/-! ## Clip log -/

/-- R158 to R160, R171: entries are allocated from 0 to W − 1; the mark stack names each OPEN clip once and holds
at most four; every entry below the fence is DELIVERED or VOID. -/
def TableOk (l : ClipLog) : Prop :=
  l.write ≤ 128 ∧ l.fence ≤ l.write ∧ (∀ i : Fin 128, l.table[i].isSome = true ↔ i.val < l.write) ∧
    l.stack.length ≤ 4 ∧ l.stack.Nodup ∧
    (∀ i ∈ l.stack, ∃ x, clipAt l i = some x ∧ x.state = .opened) ∧
    (∀ i : Fin 128, ∀ x, l.table[i] = some x → x.state = .opened → i.val ∈ l.stack) ∧
    (∀ i : Fin 128, i.val < l.fence → isSettled l.table[i] = true)

/-- R158: a clip's text and rating in their ranges; its out picture, out timecode and pictures-done flag absent
while it is OPEN and present from its closing on. -/
def ClipOk (x : Clip) : Prop :=
  x.text.length ≤ 32 ∧ x.rating ≤ 5 ∧
    (x.state = .opened → x.outPicture = none ∧ x.outTimecode = none ∧ x.done = none) ∧
    (x.state ≠ .opened → x.outPicture.isSome = true ∧ x.outTimecode.isSome = true ∧ x.done.isSome = true) ∧
    (x.state = .delivered → x.done = some true)

/-- The clip log. -/
def ClipsOk (c : Chip) : Prop :=
  TableOk c.clips ∧ ∀ i : Fin 128, ∀ x, c.clips.table[i] = some x → ClipOk x

/-- The clip of a label entry of the lists. -/
def labelOf (e : Entry) : Option Nat :=
  match e.origin with
  | .label i _ => some i
  | .video _ _ _ => none

/-- R138, R167: the label queue holds one frame of each QUEUED clip, and the awaiting list and the resend queue
one entry of each AWAITING clip, and no other label. -/
def LabelsOk (c : Chip) : Prop :=
  (c.sched.labelQueue.map (·.clip)).Nodup ∧
    (∀ i : Fin 128, i.val ∈ c.sched.labelQueue.map (·.clip) ↔ ∃ x, c.clips.table[i] = some x ∧ x.state = .queued) ∧
    (∀ f ∈ c.sched.labelQueue, f.clip < 128) ∧
    ((c.sched.awaiting ++ c.sched.resend).filterMap labelOf).Nodup ∧
    (∀ i : Fin 128, i.val ∈ (c.sched.awaiting ++ c.sched.resend).filterMap labelOf ↔
      ∃ x, c.clips.table[i] = some x ∧ x.state = .awaiting) ∧
    (∀ i ∈ (c.sched.awaiting ++ c.sched.resend).filterMap labelOf, i < 128)

/-- A safe state: every condition of this file. -/
def Safe (s : State) : Prop :=
  TimeOk s.chip ∧ BanksOk s.chip ∧ OutOk s.chip ∧ NoPlaceHeld s.chip ∧ CellsFit s.chip ∧ SourcesOk s.chip ∧
    SentCellsRead s.chip ∧ PicturesOk s.chip ∧ StandbyOk s.chip ∧ RatesOk s.chip ∧ BudgetOk s.chip ∧
    MixerOk s.chip ∧ LinkOk s.chip ∧ SchedOk s.chip ∧ ClipsOk s.chip ∧ LabelsOk s.chip

end Sys2Proof.Safety
end

