-- ==== Sys2Proof/Certificates/Slice0/Obligations.lean ====
section
/-! DEFINITION. The statements for the provers, one def Obligations.<Name> : Prop each, in the order of
OBLIGATIONS.json, behind the few words they share (namespace Sys2Proof.Claims). A statement about a command
concludes that exec answers a next state and says which part it holds: what is not written there is unchanged. -/

namespace Sys2Proof.Claims

open Sys2Proof.Machine

/-! ## What the statements share -/

/-- The command ends in a next state: the part as given, the waiting commands as they stood. -/
def Ends (i : Instr) (s : State) (c : Chip) : Prop := exec i s = .next { s with chip := c }

/-- R175: the report queue holds fewer than 16 entries, so that an addressed command is taken. -/
def HasRoom (s : State) : Prop := s.chip.port.report.length < 16

/-- R175 to R177: the command is taken. A place is held for its answer, the work f is done on the part, and the
answer with this code and data is placed; what placing does is O4, AnswersAndNoticesWaitInOrder. -/
def Answers (i : Instr) (s : State) (tag : Byte) (name : CommandName) (code : ResultCode) (data : List Byte)
    (f : Chip → Chip) : Prop :=
  Ends i s (placeAnswer tag (nameBytes name) ⟨code, data⟩ (f (holdPlace s.chip)))

/-- R176: the command is refused: it is answered with the code, and changes nothing else. -/
def Refuses (i : Instr) (s : State) (tag : Byte) (name : CommandName) (code : ResultCode) : Prop :=
  Answers i s tag name code [] id

/-- R176: DONE_CLAMPED where a value was clamped, DONE otherwise. -/
def doneIf (clamped : Bool) : ResultCode := if clamped then .doneClamped else .done

/-- A value brought into a range. -/
def within (lo hi x : Nat) : Nat := min hi (max lo x)

/-- Whether a value lies outside a range. -/
def outside (lo hi x : Nat) : Bool := x < lo || hi < x

/-- An addressed command of the catalogue: one that is answered. -/
def isAddressed (i : Instr) : Bool :=
  match encodeParams i with
  | some _ => i.dest != .all
  | none => false

/-- The cells of a class that wait for FO, in the order in which they will be sent: the one in transmission, then
those of the output queue. -/
def queuedOf (p : OutSource → Bool) (o : OutputLane) : List OutCell :=
  (match o.tx with
    | some t => if t.inQueue && p t.cell.source then [t.cell] else []
    | none => [])
    ++ o.queue.filter (fun x => p x.source)

/-- Answers and notices are one class. -/
def isReport : OutSource → Bool
  | .report => true
  | _ => false

/-- The answers and notices that are still to be sent, oldest first: those of the output queue, then those of the
report queue. -/
def reportsWaiting (c : Chip) : List OutCell := queuedOf isReport c.out ++ c.port.report

/-- R1, R11, R186: the bytes of a cell whose transmission begins: this unit's number, the count of its source, and its
check. -/
def sentBytes (c : Chip) (x : OutCell) : List Byte :=
  cellBytes ⟨BitVec.ofNat 4 c.unit.val, kindCode x.kind, x.stream, seqOf c.out x.source, false, false, x.payload⟩

/-- R11: d is the part once a cell has begun its transmission out of the queue: its bytes are put on FO, its source's
count is one more, wrapping, and every other source's count is as it was. -/
def Begins (x : OutCell) (rest : List OutCell) (c d : Chip) : Prop :=
  d.out.tx = some ⟨x, sentBytes c x, true⟩ ∧ d.out.queue = rest ∧ d.fo = c.fo ++ [sentBytes c x] ∧
    seqOf d.out x.source = seqOf c.out x.source + 1 ∧
    ∀ z, z ≠ x.source → seqOf d.out z = seqOf c.out z

/-- R10: the part with nothing changed but where its reports wait. Of the output lane only the queue, the cell in
transmission and the sequence counts may differ, and the AUX and tally cells wait as they did. While a cell is in
transmission it, FO and the counts are as they were; with FO idle and the queue empty the oldest report begins its
transmission at once, or nothing does while a tally cell is held. -/
def ReportsMoved (c d : Chip) : Prop :=
  d = { c with out := { c.out with
                 queue := d.out.queue, tx := d.out.tx, seqReport := d.out.seqReport, seqAuxA := d.out.seqAuxA,
                 seqAuxB := d.out.seqAuxB, seqTally := d.out.seqTally },
               fo := d.fo, port := { c.port with report := d.port.report } } ∧
    queuedOf isAux d.out = queuedOf isAux c.out ∧ queuedOf isTally d.out = queuedOf isTally c.out ∧
    (c.out.tx ≠ none → d.out.tx = c.out.tx ∧ d.fo = c.fo ∧ ∀ z, seqOf d.out z = seqOf c.out z) ∧
    (c.out.tx = none → c.out.queue = [] →
      (c.out.hold = [] → ∃ x, (reportsWaiting d).head? = some x ∧ Begins x [] c d) ∧
      (c.out.hold ≠ [] → d.out = c.out ∧ d.fo = c.fo))

end Sys2Proof.Claims

open Sys2Proof Sys2Proof.Machine Sys2Proof.Safety Sys2Proof.Claims

/-! ## Commands, answers and notices -/

/-- One step takes the command at the front of the queue and runs it with the queue's rest. -/
def Obligations.StepRunsFrontCommand : Prop :=
  ∀ (i : Instr) (rest : List Instr) (c : Chip), step ⟨c, i :: rest⟩ = exec i ⟨c, rest⟩

/-- Every command and event, on every part, ends in a next state with the waiting commands as they stood: none
faults and none is refused by the model. -/
def Obligations.EveryCommandEndsInANextState : Prop :=
  ∀ (i : Instr) (s : State), ∃ c, Ends i s c

/-- The model's choice (log entry 6): with no command waiting a step is one sample of the 48 kHz clock, so that 48
such steps are one block tick: the ms counter rises by one and the phase of the tick is as it was. -/
def Obligations.FortyEightIdleStepsAreOneMillisecond : Prop :=
  ∀ s : State, s.pending = [] → s.chip.time.subTick < 48 →
    ∃ t : State, Sys2Proof.core.run 48 s = .next t ∧ t.pending = [] ∧
      t.chip.time.ms = s.chip.time.ms + 1 ∧ t.chip.time.subTick = s.chip.time.subTick

/-- R10, R177, R187: placing an answer puts it behind every answer and notice that waits, in the layout of R187
with the attention set as it stands; it releases the held place, counts the answer, and changes nothing else but
what the report queue's oldest does on reaching an output queue with room (ReportsMoved).

R179: attention classes set together. Every flag of theirs becomes set. Where none of them goes from clear to
set with its enable set, nothing else changes. Where one does, a notice with the whole new set and the ms counter
is queued behind every waiting report if the report queue, with a held place counted, has room for it, and is
counted as dropped otherwise. (The report queue holds reports alone, an invariant of every step.) -/
def Obligations.AnswersAndNoticesWaitInOrder : Prop :=
  (∀ (tag : Byte) (name : List Byte) (code : ResultCode) (data : List Byte) (c : Chip),
      5 + name.length + data.length ≤ 240 → SourcesOk c →
        let d := placeAnswer tag name ⟨code, data⟩ c
        let layout : List Byte := [tag, BitVec.ofNat 8 name.length] ++ name ++ [resultByte code]
          ++ be16 c.port.attention ++ (if code = .done ∨ code = .doneClamped then data else [])
        reportsWaiting d = reportsWaiting c ++ [⟨.report, .answer, 0, layout, 0⟩] ∧
          ReportsMoved { c with port := { c.port with held := false, answered := bump c.port.answered } } d) ∧
  (∀ (as : List AttClass) (c : Chip), SourcesOk c →
      let d := setAttention as c
      let raised : BitVec 16 := c.port.attention ||| attMask as
      let fresh : Prop := ∃ a ∈ as, attHas c.port.attention a = false ∧ attHas c.port.enables a = true
      let taken := c.port.report.length + (if c.port.held then 1 else 0)
      (∀ a, attHas d.port.attention a = true ↔ attHas c.port.attention a = true ∨ a ∈ as) ∧
        (¬fresh → d = { c with port := { c.port with attention := raised } }) ∧
        (fresh → taken < 16 →
          reportsWaiting d = reportsWaiting c ++ [⟨.report, .notice, 0, be16 raised ++ be32 c.time.ms, 0⟩] ∧
            ReportsMoved { c with port := { c.port with
              attention := raised, noticesQueued := bump c.port.noticesQueued } } d) ∧
        (fresh → 16 ≤ taken →
          d = { c with port := { c.port with
            attention := raised, noticesDropped := bump c.port.noticesDropped } }))

/-- R175: an addressed command that finds 16 entries in the report queue is discarded unexecuted: the
queue-full-discards counter rises and nothing else changes. -/
def Obligations.FullReportQueueDiscardsCommand : Prop :=
  ∀ (i : Instr) (s : State), isAddressed i = true → 16 ≤ s.chip.port.report.length →
    Ends i s { s.chip with port :=
      { s.chip.port with queueFullDiscards := bump s.chip.port.queueFullDiscards } }

/-- GO and STANDBY (R97, R178), SET_NOTICES and ACK_ATTENTION (R180). GO is taken in STANDBY alone. STANDBY is taken
in either mode where the link is DOWN and every context STOPPED, and leaves the mixer's inputs IDLE and empty with
no frame begun. The two attention commands are taken in either mode, and their reserved bit 15 is not read. -/
def Obligations.GoStandbyAndAttentionCommands : Prop :=
  ∀ (tag : Byte) (classes : BitVec 16) (s : State), HasRoom s →
    (s.chip.port.mode = .standby →
      Answers (.go tag) s tag .go .done [] (fun c => { c with port := { c.port with mode := .run } })) ∧
    (s.chip.port.mode = .run → Refuses (.go tag) s tag .go .refusedState) ∧
    (s.chip.link.state = .down → (∀ k : Ctx, s.chip.ctx[k].state = .stopped) →
      Answers (.standby tag) s tag .standby .done [] (fun c => { c with
        port := { c.port with mode := .standby },
        mixer := { c.mixer with
          inputs := mapAll (fun x => { x with buffer := [], active := false, underrunRun := 0 }) c.mixer.inputs,
          build := none, blockCounter := 0 } })) ∧
    (s.chip.link.state ≠ .down ∨ (∃ k : Ctx, s.chip.ctx[k].state ≠ .stopped) →
      Refuses (.standby tag) s tag .standby .refusedState) ∧
    Answers (.setNotices tag classes) s tag .setNotices .done []
      (fun c => { c with port := { c.port with enables := BitVec.ofNat 16 (classes.toNat % 32768) } }) ∧
    Answers (.ackAttention tag classes) s tag .ackAttention .done []
      (fun c => { c with port := { c.port with
        attention := c.port.attention &&& ~~~(BitVec.ofNat 16 (classes.toNat % 32768)) } })

/-! ## The van fabric -/

/-- R2, R184, R186: a cell with at most 240 payload bytes, written as R186 lays it out, is read back with every
field; and with any one bit of it inverted it cannot be read, so a receiver discards it.

R2: bytes that are too few for a cell, whose payload length field exceeds 240, whose number is not 16 plus that
length, or whose check differs, are discarded: the lane's check-error counter rises and nothing else changes. -/
def Obligations.CellsReadBackAndDamageIsCaught : Prop :=
  (∀ x : Cell, x.payload.length ≤ 240 →
      readCell (cellBytes x) = some x ∧
        ∀ n : Nat, n < (cellBytes x).length → ∀ b : Nat, b < 8 →
          readCell ((cellBytes x).set n ((cellBytes x).getD n 0 ^^^ (1#8 <<< b))) = none) ∧
  (∀ (n : LaneNo) (bytes : List Byte) (s : State),
      let length := (bytes.getD 5 0).toNat
      (bytes.length < 16 ∨ 240 < length ∨ bytes.length ≠ 16 + length ∨
        bytes.drop (12 + length) ≠ le32 (crc32 (bytes.take (12 + length)))) →
        Ends (.cellArrival n bytes) s { s.chip with
          lanes := modAt s.chip.lanes n (fun l => { l with checkErrors := bump l.checkErrors }) })

/-- R3, R4, R5: what a lane receiver does with a cell that passes the check. A kind code that is none of the eight
is malformed. A cell of kind ANSWER, NOTICE or TALLY is foreign on every stream. A CONTROL cell on stream 0 goes to
the control port and a REFERENCE cell on stream 1 to the timebase, and either on another stream is malformed. A
VIDEO, AUDIO or DATA cell goes to steering, and on stream 0 or 1 is malformed. A discarded cell is counted once and
changes nothing else; a cell passed on is counted as accepted. -/
def Obligations.LaneReceiverSortsCells : Prop :=
  ∀ (n : LaneNo) (bytes : List Byte) (x : Cell) (s : State), readCell bytes = some x →
    let malformed : Chip := { s.chip with
      lanes := modAt s.chip.lanes n (fun l => { l with malformed := bump l.malformed }) }
    let foreign : Chip := { s.chip with
      lanes := modAt s.chip.lanes n (fun l => { l with foreign := bump l.foreign }) }
    let accepted : Chip := { s.chip with
      lanes := modAt s.chip.lanes n (fun l => { l with accepted := bump l.accepted }) }
    (x.kind.toNat = 0 ∨ 9 ≤ x.kind.toNat → Ends (.cellArrival n bytes) s malformed) ∧
      (6 ≤ x.kind.toNat ∧ x.kind.toNat ≤ 8 → Ends (.cellArrival n bytes) s foreign) ∧
      (x.kind.toNat = 4 → x.stream.toNat = 0 →
        Ends (.cellArrival n bytes) s (controlCell x.unit x.payload accepted)) ∧
      (x.kind.toNat = 4 → x.stream.toNat ≠ 0 → Ends (.cellArrival n bytes) s malformed) ∧
      (x.kind.toNat = 5 → x.stream.toNat = 1 →
        Ends (.cellArrival n bytes) s (referenceCell x.payload accepted)) ∧
      (x.kind.toNat = 5 → x.stream.toNat ≠ 1 → Ends (.cellArrival n bytes) s malformed) ∧
      (1 ≤ x.kind.toNat ∧ x.kind.toNat ≤ 3 → x.stream.toNat ≤ 1 →
        Ends (.cellArrival n bytes) s malformed) ∧
      (∀ k : CellKind, (kindCode k).toNat ≤ 3 → x.kind = kindCode k → 2 ≤ x.stream.toNat →
        Ends (.cellArrival n bytes) s (steerCell n k x accepted))

/-- R187, R188: every well-formed command of the catalogue, written as a control payload, is read back as that
command, with the destination it was written for. -/
def Obligations.CommandsEncodeAndDecode : Prop :=
  ∀ (i : Instr) (payload : List Byte), i.wellFormed = true → encodeControl i = some payload →
    decodeControl (fun tag => if i.dest = .all then .all else .unit tag) payload = some i

/-- R175, R176, R187: a CONTROL cell on stream 0 that carries a command of the catalogue, addressed to this unit's
number or, for a global one, to ALL, does to the part what the command's own row does, with the cell counted as
accepted on its lane. -/
def Obligations.CommandCellRunsItsCommand : Prop :=
  ∀ (i : Instr) (payload : List Byte) (n : LaneNo) (x : Cell) (s : State), i.wellFormed = true →
    encodeControl i = some payload → payload.length ≤ 240 → x.payload = payload → x.kind = 4#4 → x.stream = 0#12 →
    x.unit = (if i.dest = .all then 15#4 else BitVec.ofNat 4 s.chip.unit.val) →
      exec (.cellArrival n (cellBytes x)) s = exec i { s with chip := { s.chip with
        lanes := modAt s.chip.lanes n (fun l => { l with accepted := bump l.accepted }) } }

/-- R175, R176: a control cell that is not a command for this part. A payload too short for a tag and a name is
malformed. One for another unit's number is counted and ignored, whatever it carries. One for this unit whose name
is not in the catalogue is refused REFUSED_UNKNOWN, and one whose parameters have another number or size than their
layout REFUSED_RANGE. One sent to ALL that is none of the four global commands in its own layout is ignored. -/
def Obligations.OtherControlCellsAreCountedOrRefused : Prop :=
  ∀ (unit : BitVec 4) (payload : List Byte) (c : Chip),
    (payload.length < 2 ∨ (payload.getD 1 0).toNat = 0 ∨ payload.length < 2 + (payload.getD 1 0).toNat →
      controlCell unit payload c = { c with port := { c.port with malformed := bump c.port.malformed } }) ∧
    (∀ (tag : Byte) (name params : List Byte), 1 ≤ name.length → name.length ≤ 255 →
      payload = [tag, BitVec.ofNat 8 name.length] ++ name ++ params →
      (unit.toNat ≠ c.unit.val → unit.toNat ≠ 15 →
        controlCell unit payload c = { c with port := { c.port with otherUnit := bump c.port.otherUnit } }) ∧
      (unit.toNat = c.unit.val → c.port.report.length < 16 → (∀ m : CommandName, nameBytes m ≠ name) →
        controlCell unit payload c = placeAnswer tag name ⟨.refusedUnknown, []⟩ (holdPlace c)) ∧
      (unit.toNat = c.unit.val → c.port.report.length < 16 →
        ∀ m : CommandName, nameBytes m = name → decodeParams m (.unit tag) tag params = none →
          controlCell unit payload c = placeAnswer tag name ⟨.refusedRange, []⟩ (holdPlace c)) ∧
      (unit.toNat = 15 →
        (∀ m : CommandName, nameBytes m = name →
          m ∉ [CommandName.preset, .take, .cutTo, .swapSteer] ∨ decodeParams m .all tag params = none) →
          controlCell unit payload c = { c with port := { c.port with allIgnored := bump c.port.allIgnored } }))

/-- R11: a send completion of FO. The sent counter of the cell's class rises; where the output queue has room, the
earliest held tally cell, or with none held the oldest answer or notice, joins it; and the oldest cell of the
highest-ranking class begins transmission with this unit's number, its source's sequence count and its check, and that
count rises by one (R1). With nothing queued FO is idle and no count changes. (The model's choices: the record of an AUX
bus's dropped cells stands as it is, log entry 32; with no cell in transmission nothing happens, log entry 5.) -/
def Obligations.SendCompletionRefillsAndChooses : Prop :=
  ∀ s : State,
    (s.chip.out.tx = none → Ends .foSendCompletion s s.chip) ∧
    (∀ t : TxCell, s.chip.out.tx = some t → ∃ d : Chip, Ends .foSendCompletion s d ∧
      d.out.auxSent = bumpIf (isAux t.cell.source) s.chip.out.auxSent ∧
      d.out.tallySent = bumpIf (isTally t.cell.source) s.chip.out.tallySent ∧
      d.out.reportsSent = bumpIf (isReport t.cell.source) s.chip.out.reportsSent ∧
      d.out.auxDrops = s.chip.out.auxDrops ∧ d.out.tallyReplaced = s.chip.out.tallyReplaced ∧
      d.out.droppedA = s.chip.out.droppedA ∧ d.out.droppedB = s.chip.out.droppedB ∧
      (let room : Bool := s.chip.out.queue.length < 32
       let fromHold : List OutCell := if room then (s.chip.out.hold.take 1).map (·.cell) else []
       let fromReport : List OutCell :=
         if room && s.chip.out.hold.isEmpty then s.chip.port.report.take 1 else []
       let q := s.chip.out.queue ++ fromHold ++ fromReport
       let rank (y : OutCell) : Nat := if isAux y.source then 0 else if isTally y.source then 1 else 2
       d.out.hold = s.chip.out.hold.drop fromHold.length ∧
         d = { s.chip with out := d.out, fo := d.fo,
                           port := { s.chip.port with report := s.chip.port.report.drop fromReport.length } } ∧
         (q = [] → d.out.tx = none ∧ d.out.queue = [] ∧ d.fo = s.chip.fo ∧
           ∀ z, seqOf d.out z = seqOf s.chip.out z) ∧
         (q ≠ [] → ∃ before x after, q = before ++ x :: after ∧ Begins x (before ++ after) s.chip d ∧
           (∀ y ∈ before, rank x < rank y) ∧ (∀ y ∈ after, rank x ≤ rank y))))

/-- R7: at power-on reset the unit number is that of the lowest-numbered strap tied high, 0 where none is. Every other
piece of the part has the value that the reset rules of the blocks give it (R12, R24, R40, R57, R77, R99, R111, R128,
R147, R157, R174, R183: State.reset holds them). The model's choices: the phase of the block tick is 0 (log entry 6), the
records of FO and HT are empty (log entry 7), the model's other fields are empty, clear or absent (log entry 29), and its
count of free choices runs on (log entry 1). -/
def Obligations.PowerOnFixesTheUnitNumber : Prop :=
  ∀ (straps : BitVec 4) (s : State), ∃ u : Fin 4,
    ((straps = 0 ∧ u = 0) ∨
      (straps.getLsbD u.val = true ∧ ∀ j : Fin 4, j.val < u.val → straps.getLsbD j.val = false)) ∧
      Ends (.powerOnReset straps) s { State.reset.chip with unit := u, choices := s.chip.choices }

/-- R182 and the reset rules of the blocks: RESET_UNIT puts the part in STANDBY with the link DOWN and every context
STOPPED; it empties the records, queues and lists and clears the attention set and the counters, and keeps the
timebase's time, the steering plan, the settings, the picture and frame numbers and the fenced clips; its answer
follows. R12, R111: the output lane is emptied, its counts and counters return to 0, and the OFF tally cells of the
contexts with a stream are then offered in the order C0 to C5: a cell under way is finished first, out of the emptied
queue, and with FO idle the first of them begins at once. (The model's choices: the cell under way takes no place of the
emptied queue, log entry 30; the tally-offered counter stands at 0 after it, log entry 23; the answer is placed after the
counters are cleared and is counted, log entry 35.) -/
def Obligations.ResetUnitKeepsSettings : Prop :=
  ∀ (tag : Byte) (s : State), HasRoom s →
    ∃ d : Chip, Ends (.resetUnit tag) s (placeAnswer tag (nameBytes .resetUnit) ⟨.done, []⟩ d) ∧
      (let emptied : Chip := { s.chip with out := OutputLane.powerOn }
       let off (k : Ctx) : OutCell := ⟨.tally k, .tally, s.chip.sel.tallyStream[k],
         [BitVec.ofNat 8 k.val, 2#8] ++ timecodeBytes s.chip.time.timecode, 0⟩
       let offs := (allCtx.filter (fun k => s.chip.sel.tallyStream[k] ≠ 0#12)).map off
       d.out = { OutputLane.powerOn with queue := d.out.queue, tx := d.out.tx, seqTally := d.out.seqTally } ∧
         (∀ t, s.chip.out.tx = some t →
           d.out = { OutputLane.powerOn with queue := offs, tx := some { t with inQueue := false } } ∧
             d.fo = s.chip.fo) ∧
         (s.chip.out.tx = none → offs = [] → d.out = OutputLane.powerOn ∧ d.fo = s.chip.fo) ∧
         (∀ x rest, s.chip.out.tx = none → offs = x :: rest → Begins x rest emptied d)) ∧
      d.unit = s.chip.unit ∧ d.ht = s.chip.ht ∧ d.choices = s.chip.choices ∧ d.port = { ControlPort.powerOn with
        held := true, enables := s.chip.port.enables } ∧
      d.time = { s.chip.time with refsTaken := 0, rateMismatches := 0, invalidRefs := 0, refLosses := 0,
                                  jumps := 0 } ∧
      d.lanes = Vector.replicate 8 ⟨0, 0, 0, 0⟩ ∧
      d.steer = { Steering.powerOn with
        bank0 := s.chip.steer.bank0, bank1 := s.chip.steer.bank1, activeBank := s.chip.steer.activeBank,
        default := s.chip.steer.default } ∧
      (∀ k : Ctx, d.ctx[k] = { Context.powerOn with nextNumber := s.chip.ctx[k].nextNumber } ∧
        d.rate[k] = { RateState.powerOn with
          settings := s.chip.rate[k].settings, shape := s.chip.rate[k].shape, curve := s.chip.rate[k].curve,
          q := s.chip.rate[k].shape.qStart }) ∧
      d.engine = Engine.powerOn ∧ d.budget = { Budget.powerOn with reserve := s.chip.budget.reserve } ∧
      (∀ i : InputNo, d.mixer.inputs[i] = { Input.powerOn with
        fader := { index := 0, target := 0, start := 0, step := s.chip.mixer.inputs[i].fader.step },
        sends := s.chip.mixer.inputs[i].sends, link := s.chip.mixer.inputs[i].link }) ∧
      (∀ b : BusNo, d.mixer.buses[b] = { s.chip.mixer.buses[b] with meter := 0, clips := 0 }) ∧
      d.mixer = { s.chip.mixer with
        inputs := d.mixer.inputs, buses := d.mixer.buses, build := none, blockCounter := 0, framesFormed := 0,
        framesDiscarded := 0, inputsLost := 0 } ∧
      d.sel = { Selector.powerOn with tallyStream := s.chip.sel.tallyStream } ∧
      d.link = { Link.powerOn with settings := s.chip.link.settings } ∧
      d.sched = { Scheduler.powerOn with nextFrame := s.chip.sched.nextFrame } ∧
      d.acct = { Accounting.powerOn with lowWater := d.acct.lowWater } ∧
      (∀ k : Ctx, d.acct.lowWater[k] = s.chip.ctx[k].nextNumber) ∧
      d.clips = { ClipLog.powerOn with
        table := d.clips.table, write := s.chip.clips.fence, fence := s.chip.clips.fence,
        nextId := s.chip.clips.nextId, autoSend := s.chip.clips.autoSend, autoClip := s.chip.clips.autoClip } ∧
      (∀ i : Fin 128, d.clips.table[i] = if i.val < s.chip.clips.fence then s.chip.clips.table[i] else none)

/-! ## Steering -/

namespace Sys2Proof.Claims

open Sys2Proof.Machine

/-- R26 to R28: an entry decides a cell of a kind and stream with an action code: the kind set holds the kind, and
by the match type the stream lies in the range, is one of the pair, or agrees with the value in the mask's bits. -/
def Decides (e : SteerEntry) (k : CellKind) (s : Stream) (code : Nat) : Prop :=
  ((k = .video ∧ e.kinds.getLsbD 0 = true) ∨ (k = .audio ∧ e.kinds.getLsbD 1 = true) ∨
      (k = .data ∧ e.kinds.getLsbD 2 = true)) ∧
    ((e.matchType.toNat = 0 ∧ e.first.toNat ≤ s.toNat ∧ s.toNat ≤ e.second.toNat) ∨
      (e.matchType.toNat = 1 ∧ (s.toNat = e.first.toNat ∨ s.toNat = e.second.toNat)) ∨
      (e.matchType.toNat = 2 ∧ s.toNat &&& e.second.toNat = e.first.toNat &&& e.second.toNat)) ∧
    e.action.toNat = code

/-- R188: the codes that name an action: 0 DISCARD, 1 to 6 CODE 0 to CODE 5, 16 to 31 MIX 0 to MIX 15, 48 PASS. -/
def namesAction (code : Nat) : Prop := code = 0 ∨ (1 ≤ code ∧ code ≤ 6) ∨ (16 ≤ code ∧ code ≤ 31) ∨ code = 48

/-- R25: the bank the active-bank pointer names. -/
def activeOf (t : Steering) : Vector SteerEntry 64 := if t.activeBank = 0 then t.bank0 else t.bank1

/-- The part with a cell in the pass queue, a full queue having dropped its oldest (R29, R139). -/
def passed (x : Cell) (c : Chip) : Chip :=
  { c with sched := { c.sched with
      passQueue := (if c.sched.passQueue.length < 32 then c.sched.passQueue else c.sched.passQueue.drop 1)
        ++ [⟨x.stream, x.payload⟩],
      passDrops := bumpIf (32 ≤ c.sched.passQueue.length) c.sched.passDrops } }

/-- R78: an input after an AUDIO cell. -/
def inputAfterCell (x : Input) (payload : List Byte) : Input :=
  if payload.length = 144 then
    { x with
        active := true, underrunRun := if x.active then x.underrunRun else 0,
        buffer := (if x.buffer.length < 4 then x.buffer else x.buffer.drop 1) ++ [readSamples payload],
        overruns := bumpIf (4 ≤ x.buffer.length) x.overruns }
  else { x with lengthErrors := bump x.lengthErrors }

/-- The part with the decisions counter raised (R29). -/
def decided (c : Chip) : Chip := { c with steer := { c.steer with decisions := bump c.steer.decisions } }

/-- The part with the kind-mismatch counter raised (R30). -/
def mismatched (c : Chip) : Chip :=
  { c with steer := { c.steer with kindMismatch := bump c.steer.kindMismatch } }

/-- The part with the discards counter raised (R29, R31). -/
def discarded (c : Chip) : Chip := { c with steer := { c.steer with discards := bump c.steer.discards } }

/-- R29, R30: the part after an action code is carried out on a cell. -/
def afterAction (code : Nat) (n : LaneNo) (k : CellKind) (x : Cell) (c : Chip) : Chip :=
  if h : 1 ≤ code ∧ code ≤ 6 then
    if k = .video then gatherCell ⟨code - 1, by omega⟩ n x (decided c) else mismatched c
  else if h : 16 ≤ code ∧ code ≤ 31 then
    if k = .audio then
      { decided c with mixer := { c.mixer with
          inputs := modAt c.mixer.inputs ⟨code - 16, by omega⟩ (fun i => inputAfterCell i x.payload) } }
    else mismatched c
  else if code = 48 then passed x (decided c)
  else discarded (decided c)

end Sys2Proof.Claims

/-- R26 to R33: a VIDEO, AUDIO or DATA cell on a stream from 2 up. In STANDBY it is discarded and only the lane
counts it. In RUN the first entry of the active bank, in index order, that decides it has its action carried out,
and with the note flag set is recorded as the last note, with STEER_NOTE set; where no entry decides, the no-match
counter rises and the default action is taken. (The operands of both banks lie in 0 to 4095: BanksOk is an
invariant of every step. The note is recorded after the action is carried out: log entry 13, the model's choice.) -/
def Obligations.SteeringDecidesByFirstEntry : Prop :=
  ∀ (n : LaneNo) (bytes : List Byte) (x : Cell) (k : CellKind) (s : State),
    readCell bytes = some x → x.kind = kindCode k → k ∈ [CellKind.video, .audio, .data] → 2 ≤ x.stream.toNat →
    BanksOk s.chip →
    let accepted : Chip := { s.chip with
      lanes := modAt s.chip.lanes n (fun l => { l with accepted := bump l.accepted }) }
    (s.chip.port.mode = .standby → Ends (.cellArrival n bytes) s accepted) ∧
    (s.chip.port.mode = .run → ∀ (i : Fin 64) (code : Nat), namesAction code →
      Decides (activeOf s.chip.steer)[i] k x.stream code →
      (∀ j : Fin 64, j.val < i.val → ∀ m, namesAction m → ¬Decides (activeOf s.chip.steer)[j] k x.stream m) →
      let d := afterAction code n k x accepted
      ((activeOf s.chip.steer)[i].kinds.getLsbD 7 = false → Ends (.cellArrival n bytes) s d) ∧
      ((activeOf s.chip.steer)[i].kinds.getLsbD 7 = true → Ends (.cellArrival n bytes) s
        (setAttention [.steerNote] { d with steer := { d.steer with
          lastNote := some ⟨i, x.stream, n, s.chip.time.timecode⟩, notes := bump d.steer.notes } }))) ∧
    (s.chip.port.mode = .run →
      (∀ j : Fin 64, ∀ m, namesAction m → ¬Decides (activeOf s.chip.steer)[j] k x.stream m) →
      let d : Chip := { accepted with
        steer := { accepted.steer with noMatch := bump accepted.steer.noMatch } }
      (s.chip.steer.default = .discard → Ends (.cellArrival n bytes) s (discarded d)) ∧
      (s.chip.steer.default = .pass → Ends (.cellArrival n bytes) s (passed x d)))

/-- R34, R35: LOAD_STEER and READ_STEER, in either mode. A count of 0 or above 8, a range past entry 63, or entries
that are not exactly count, are refused. LOAD_STEER writes to the shadow, at the indices named and no other, with
an operand above 4095 stored as 4095 and DONE_CLAMPED answered for it, and a kind set's reserved bits not read;
every other code is stored as given. READ_STEER answers the bank's number, the pending-swap flag and the entries,
and changes nothing. (The reserved bits are stored as 0: log entry 26; the flag is one byte, 1 or 0: log entry 33; both
the model's choice.)

R31: STEER_DEFAULT sets the default action, 0 DISCARD or 1 PASS, and refuses any other parameter. -/
def Obligations.SteeringPlanIsLoadedReadAndDefaulted : Prop :=
  (∀ (tag first count bank : Byte) (entries : List SteerEntry) (s : State), HasRoom s →
      let inRange : Prop := 1 ≤ count.toNat ∧ count.toNat ≤ 8 ∧ first.toNat + count.toNat ≤ 64
      let active := s.chip.steer.activeBank
      (¬inRange ∨ entries.length ≠ count.toNat →
        Refuses (.loadSteer tag first count entries) s tag .loadSteer .refusedRange) ∧
      (inRange → entries.length = count.toNat →
        ∃ v : Vector SteerEntry 64,
          Answers (.loadSteer tag first count entries) s tag .loadSteer
            (doneIf (entries.any (fun e => 4095 < e.first.toNat || 4095 < e.second.toNat))) []
            (fun c => { c with steer := if active = 0 then { c.steer with bank1 := v } else { c.steer with bank0 := v } }) ∧
          ∀ i : Fin 64,
            v[i] = if i.val < first.toNat ∨ first.toNat + count.toNat ≤ i.val then
                (if active = 0 then s.chip.steer.bank1 else s.chip.steer.bank0)[i]
              else
                let e := entries.getD (i.val - first.toNat) ⟨0, 0, 0, 0, 0⟩
                { e with
                    first := BitVec.ofNat 16 (min 4095 e.first.toNat),
                    second := BitVec.ofNat 16 (min 4095 e.second.toNat), kinds := e.kinds &&& 0x87#8 }) ∧
      (¬inRange ∨ 2 ≤ bank.toNat → Refuses (.readSteer tag bank first count) s tag .readSteer .refusedRange) ∧
      (inRange → bank.toNat < 2 →
        let number := if bank.toNat = 0 then active else active + 1
        let entry (j : Nat) : SteerEntry :=
          ((if number = 0 then s.chip.steer.bank0 else s.chip.steer.bank1)[first.toNat + j]?).getD ⟨3, 0, 0, 0, 0⟩
        Answers (.readSteer tag bank first count) s tag .readSteer .done
          ([BitVec.ofNat 8 number.val, if s.chip.steer.pendingSwap then 1#8 else 0#8]
            ++ (List.range count.toNat).flatMap (fun j =>
              [(entry j).matchType] ++ be16 (entry j).first ++ be16 (entry j).second
                ++ [(entry j).kinds, (entry j).action])) id)) ∧
  (∀ (tag action : Byte) (s : State), HasRoom s →
      (action.toNat = 0 → Answers (.steerDefault tag action) s tag .steerDefault .done []
        (fun c => { c with steer := { c.steer with default := .discard } })) ∧
      (action.toNat = 1 → Answers (.steerDefault tag action) s tag .steerDefault .done []
        (fun c => { c with steer := { c.steer with default := .pass } })) ∧
      (2 ≤ action.toNat → Refuses (.steerDefault tag action) s tag .steerDefault .refusedRange))

/-- R36: SWAP_STEER sets the pending-swap flag in either mode, and leaves it set where it is set: answered DONE
when sent to this unit's own number, and taken, counted and not answered when sent to ALL. -/
def Obligations.SwapSteerSetsPendingSwap : Prop :=
  ∀ (tag : Byte) (s : State),
    (HasRoom s → Answers (.swapSteer (.unit tag)) s tag .swapSteer .done []
      (fun c => { c with steer := { c.steer with pendingSwap := true } })) ∧
    Ends (.swapSteer .all) s { s.chip with
      steer := { s.chip.steer with pendingSwap := true },
      port := { s.chip.port with globalsTaken := bump s.chip.port.globalsTaken } }

/-! ## Timebase -/

namespace Sys2Proof.Claims

open Sys2Proof.Machine

/-- The place of a timecode in its day, in pictures. -/
def dayPicture (r : Rate) (t : Timecode) : Nat :=
  ((t.hours * 60 + t.minutes) * 60 + t.seconds) * rateHz r + t.picture

/-- R13: a timecode in range at a rate. -/
def InRange (r : Rate) (t : Timecode) : Prop :=
  t.hours < 24 ∧ t.minutes < 60 ∧ t.seconds < 60 ∧ t.picture < rateHz r

/-- R15: the timebase in a state at a timecode, its timer restarted at that state's length in samples: one and a
half periods in LOCKED, one in FREE_RUN. -/
def restarted (st : TimebaseState) (tc : Timecode) (t : Timebase) : Timebase :=
  { t with
      state := st, timecode := tc, elapsed := 0,
      length := (match st with
        | .locked => 72000 / rateHz t.rate
        | .freeRun => 48000 / rateHz t.rate) }

/-- R15: the samples up to and including that at which the expected-boundary timer expires. -/
def samplesToExpiry (t : Timebase) : Nat := max 1 (t.length - t.elapsed)

/-- R22: the samples up to and including that of the next block tick. -/
def samplesToTick (t : Timebase) : Nat := 48 - t.subTick % 48

/-- R17, R18: what the expiry of the expected-boundary timer leaves in the timebase: FREE_RUN with the timecode counted
forward and the timer started at one period; from LOCKED one reference loss more. -/
def expired (t : Timebase) : Timebase :=
  restarted .freeRun (countForward t.rate t.timecode) { t with
    refLosses := bumpIf (decide (t.state = .locked)) t.refLosses }

end Sys2Proof.Claims

/-- R13, R16, R19: a REFERENCE cell on stream 1. A payload of a length other than 5 is invalid; a rate code other
than the configured rate's (1 for 25, 2 for 30, 3 for 50, 4 for 60) is a mismatch; a timecode out of range is
invalid; each is counted and changes nothing else. A valid reference is counted. In LOCKED it makes a boundary with
the carried timecode, and a timecode that is not the next one counts as a jump. In FREE_RUN it locks the timebase
at the carried timecode: without a boundary less than half a period after the last, and otherwise with one. -/
def Obligations.ReferenceCellIsJudgedAndTaken : Prop :=
  ∀ (n : LaneNo) (bytes : List Byte) (x : Cell) (s : State),
    readCell bytes = some x → x.kind = 5#4 → x.stream = 1#12 →
    let c : Chip := { s.chip with lanes := modAt s.chip.lanes n (fun l => { l with accepted := bump l.accepted }) }
    let t := s.chip.time
    (x.payload.length ≠ 5 →
      Ends (.cellArrival n bytes) s { c with time := { t with invalidRefs := bump t.invalidRefs } }) ∧
    (∀ h m sec p code : Byte, x.payload = [h, m, sec, p, code] →
      let carried : Timecode := ⟨h.toNat, m.toNat, sec.toNat, p.toNat⟩
      let configured : Nat := match t.rate with
        | .r25 => 1
        | .r30 => 2
        | .r50 => 3
        | .r60 => 4
      let taken : Timebase := { t with refsTaken := bump t.refsTaken }
      (code.toNat ≠ configured →
        Ends (.cellArrival n bytes) s { c with time := { t with rateMismatches := bump t.rateMismatches } }) ∧
      (code.toNat = configured → ¬InRange t.rate carried →
        Ends (.cellArrival n bytes) s { c with time := { t with invalidRefs := bump t.invalidRefs } }) ∧
      (code.toNat = configured → InRange t.rate carried → t.state = .locked →
        Ends (.cellArrival n bytes) s (boundaryWork { c with
          time := restarted .locked carried { taken with
            jumps := bumpIf (decide (carried ≠ countForward t.rate t.timecode)) t.jumps } })) ∧
      (code.toNat = configured → InRange t.rate carried → t.state = .freeRun →
        2 * t.elapsed < 48000 / rateHz t.rate →
          Ends (.cellArrival n bytes) s { c with time := restarted .locked carried taken }) ∧
      (code.toNat = configured → InRange t.rate carried → t.state = .freeRun →
        48000 / rateHz t.rate ≤ 2 * t.elapsed →
          Ends (.cellArrival n bytes) s (boundaryWork { c with time := restarted .locked carried taken })))

/-- R20: counting forward one picture from a timecode in range gives one in range, the next of the day: the picture
field rises and carries at the rate into the seconds, these at 60 into the minutes, these at 60 into the hours, and
the last picture of the day is followed by 00:00:00:00.

R17, R18: the expiry of the expected-boundary timer. REFERENCE_LOSS in LOCKED and FREE_RUN_BOUNDARY in FREE_RUN
make a boundary with the timecode counted forward and restart the timer at one period in FREE_RUN; the first also
counts a reference loss and sets REF_LOST. With no block tick on the way that is all they do; otherwise the ticks on the
way are taken as well, each raising the ms counter by one. (The model's choices: the row stands for the samples left on
the timer, and with no other command waiting it is that many steps of the clock, log entry 6; in the other state there
is no such expiry and nothing happens, log entry 5.) -/
def Obligations.TimerExpiryCountsTheTimecodeForward : Prop :=
  (∀ (r : Rate) (t : Timecode), InRange r t →
      InRange r (countForward r t) ∧
        dayPicture r (countForward r t) = (dayPicture r t + 1) % (24 * 60 * 60 * rateHz r)) ∧
  (∀ s : State,
      let t := s.chip.time
      let left := samplesToExpiry t
      let passed : Timebase := { t with subTick := (t.subTick + left) % 48 }
      let d := boundaryWork { s.chip with time := restarted .freeRun (countForward t.rate t.timecode) passed }
      let row : Instr := match t.state with
        | .locked => .referenceLoss
        | .freeRun => .freeRunBoundary
      (∃ e : Chip, Ends row s e ∧
        e.time = { expired passed with ms := t.ms + BitVec.ofNat 32 ((t.subTick % 48 + left) / 48) } ∧
        (t.state = .locked → attHas e.port.attention .refLost = true)) ∧
      (t.state = .locked → t.subTick + left < 48 → Ends .referenceLoss s
        (setAttention [.refLost] { d with time := { d.time with refLosses := bump d.time.refLosses } })) ∧
      (t.state = .freeRun → t.subTick + left < 48 → Ends .freeRunBoundary s d) ∧
      (s.pending = [] → exec row s = Sys2Proof.core.run left s) ∧
      (t.state = .freeRun → Ends .referenceLoss s s.chip) ∧
      (t.state = .locked → Ends .freeRunBoundary s s.chip))

/-- R21: SET_RATE is taken in STANDBY alone. A rate other than 25, 30, 50 and 60 is refused. The configured rate
itself changes nothing. Another sets the rate, enters FREE_RUN, keeps the hours, minutes and seconds with the
picture field 0, and restarts the timer at one period of the new rate, with no boundary and no count. -/
def Obligations.SetRateRestartsTheTimebase : Prop :=
  ∀ (tag rate : Byte) (s : State), HasRoom s →
    (s.chip.port.mode = .run → Refuses (.setRate tag rate) s tag .setRate .refusedState) ∧
    (s.chip.port.mode = .standby → (∀ r : Rate, rateHz r ≠ rate.toNat) →
      Refuses (.setRate tag rate) s tag .setRate .refusedRange) ∧
    (s.chip.port.mode = .standby → rate.toNat = rateHz s.chip.time.rate →
      Answers (.setRate tag rate) s tag .setRate .done [] id) ∧
    (s.chip.port.mode = .standby → ∀ r : Rate, rateHz r = rate.toNat → r ≠ s.chip.time.rate →
      Answers (.setRate tag rate) s tag .setRate .done [] (fun c => { c with
        time := restarted .freeRun { c.time.timecode with picture := 0 } { c.time with rate := r } }))

/-- R22, R97: a block tick. The ms counter rises by one, wrapping. In STANDBY the mixer does nothing. Whatever order the
mixer, the scheduler and the link controller take the tick in, each takes it once and whole (O34, O60 and O38 say what
each does), and it changes nothing of the unit number, the lanes' counters, steering, the gatherers' records and numbers,
the engine, the budget divider or the programme selection.

The model's choices (log entries 1, 2 and 6): that order is free, and so is that of the silence timer and the drain limit
at one tick; and the row stands for the samples up to the tick, which
the expected-boundary timer counts as well, so that an expiry that falls among them is taken too (R15, R17, R18). With
no other command waiting it is that many steps of the clock. -/
def Obligations.BlockTickCountsTheMillisecond : Prop :=
  ∀ s : State,
    let t := s.chip.time
    let n := samplesToTick t
    (∃ d : Chip, Ends .blockTick s d ∧ d.unit = s.chip.unit ∧ d.lanes = s.chip.lanes ∧
      (t.elapsed + n < t.length →
        d.time = { t with ms := t.ms + 1, subTick := 0, elapsed := t.elapsed + n } ∧
        (∃ (silenceFirst : Bool) (order : List (Chip → Chip)),
          order.Perm [mixerTick, schedulerTick, linkTick silenceFirst] ∧
            d = order.foldl (fun c part => part c) { s.chip with time := d.time, choices := s.chip.choices + 1 }) ∧
        d.steer = s.chip.steer ∧ d.engine = s.chip.engine ∧ d.budget = s.chip.budget ∧ d.sel = s.chip.sel ∧
        (∀ k : Ctx, d.ctx[k].gathering = s.chip.ctx[k].gathering ∧ d.ctx[k].ready = s.chip.ctx[k].ready ∧
          d.ctx[k].nextNumber = s.chip.ctx[k].nextNumber) ∧
        (s.chip.port.mode = .standby → d.mixer = s.chip.mixer)) ∧
      (t.length ≤ t.elapsed + n →
        d.time = { expired t with ms := t.ms + 1, subTick := 0, elapsed := n - samplesToExpiry t } ∧
        (t.state = .locked → attHas d.port.attention .refLost = true))) ∧
    (s.pending = [] → exec .blockTick s = Sys2Proof.core.run n s)

/-! ## Picture gatherers, engine and contexts -/

namespace Sys2Proof.Claims

open Sys2Proof.Machine

/-- R50, R51: a context's record completes: it leaves the gathering slot and becomes the ready record, an older one is
shed OVERRUN, and an idle engine is granted at once (what a grant does is O23). -/
def becomesReady (k : Ctx) (p : Picture) (m : List Byte) (c : Chip) : Chip :=
  let ready := modCtx k (fun y => { y with
    gathering := none, ready := some ⟨p, m⟩, completed := bump y.completed }) c
  arbitrate (match c.ctx[k].ready with
    | none => ready
    | some r => resolve r.picture none 0 (.shed .overrun)
        (modCtx k (fun y => { y with overruns := bump y.overruns }) ready))

/-- R47, R48, R50: a gathering record that is ended without its end slice: marked DAMAGED, once, it completes. -/
def endedDamaged (k : Ctx) (g : Gathering) (c : Chip) : Chip :=
  becomesReady k { g.picture with damaged := true } g.memory (modCtx k (fun y => { y with
    damagedPictures := bumpIf (!g.picture.damaged) y.damagedPictures }) c)

end Sys2Proof.Claims

/-- R41, R46 to R50: a VIDEO cell at a context's gatherer. A context that is not RUNNING counts it and takes
nothing. Without a gathering record, a cell with no start flag is an orphan. A start cell first ends a gathering record
DAMAGED; it then opens a record under the next picture number, which a cell with the end flag completes at once. A slice
without a start flag joins the gathering record, which is marked DAMAGED, once, where the slice does not follow on by
lane, stream and sequence; an end slice completes the record, and a slice that 4,194,304 bytes of picture memory cannot
hold is counted and ends the record DAMAGED. A picture in one slice that finds the engine idle, and no other record, is
granted in full as the last clause says. -/
def Obligations.GathererTakesVideoCells : Prop :=
  ∀ (k : Ctx) (n : LaneNo) (x : Cell) (c : Chip),
    let old := c.ctx[k]
    let opened : Gathering :=
      { picture := { ctx := k, number := old.nextNumber, timecode := c.time.timecode, startMs := c.time.ms,
                     marker := c.rate[k].settings.marker, damaged := false },
        lane := n, stream := x.stream, expected := x.sequence + 1, fed := true, memory := x.payload }
    (old.state ≠ .running →
      gatherCell k n x c = modCtx k (fun y => { y with notRunning := bump y.notRunning }) c) ∧
    (old.state = .running → x.start = false → old.gathering = none →
      gatherCell k n x c = modCtx k (fun y => { y with orphans := bump y.orphans }) c) ∧
    (old.state = .running → x.start = true →
      let freed : Chip := match old.gathering with
        | none => c
        | some g => endedDamaged k g c
      let begun := modCtx k (fun y => { y with
        gathering := some opened, nextNumber := y.nextNumber + 1, slices := bump y.slices }) freed
      freed.ctx[k].nextNumber = old.nextNumber ∧
        (x.stop = false → gatherCell k n x c = begun) ∧
        (x.stop = true → gatherCell k n x c = becomesReady k opened.picture x.payload begun)) ∧
    (∀ g : Gathering, old.state = .running → x.start = false → old.gathering = some g →
      let follows : Bool := decide (g.lane = n ∧ g.stream = x.stream ∧ g.expected = x.sequence)
      let fits : Prop := g.memory.length + x.payload.length ≤ 4194304
      let joined : Gathering := { g with
        picture := { g.picture with damaged := g.picture.damaged || !follows }, expected := x.sequence + 1,
        fed := true, memory := g.memory ++ x.payload }
      let counted := modCtx k (fun y => { y with
        slices := bump y.slices, damagedPictures := bumpIf (!follows && !g.picture.damaged) y.damagedPictures }) c
      (fits → x.stop = false →
        gatherCell k n x c = modCtx k (fun y => { y with gathering := some joined }) counted) ∧
      (fits → x.stop = true → gatherCell k n x c = becomesReady k joined.picture joined.memory counted) ∧
      (¬fits → gatherCell k n x c = endedDamaged k g (modCtx k (fun y => { y with slices := bump y.slices }) c))) ∧
    (old.state = .running → x.start = true → old.gathering = none → x.stop = true → c.engine.op = none →
      (∀ j : Ctx, c.ctx[j].ready = none) →
        let onAir : Bool := decide (c.sel.programme = some k)
        gatherCell k n x c = { c with
          ctx := modAt c.ctx k (fun y => { y with
            nextNumber := y.nextNumber + 1, slices := bump y.slices, completed := bump y.completed }),
          engine := { c.engine with
            op := some ⟨opened.picture, x.payload, c.rate[k].q, onAir⟩, grants := bump c.engine.grants,
            programmeGrants := bumpIf onAir c.engine.programmeGrants,
            pointer := if onAir then c.engine.pointer else k } })

/-- R51, R52: the engine's grant. An engine in operation is not granted, and an idle one only where a record is
ready. The programme context is granted first, with the rotation pointer left where it stands; otherwise the first
ready context after the pointer, which is set to it. The grant samples q and the programme flag. -/
def Obligations.ArbiterGrantsProgrammeThenRotation : Prop :=
  ∀ c : Chip,
    (c.engine.op.isSome = true ∨ (∀ k : Ctx, c.ctx[k].ready = none) → arbitrate c = c) ∧
    (∀ (k : Ctx) (r : Ready), c.engine.op = none → c.ctx[k].ready = some r →
      let onAir : Bool := decide (c.sel.programme = some k)
      (onAir = true ∨ ((∀ p, c.sel.programme = some p → c.ctx[p].ready = none) ∧
        ∀ j : Ctx, c.ctx[j].ready.isSome = true →
          (k - c.engine.pointer - 1).val ≤ (j - c.engine.pointer - 1).val)) →
        arbitrate c = { c with
          ctx := modAt c.ctx k (fun y => { y with ready := none }),
          engine := { c.engine with
            op := some ⟨r.picture, r.memory, c.rate[k].q, onAir⟩, grants := bump c.engine.grants,
            programmeGrants := bumpIf onAir c.engine.programmeGrants,
            pointer := if onAir then c.engine.pointer else k } })

/-- R42: START_CONTEXT. It is refused in STANDBY, for a context number above 5, and for a context that is STARTING
or RUNNING. A STOPPED context becomes STARTING. A DRAINING context becomes RUNNING at once, its target, reservoir,
fill and quantiser index and its video queue as they stand. -/
def Obligations.StartContextStartsOrResumes : Prop :=
  ∀ (tag ctx : Byte) (s : State), HasRoom s →
    (s.chip.port.mode = .standby → Refuses (.startContext tag ctx) s tag .startContext .refusedState) ∧
    (s.chip.port.mode = .run → 5 < ctx.toNat →
      Refuses (.startContext tag ctx) s tag .startContext .refusedRange) ∧
    (s.chip.port.mode = .run → ∀ k : Ctx, k.val = ctx.toNat →
      (s.chip.ctx[k].state = .stopped → Answers (.startContext tag ctx) s tag .startContext .done []
        (fun c => { c with ctx := modAt c.ctx k (fun y => { y with state := .starting }) })) ∧
      (s.chip.ctx[k].state = .draining → Answers (.startContext tag ctx) s tag .startContext .done []
        (fun c => { c with ctx := modAt c.ctx k (fun y => { y with state := .running }) })) ∧
      (s.chip.ctx[k].state = .starting ∨ s.chip.ctx[k].state = .running →
        Refuses (.startContext tag ctx) s tag .startContext .refusedState))

namespace Sys2Proof.Claims

open Sys2Proof.Machine

/-- R108, R186: a set of tally cells for a selection: one for each context with a stream, in the order C0 to C5, with
ON_AIR 0, PRESET 1 or OFF 2 and the timecode. -/
def tallySet (l : Selector) (t : Timecode) : List OutCell :=
  (allCtx.filter (fun k => l.tallyStream[k] ≠ 0#12)).map (fun k => ⟨.tally k, .tally, l.tallyStream[k],
    [BitVec.ofNat 8 k.val, if l.programme = some k then 0 else if l.preset = some k then 1 else 2] ++ timecodeBytes t, 0⟩)

/-- R108: where a set of tally cells is offered, its cells are counted, and, with room on the output lane for it and for
the notices before it (20 of the 32 places at most are taken), they wait behind the tally cells that wait (what becomes
of a cell offered to a full queue is O36). Where none is offered, nothing is counted, and queue and hold have the tally
cells they had. -/
def TallyOffered (offered : Bool) (c d : Chip) : Prop :=
  let cells := tallySet d.sel c.time.timecode
  (offered = true → d.sel.tallyOffered = bumpBy cells.length c.sel.tallyOffered ∧
      (outCount c.out ≤ 20 → queuedOf isTally d.out = queuedOf isTally c.out ++ cells)) ∧
    (offered = false → d.sel.tallyOffered = c.sel.tallyOffered ∧ queuedOf isTally d.out = queuedOf isTally c.out ∧
      d.out.hold = c.out.hold)

/-- R91: the mixer's inputs after the hand-over of a programme: each linked input's fader takes the target its link
gives, and starts its ramp at its index. -/
def handed (programme : Option Ctx) (m : Mixer) : Mixer :=
  { m with inputs := mapAll (fun x => match x.link with
    | some l => { x with fader := { x.fader with
        target := if programme = some l.ctx then l.onIndex else l.offIndex, start := x.fader.index } }
    | none => x) m.inputs }

end Sys2Proof.Claims

/-- R44, R45, R106, R107: STOP_CONTEXT. It is refused in STANDBY, for a context number above 5, and for a context
that is STOPPED or DRAINING. Otherwise the context's operation in the engine, its ready record and its gathering
record are shed, and it becomes DRAINING where it is RUNNING with a record in its video queue, and STOPPED with T,
R and F 0 and q at q_start where it has none. It leaves the programme and the preset, a pending SWAP losing its
preset. A stop of the programme context is counted, sets TAKE_DEGRADED and gives every linked input its off-index; a stop
of the programme or the preset context offers one set of tally cells. The other contexts' states, gathering records and
rate states, every video queue, and the link, time, steering and budget are as they were.

R51, R53: an operation of the context is abandoned, which empties the engine and is counted; an operation of another
context goes on. Then the engine is granted again: e is the part the grant finds, with the stopped context's records gone
and every other context's as they were (what a grant does is O23). (Of a ready or gathering record so shed the gatherer
counts nothing: log entry 37, the model's choice.) -/
def Obligations.StopContextStopsOrDrains : Prop :=
  ∀ (tag ctx : Byte) (s : State), HasRoom s → PicturesOk s.chip →
    (s.chip.port.mode = .standby → Refuses (.stopContext tag ctx) s tag .stopContext .refusedState) ∧
    (s.chip.port.mode = .run → 5 < ctx.toNat → Refuses (.stopContext tag ctx) s tag .stopContext .refusedRange) ∧
    (s.chip.port.mode = .run → ∀ k : Ctx, k.val = ctx.toNat →
      (s.chip.ctx[k].state = .stopped ∨ s.chip.ctx[k].state = .draining →
        Refuses (.stopContext tag ctx) s tag .stopContext .refusedState) ∧
      (s.chip.ctx[k].state = .starting ∨ s.chip.ctx[k].state = .running →
        ∃ d : Chip,
          Ends (.stopContext tag ctx) s (placeAnswer tag (nameBytes .stopContext) ⟨.done, []⟩ d) ∧
          (let shed : Nat := (if s.chip.engine.op.any (fun o => o.picture.ctx == k) then 1 else 0)
              + (if s.chip.ctx[k].ready.isSome then 1 else 0) + (if s.chip.ctx[k].gathering.isSome then 1 else 0)
           d.acct.outcomes[k].shed = bumpBy shed s.chip.acct.outcomes[k].shed ∧
             (0 < shed → attHas d.port.attention .pictureShed = true)) ∧
          d.ctx[k].gathering = none ∧ d.ctx[k].ready = none ∧
          d.ctx[k].nextNumber = s.chip.ctx[k].nextNumber ∧
          (∀ o, d.engine.op = some o → o.picture.ctx ≠ k) ∧
          (let own : Bool := s.chip.engine.op.any (fun o => o.picture.ctx == k)
           ∃ e : Chip, d = arbitrate e ∧
             e.engine = { s.chip.engine with
               op := if own then none else s.chip.engine.op, abandoned := bumpIf own s.chip.engine.abandoned } ∧
             e.ctx[k] = { s.chip.ctx[k] with state := d.ctx[k].state, gathering := none, ready := none } ∧
             (∀ j : Ctx, j ≠ k → e.ctx[j] = s.chip.ctx[j]) ∧ e.rate = d.rate ∧ e.sel = d.sel) ∧
          (s.chip.sched.videoQueue[k] ≠ [] →
            d.ctx[k].state = .draining ∧ d.rate[k] = s.chip.rate[k]) ∧
          (s.chip.sched.videoQueue[k] = [] → d.ctx[k].state = .stopped ∧
            d.rate[k] = { s.chip.rate[k] with
              target := 0, size := 0, fill := 0, q := s.chip.rate[k].shape.qStart }) ∧
          (let onAir : Bool := decide (s.chip.sel.programme = some k)
           let armed : Bool := decide (s.chip.sel.preset = some k)
           d.sel = { s.chip.sel with
               programme := if onAir then none else s.chip.sel.programme,
               preset := if armed then none else s.chip.sel.preset,
               pendingOp := (match s.chip.sel.pendingOp with
                 | .swap lost => .swap (lost || armed)
                 | .cut t => .cut t
                 | .none => .none),
               programmeStops := bumpIf onAir s.chip.sel.programmeStops, tallyOffered := d.sel.tallyOffered } ∧
             (onAir = true → attHas d.port.attention .takeDegraded = true) ∧
             d.mixer = (if onAir then handed none s.chip.mixer else s.chip.mixer) ∧
             TallyOffered (onAir || armed) s.chip d) ∧
          (∀ j : Ctx, j ≠ k → d.ctx[j].state = s.chip.ctx[j].state ∧
            d.ctx[j].gathering = s.chip.ctx[j].gathering ∧ d.rate[j] = s.chip.rate[j]) ∧
          d.sched = s.chip.sched ∧ d.link = s.chip.link ∧ d.time = s.chip.time ∧ d.steer = s.chip.steer ∧
          d.budget = s.chip.budget ∧ d.lanes = s.chip.lanes ∧ d.ht = s.chip.ht ∧ d.unit = s.chip.unit))

/-! ## Budget and rate control -/

/-- R59 to R65 and R132: the division at a picture boundary. C is the last-announced capacity, or 500 in DOWN and
LOST; B = floor(C × 125 / rate); A is granted where programme-audio send is on and the link is UP or LOST; L is the
reserve, within what is left. The sharing contexts are granted their minimums, the programme context first and then
by number, each within what remains, and what remains after them by effective weight. A context with less than its
minimum counts one shortfall for the boundary. What the floors leave is idle, less than one byte a sharing context,
or all of V where none shares. Each context's reservoir and allowance follow its target. (The rates and the capacity
are in their ranges: invariants of every step.) -/
def Obligations.BoundaryDividesThePeriodsBytes : Prop :=
  ∀ c : Chip, RatesOk c → LinkRangesOk c.link →
    let d := boundaryWork c
    let rate := rateHz c.time.rate
    let capacity : Nat := if c.link.state = .down ∨ c.link.state = .lost then 500 else c.link.capacity
    let bytes := capacity * 125 / rate
    let audio : Nat := if c.mixer.audioSend = true ∧ (c.link.state = .up ∨ c.link.state = .lost) then
      min bytes (296000 / rate) else 0
    let lab := min c.budget.reserve (bytes - audio)
    let video := bytes - audio - lab
    let shares (k : Ctx) : Bool := decide (d.ctx[k].state = .running ∨ d.ctx[k].state = .draining)
    let setting (k : Ctx) : Nat := c.rate[k].settings.minimum
    let weight (k : Ctx) : Nat := c.rate[k].settings.weight
      * (if d.sel.programme = some k then c.rate[k].settings.boost else 1)
    let granted (k : Ctx) : Nat := d.budget.minimums[k]
    let target (k : Ctx) : Nat := d.budget.targets[k]
    let before (j k : Ctx) : Bool := decide (j ≠ k ∧
      (d.sel.programme = some j ∨ (d.sel.programme ≠ some k ∧ j.val < k.val)))
    let total := ∑ k : Ctx, if shares k then weight k else 0
    let rest := video - ∑ k : Ctx, granted k
    let sharers := ∑ k : Ctx, if shares k then 1 else 0
    (d.budget.capacity = capacity ∧ d.budget.bytes = bytes ∧ 1041 ≤ bytes ∧ bytes ≤ 1000000) ∧
    d.budget.audio = audio ∧ d.budget.label = lab ∧ d.budget.reserve = c.budget.reserve ∧
    (∀ k : Ctx, shares k = true →
      granted k = min (setting k) (video - ∑ j : Ctx, if shares j && before j k then granted j else 0) ∧
        target k = granted k + rest * weight k / total) ∧
    (∀ k : Ctx, shares k = false → granted k = 0 ∧ target k = 0) ∧
    d.budget.shortfalls = bumpIf (decide (∃ k : Ctx, shares k = true ∧ granted k < setting k)) c.budget.shortfalls ∧
    (∑ k : Ctx, target k) + d.budget.idle = video ∧
    (sharers = 0 → d.budget.idle = video) ∧ (0 < sharers → d.budget.idle < sharers) ∧
    (∀ k : Ctx,
      let fill := if c.ctx[k].state = .starting then 0 else c.rate[k].fill
      d.rate[k] = { c.rate[k] with
        target := target k, size := target k * c.rate[k].shape.depth,
        fill := min fill (target k * c.rate[k].shape.depth),
        q := if c.ctx[k].state = .starting then c.rate[k].shape.qStart else c.rate[k].q } ∧
      d.sched.allowance[k] = min (c.sched.allowance[k] + target k) (2 * target k))

namespace Sys2Proof.Claims

open Sys2Proof.Machine

/-- R138, R162, R165, R166: a clip's label frame offered to the label queue: with fewer than 16 frames there it joins
the end and the clip is QUEUED; otherwise the refusal is counted. -/
def labelOffered (i : Nat) (x : Clip) (c : Chip) : Chip :=
  if c.sched.labelQueue.length < 16 then
    { c with
        sched := { c.sched with labelQueue := c.sched.labelQueue ++ [⟨i, x.version, x.ctx, labelPayload i x⟩] },
        clips := { c.clips with table := c.clips.table.setIfInBounds i (some { x with state := .queued }) } }
  else { c with sched := { c.sched with labelQueueFull := bump c.sched.labelQueueFull } }

/-- R162, R165: the offer auto-send makes, a full label queue setting CLIP_TROUBLE. -/
def autoOffered (i : Nat) (x : Clip) (c : Chip) : Chip :=
  if c.clips.autoSend = false then c
  else if c.sched.labelQueue.length < 16 then labelOffered i x c
  else setAttention [.clipTrouble] (labelOffered i x c)

/-- An entry of the clip table written. -/
def written (i : Nat) (x : Clip) (c : Chip) : Chip :=
  { c with clips := { c.clips with table := c.clips.table.setIfInBounds i (some x) } }

/-- R162, steps 1 to 3: a clip as its closing leaves it. -/
def closedNow (c : Chip) (x : Clip) : Clip :=
  let last : PicNum := c.ctx[x.ctx].nextNumber - 1
  let empty := serialBefore last x.inPicture
  { x with
      state := .closed, outPicture := some last, outTimecode := some c.time.timecode, empty := empty,
      done := some (empty || serialBefore last c.acct.lowWater[x.ctx]) }

/-- R162, R164: the clip at index i closed, the mark stack left as given. -/
def clipClosed (i : Nat) (rest : List Nat) (x : Clip) (c : Chip) : Chip :=
  let y := closedNow c x
  autoOffered i y (written i y { c with clips := { c.clips with
    stack := rest, closed := bump c.clips.closed, emptyClips := bumpIf y.empty c.clips.emptyClips } })

/-- R159, R161, R164: a clip opened at W and put on the mark stack. -/
def clipOpened (k : Ctx) (text : List Byte) (rating : Nat) (auto : Bool) (c : Chip) : Chip :=
  let l := c.clips
  let clip : Clip :=
    { id := l.nextId, state := .opened, sourceUnit := c.unit, ctx := k,
      inPicture := (match c.ctx[k].gathering with
        | some g => g.picture.number
        | none => c.ctx[k].nextNumber),
      inTimecode := c.time.timecode, outPicture := none, outTimecode := none, text := text, rating := rating,
      version := 0, auto := auto, gap := false, empty := false, labelLost := false,
      parent := (match l.stack with
        | [] => none
        | i :: _ => ((l.table[i]?).join).map (fun x => x.id)),
      done := none }
  { c with clips := { l with
      table := l.table.setIfInBounds l.write (some clip), write := l.write + 1, stack := l.write :: l.stack,
      nextId := l.nextId + 1 } }

/-- The clip on top of the mark stack is an AUTO clip of a context for which a test holds. -/
def AutoOnTop (l : ClipLog) (i : Nat) (rest : List Nat) (x : Clip) (p : Ctx → Prop) : Prop :=
  l.stack = i :: rest ∧ (l.table[i]?).join = some x ∧ x.auto = true ∧ p x.ctx

/-- R164, step 1: an AUTO clip on top of the stack whose context is not the programme is popped and closed. -/
def AutoClosed (programme : Option Ctx) (c e : Chip) : Prop :=
  (∀ i rest x, AutoOnTop c.clips i rest x (fun k => programme ≠ some k) → e = clipClosed i rest x c) ∧
    ((∀ i rest x, ¬AutoOnTop c.clips i rest x (fun k => programme ≠ some k)) → e = c)

/-- R164, step 2: for a programme context with auto-clip ON, and no AUTO clip of its own on top of the stack, an AUTO
clip is opened, or skipped with CLIP_TROUBLE where none can be opened. -/
def AutoOpened (programme : Option Ctx) (e f : Chip) : Prop :=
  let wanted (k : Ctx) : Prop := programme = some k ∧ e.clips.autoClip[k] = true ∧
    ∀ i rest x, ¬AutoOnTop e.clips i rest x (fun j => j = k)
  let full : Prop := 128 ≤ e.clips.write ∨ 4 ≤ e.clips.stack.length
  (∀ k, wanted k → ¬full → f = clipOpened k [] 0 true { e with clips := { e.clips with
      autoOpened := bump e.clips.autoOpened } }) ∧
    (∀ k, wanted k → full → f = setAttention [.clipTrouble] { e with clips := { e.clips with
      autoSkipped := bump e.clips.autoSkipped } }) ∧
    ((∀ k, ¬wanted k) → f = e)

/-- R50: the context's gathering record has taken no cell since the previous boundary. -/
def Stale (c : Chip) (k : Ctx) (g : Gathering) : Prop :=
  c.ctx[k].state = .running ∧ c.ctx[k].gathering = some g ∧ g.fed = false

end Sys2Proof.Claims

/-- R37, R43, R91, R104, R105: what a picture boundary applies. A pending swap exchanges the banks. A STARTING
context becomes RUNNING. A pending operation makes the context it names the programme where that context is RUNNING
once the boundary has started the STARTING ones, and none otherwise; a SWAP makes the old programme the preset; it
is reported as TAKE_DONE or TAKE_DEGRADED, and every linked input's fader gets the target its link gives. A pending
preset is applied after it. Where either was applied, one set of tally cells is offered with the selection they leave
(R108). With nothing pending the selection is as it was and no tally cell is offered.

R50: the gathering record of a RUNNING context that has been fed goes on, its flag cleared. One that has not is counted
as stale, marked DAMAGED and completes: it is the ready record while the engine is busy, an older one being shed; with
the engine idle the first of them in the order C0 to C5 is granted, with q and the programme as they stood before the
boundary, and the others are ready (log entry 36, the model's choice).

R164: where an operation is applied (and no record is stale), an AUTO clip on top of the mark stack whose context is off
the air is closed, and then an AUTO clip is opened for a programme context with auto-clip ON. With no operation applied
no clip changes. -/
def Obligations.BoundaryAppliesWhatIsPending : Prop :=
  ∀ c : Chip,
    let d := boundaryWork c
    let running (k : Ctx) : Bool := decide (c.ctx[k].state = .running ∨ c.ctx[k].state = .starting)
    let operation : Bool := decide (c.sel.pendingOp ≠ .none)
    let named : Option Ctx := match c.sel.pendingOp with
      | .none => c.sel.programme
      | .swap lost => if lost then none else c.sel.preset
      | .cut k => k
    let degraded : Bool := decide (c.sel.pendingOp = .swap true) || named.any (fun k => !running k)
    (d.steer = if c.steer.pendingSwap then
        { c.steer with activeBank := c.steer.activeBank + 1, pendingSwap := false, swaps := bump c.steer.swaps }
      else c.steer) ∧
    (c.steer.pendingSwap = true → attHas d.port.attention .steerSwapped = true) ∧
    (∀ k : Ctx, d.ctx[k].state = if c.ctx[k].state = .starting then .running else c.ctx[k].state) ∧
    d.sel.programme = (if operation then named.filter running else c.sel.programme) ∧
    d.sel.preset = (match c.sel.pendingPreset, c.sel.pendingOp with
      | some v, _ => v
      | none, .swap _ => c.sel.programme
      | none, .cut _ => c.sel.preset
      | none, .none => c.sel.preset) ∧
    d.sel.pendingOp = .none ∧ d.sel.pendingPreset = none ∧ d.sel.tallyStream = c.sel.tallyStream ∧
    d.sel.applied = bumpIf operation c.sel.applied ∧
    d.sel.degraded = bumpIf (operation && degraded) c.sel.degraded ∧
    (operation = true →
      attHas d.port.attention (if degraded then .takeDegraded else .takeDone) = true) ∧
    d.mixer = (if operation then handed d.sel.programme c.mixer else c.mixer) ∧
    TallyOffered (operation || c.sel.pendingPreset.isSome) c d ∧
    (∀ (k : Ctx) (g : Gathering), c.ctx[k].state = .running → c.ctx[k].gathering = some g → g.fed = true →
      d.ctx[k].gathering = some { g with fed := false } ∧ d.ctx[k].staleGathers = c.ctx[k].staleGathers) ∧
    (∀ (k : Ctx) (g : Gathering), Stale c k g → PicturesOk c →
      let p : Picture := { g.picture with damaged := true }
      let old := c.ctx[k]
      d.ctx[k] = { old with
        gathering := none, ready := d.ctx[k].ready, completed := bump old.completed,
        staleGathers := bump old.staleGathers, overruns := bumpIf old.ready.isSome old.overruns,
        damagedPictures := bumpIf (!g.picture.damaged) old.damagedPictures } ∧
      d.acct.outcomes[k].shed = bumpIf old.ready.isSome c.acct.outcomes[k].shed ∧
      (old.ready.isSome = true → attHas d.port.attention .pictureShed = true) ∧
      (c.engine.op.isSome = true → d.ctx[k].ready = some ⟨p, g.memory⟩ ∧ d.engine = c.engine) ∧
      (c.engine.op = none → (∀ (j : Ctx) (h : Gathering), j.val < k.val → ¬Stale c j h) →
        let onAir : Bool := decide (c.sel.programme = some k)
        d.ctx[k].ready = none ∧ d.engine = { c.engine with
          op := some ⟨p, g.memory, c.rate[k].q, onAir⟩, grants := bump c.engine.grants,
          programmeGrants := bumpIf onAir c.engine.programmeGrants,
          pointer := if onAir then c.engine.pointer else k }) ∧
      (c.engine.op = none → (∃ (j : Ctx) (h : Gathering), j.val < k.val ∧ Stale c j h) →
        d.ctx[k].ready = some ⟨p, g.memory⟩)) ∧
    ((∀ k g, ¬Stale c k g) →
      (operation = false → d.clips = c.clips) ∧
      (operation = true → ∃ e f : Chip, AutoClosed d.sel.programme c e ∧ AutoOpened d.sel.programme e f ∧
        d.clips = f.clips ∧ d.sched = { f.sched with allowance := d.sched.allowance } ∧
        (attHas f.port.attention .clipTrouble = true → attHas d.port.attention .clipTrouble = true)))

namespace Sys2Proof.Claims

open Sys2Proof.Machine

/-- R69: the target index read from the curve at fill f of reservoir R, interpolated and truncated toward zero. -/
def curveIndex (r : RateState) (f : Nat) : Int :=
  if r.size = 0 then r.shape.qMax
  else
    let i := 32 * f / r.size
    let entry (j : Nat) : Int := ((r.curve[j]?).getD 0 : Nat)
    if 32 ≤ i then entry 32
    else entry i + Int.tdiv ((entry (i + 1) - entry i) * ((32 * f - i * r.size : Nat) : Int)) (r.size : Int)

/-- R70: the next index after an acceptance at fill f. -/
def nextIndex (r : RateState) (f : Nat) (programme : Bool) : Int :=
  let t : Int := max r.shape.qMin (min r.shape.qMax
    (curveIndex r f - (if programme then (r.settings.bias : Int) else 0)))
  r.q + max (-(r.settings.slew : Int)) (min r.settings.slew (t - r.q))

end Sys2Proof.Claims

/-- R52, R66 to R70, R140: a coding completion. An idle engine has none. With n = ceil(S / 1,368) and E = S + 32 × n
the picture is shed RESERVOIR where F + E − T > R, shed QUEUE_FULL where its video queue holds 8 records, and
accepted otherwise, when it joins the queue with its deadline at this ms plus the latency budget. F takes E − T or,
for a shed, −T, and not below 0; q rises by the slew to q_max at most after a shed, and moves toward the curve's
index by the slew at most after an acceptance. The engine is then granted again (what a grant does is O23). (The rates
are in their ranges, an invariant. Log entry 8: a number of bytes no engine delivers is no such event.) -/
def Obligations.CodingCompletionIsJudged : Prop :=
  ∀ (coded : List Byte) (s : State),
    (s.chip.engine.op = none ∨ coded.length < 64 ∨ 4194304 < coded.length →
      Ends (.codingCompletion coded) s s.chip) ∧
    (∀ o : Coding, s.chip.engine.op = some o → 64 ≤ coded.length → coded.length ≤ 4194304 →
      RatesOk s.chip →
      let k := o.picture.ctx
      let r := s.chip.rate[k]
      let n := (coded.length + 1367) / 1368
      let e := coded.length + 32 * n
      let full : Prop := 8 ≤ s.chip.sched.videoQueue[k].length
      let idle : Chip := { s.chip with
        engine := { s.chip.engine with op := none, completions := bump s.chip.engine.completions } }
      let shed (reason : ShedReason) : Chip := resolve o.picture (some o.qUsed) 0 (.shed reason) idle
      let q := min r.shape.qMax (r.q + r.settings.slew)
      (r.size + r.target < r.fill + e → Ends (.codingCompletion coded) s (arbitrate { shed .reservoir with
        rate := setAt s.chip.rate k { r with
          fill := r.fill - r.target, q := q, reservoirSheds := bump r.reservoirSheds } })) ∧
      (r.fill + e ≤ r.size + r.target → full → Ends (.codingCompletion coded) s (arbitrate { shed .queueFull with
        rate := setAt s.chip.rate k { r with
          fill := r.fill - r.target, q := q, queueFullSheds := bump r.queueFullSheds } })) ∧
      (r.fill + e ≤ r.size + r.target → ¬full → ∃ d : Chip, Ends (.codingCompletion coded) s (arbitrate d) ∧
        (d.rate[k].q : Int) = nextIndex r (r.fill + e - r.target) o.programme ∧
        d = { idle with
          rate := setAt s.chip.rate k { r with
            fill := r.fill + e - r.target, q := d.rate[k].q, accepted := bump r.accepted },
          sched := { s.chip.sched with
            videoQueue := modAt s.chip.sched.videoQueue k (fun v => v ++
              [{ picture := o.picture, qUsed := o.qUsed, programme := o.programme,
                 completionMs := s.chip.time.ms, size := coded.length, sendSize := e, fragments := n,
                 deadline := s.chip.time.ms + BitVec.ofNat 32 r.settings.latency, sent := 0, delivered := 0,
                 lost := 0, withdrawn := 0, outstanding := 0, late := false, highestSend := 0,
                 coded := coded }]) } }))

/-- R72, R73, R74, R75: SET_CONTEXT, SET_RESERVOIR, LOAD_CURVE and SET_BUDGET, taken in either mode. Each value is
clamped into its range, with DONE_CLAMPED answered where one was, and all are stored together; a context above 5, a
log mode that is none of the three, and q_min above q_max are refused REFUSED_RANGE; SET_RESERVOIR and LOAD_CURVE are
refused REFUSED_STATE for a context that is not STOPPED, and SET_RESERVOIR sets q to the new q_start. -/
def Obligations.RateSettingsAreClampedAndStored : Prop :=
  ∀ (tag ctx weight : Byte) (minimum : BitVec 32) (boost bias slew marker : Byte) (latency : BitVec 16)
    (logMode depth qMin qMax qStart : Byte) (entries : List Byte) (reserve : BitVec 16) (s : State), HasRoom s →
    let setC := Instr.setContext tag ctx weight minimum boost bias slew marker latency logMode
    let setR := Instr.setReservoir tag ctx depth qMin qMax qStart
    let setL := Instr.loadCurve tag ctx entries
    (5 < ctx.toNat ∨ 2 < logMode.toNat → Refuses setC s tag .setContext .refusedRange) ∧
    (∀ k : Ctx, k.val = ctx.toNat → ∀ mode : LogMode,
      ((mode = .none ∧ logMode.toNat = 0) ∨ (mode = .trouble ∧ logMode.toNat = 1) ∨
        (mode = .all ∧ logMode.toNat = 2)) →
      Answers setC s tag .setContext
        (doneIf (outside 1 16 weight.toNat || outside 0 1000000 minimum.toNat || outside 1 4 boost.toNat
          || outside 0 15 bias.toNat || outside 1 16 slew.toNat || outside 40 2000 latency.toNat)) []
        (fun c => { c with rate := modAt c.rate k (fun r => { r with settings :=
          ⟨within 1 16 weight.toNat, within 0 1000000 minimum.toNat, within 1 4 boost.toNat,
            within 0 15 bias.toNat, within 1 16 slew.toNat, marker, within 40 2000 latency.toNat, mode⟩ }) })) ∧
    (5 < ctx.toNat → Refuses setR s tag .setReservoir .refusedRange) ∧
    (5 < ctx.toNat ∨ entries.length ≠ 33 → Refuses setL s tag .loadCurve .refusedRange) ∧
    (∀ k : Ctx, k.val = ctx.toNat → s.chip.ctx[k].state ≠ .stopped →
      Refuses setR s tag .setReservoir .refusedState ∧
        (entries.length = 33 → Refuses setL s tag .loadCurve .refusedState)) ∧
    (∀ k : Ctx, k.val = ctx.toNat → s.chip.ctx[k].state = .stopped →
      let lo := within 1 96 qMin.toNat
      let hi := within 1 96 qMax.toNat
      (hi < lo → Refuses setR s tag .setReservoir .refusedRange) ∧
      (lo ≤ hi → Answers setR s tag .setReservoir
        (doneIf (outside 2 16 depth.toNat || outside 1 96 qMin.toNat || outside 1 96 qMax.toNat
          || outside lo hi qStart.toNat)) []
        (fun c => { c with rate := modAt c.rate k (fun r => { r with
          shape := ⟨within 2 16 depth.toNat, lo, hi, within lo hi qStart.toNat⟩,
          q := within lo hi qStart.toNat }) })) ∧
      (entries.length = 33 → Answers setL s tag .loadCurve
        (doneIf (entries.any (fun b => outside 1 96 b.toNat))) []
        (fun c => { c with rate := modAt c.rate k (fun r => { r with
          curve := Vector.ofFn (fun j : Fin 33 => within 1 96 (entries.getD j.val 0).toNat) }) }))) ∧
    Answers (.setBudget tag reserve) s tag .setBudget (doneIf (8192 < reserve.toNat)) []
      (fun c => { c with budget := { c.budget with reserve := within 0 8192 reserve.toNat } })

/-! ## Sound mixer -/

/-- R80, R81, R82: the gain table. LOAD_GAIN is taken in STANDBY alone; a count of 0 or above 64, a range past entry
255, or entries that are not exactly count, are refused REFUSED_RANGE; otherwise the entries named are written, and
no other. READ_GAIN, in either mode, answers the entries with entry 0 read as 0, and changes nothing. R176, R188: a
LOAD_GAIN whose entries are not exactly count is a payload of another size than its layout, refused REFUSED_RANGE before
R81 looks at the part mode, so also in RUN (DEDUCED, log entry 28). -/
def Obligations.GainTableIsLoadedAndRead : Prop :=
  ∀ (tag first count : Byte) (entries : List (BitVec 16)) (s : State), HasRoom s →
    let inRange : Prop := 1 ≤ count.toNat ∧ count.toNat ≤ 64 ∧ first.toNat + count.toNat ≤ 256
    let load := Instr.loadGain tag first count entries
    (s.chip.port.mode = .run → entries.length = count.toNat → Refuses load s tag .loadGain .refusedState) ∧
    (entries.length ≠ count.toNat → Refuses load s tag .loadGain .refusedRange) ∧
    (s.chip.port.mode = .standby → ¬inRange → Refuses load s tag .loadGain .refusedRange) ∧
    (s.chip.port.mode = .standby → inRange → entries.length = count.toNat →
      Answers load s tag .loadGain .done [] (fun c => { c with mixer := { c.mixer with
        gain := Vector.ofFn (fun i : Fin 256 =>
          if i.val < first.toNat ∨ first.toNat + count.toNat ≤ i.val then c.mixer.gain[i]
          else entries.getD (i.val - first.toNat) 0) } })) ∧
    (¬inRange → Refuses (.readGain tag first count) s tag .readGain .refusedRange) ∧
    (inRange → Answers (.readGain tag first count) s tag .readGain .done
      ((List.range count.toNat).flatMap (fun j =>
        if first.toNat + j = 0 then [0#8, 0#8]
        else be16 ((s.chip.mixer.gain[first.toNat + j]?).getD 0))) id)

/-- R89, R90, R92, R93, R95: SET_FADER, SET_AFV, SET_SENDS, SET_BUS and SET_AUDIO_SEND, in either mode. An input
above 15, a bus above 3, a link choice that is neither a context nor NONE, a choice that is neither OFF nor ON, and
an AUX stream of 1 are refused REFUSED_RANGE. SET_FADER stores the target and the step, brought into 1 to 32, and
starts the ramp at the current index; the others store what they carry, an AUX stream above 4095 as 4095. -/
def Obligations.MixerSettingsAreStored : Prop :=
  ∀ (tag input a b d e : Byte) (stream : BitVec 16) (s : State), HasRoom s →
    (15 < input.toNat →
      Refuses (.setFader tag input a b) s tag .setFader .refusedRange ∧
        Refuses (.setAfv tag input a b d) s tag .setAfv .refusedRange ∧
        Refuses (.setSends tag input a b d e) s tag .setSends .refusedRange) ∧
    (∀ i : InputNo, i.val = input.toNat →
      Answers (.setFader tag input a b) s tag .setFader (doneIf (outside 1 32 b.toNat)) []
        (modInput i (fun x => { x with fader :=
          ⟨x.fader.index, a.toNat, x.fader.index, within 1 32 b.toNat⟩ })) ∧
      (5 < a.toNat → a.toNat ≠ 255 → Refuses (.setAfv tag input a b d) s tag .setAfv .refusedRange) ∧
      (a.toNat = 255 → Answers (.setAfv tag input a b d) s tag .setAfv .done []
        (modInput i (fun x => { x with link := none }))) ∧
      (∀ k : Ctx, k.val = a.toNat → Answers (.setAfv tag input a b d) s tag .setAfv .done []
        (modInput i (fun x => { x with link := some ⟨k, b.toNat, d.toNat⟩ }))) ∧
      Answers (.setSends tag input a b d e) s tag .setSends .done []
        (modInput i (fun x => { x with sends := #v[a.toNat, b.toNat, d.toNat, e.toNat] }))) ∧
    (3 < a.toNat ∨ 1 < d.toNat → Refuses (.setBus tag a b d stream) s tag .setBus .refusedRange) ∧
    (d.toNat ≤ 1 → ∀ j : BusNo, j.val = a.toNat →
      let stored (c : Chip) : Chip := { c with mixer := { c.mixer with
        buses := modAt c.mixer.buses j (fun x => { x with master := b.toNat, mute := decide (d.toNat = 1) }) } }
      let aux : Stream := BitVec.ofNat 12 (min 4095 stream.toNat)
      (j.val < 2 → Answers (.setBus tag a b d stream) s tag .setBus .done [] stored) ∧
      (2 ≤ j.val → stream.toNat = 1 → Refuses (.setBus tag a b d stream) s tag .setBus .refusedRange) ∧
      (j.val = 2 → stream.toNat ≠ 1 →
        Answers (.setBus tag a b d stream) s tag .setBus (doneIf (4095 < stream.toNat)) []
          (fun c => { stored c with mixer := { (stored c).mixer with auxAStream := aux } })) ∧
      (j.val = 3 → stream.toNat ≠ 1 →
        Answers (.setBus tag a b d stream) s tag .setBus (doneIf (4095 < stream.toNat)) []
          (fun c => { stored c with mixer := { (stored c).mixer with auxBStream := aux } }))) ∧
    (1 < a.toNat → Refuses (.setAudioSend tag a) s tag .setAudioSend .refusedRange) ∧
    (a.toNat ≤ 1 → Answers (.setAudioSend tag a) s tag .setAudioSend .done []
      (fun c => { c with mixer := { c.mixer with audioSend := decide (a.toNat = 1) } }))

/-- R87, R79: READ_METERS answers the four peak meters, PGM-L, PGM-R, AUX-A and AUX-B, and sets them to 0.
AUDIO_INPUT_LOST, for an input that is ACTIVE in RUN with no block buffered and 99 underruns in a row: the hundredth is
counted, the input becomes IDLE with its count 0, an input lost is counted and AUDIO_INPUT_LOST is set. (Log entry 5, the
model's choice: for any other input there is no such event.) -/
def Obligations.MetersAreReadAndInputsLost : Prop :=
  ∀ (tag : Byte) (i : InputNo) (s : State),
    (HasRoom s → Answers (.readMeters tag) s tag .readMeters .done
      (allBuses.flatMap (fun b => be32 (BitVec.ofNat 32 s.chip.mixer.buses[b].meter)))
      (fun c => { c with mixer := { c.mixer with
        buses := Vector.ofFn (fun b : BusNo => { c.mixer.buses[b] with meter := 0 }) } })) ∧
    (let gone : Prop := s.chip.port.mode = .run ∧ s.chip.mixer.inputs[i].active = true ∧
        s.chip.mixer.inputs[i].buffer = [] ∧ 99 ≤ s.chip.mixer.inputs[i].underrunRun
     (gone → Ends (.audioInputLost i) s (setAttention [.audioInputLost] { s.chip with mixer := { s.chip.mixer with
        inputs := modAt s.chip.mixer.inputs i (fun x =>
          { x with active := false, underrunRun := 0, underruns := bump x.underruns }),
        inputsLost := bump s.chip.mixer.inputsLost } })) ∧
     (¬gone → Ends (.audioInputLost i) s s.chip))

namespace Sys2Proof.Claims

open Sys2Proof.Machine

/-- R80: an entry of the gain table, entry 0 read as 0. -/
def gainRead (m : Mixer) (n : Nat) : Int := if n = 0 then 0 else (((m.gain[n]?).getD 0).toNat : Int)

/-- R84 to R86: one stage: floor(x × G / 4,096), saturated into 24 bits. -/
def mixStage (gain x : Int) : Int := max (-8388608) (min 8388607 (Int.fdiv (x * gain) 4096))

/-- R79: the sample of an input's block at a position at this tick: its oldest block's, or silence. -/
def sampleAt (x : Input) (p : Nat) : Int :=
  match x.buffer with
  | b :: _ => (b.getD p 0).toInt
  | [] => 0

/-- R88: a fader's index after this tick. -/
def movedIndex (f : Fader) : Nat :=
  if f.index < f.target then min f.target (f.index + f.step)
  else if f.target < f.index then max f.target (f.index - f.step)
  else f.index

/-- R84, R88: the gain of an input's fader at this tick. -/
def faderGain (m : Mixer) (i : InputNo) : Int := gainRead m (movedIndex m.inputs[i].fader)

/-- R84: an input's sample at a position after its fader. -/
def faded (m : Mixer) (i : InputNo) (p : Nat) : Int := mixStage (faderGain m i) (sampleAt m.inputs[i] p)

/-- R85, R86: the sum of the sixteen contributions to a bus at a position. -/
def busTotal (m : Mixer) (b : BusNo) (p : Nat) : Int :=
  ∑ i : InputNo, mixStage (gainRead m m.inputs[i].sends[b]) (faded m i p)

/-- R86: a bus's output sample at a position. -/
def busSample (m : Mixer) (b : BusNo) (p : Nat) : Int :=
  if m.buses[b].mute then 0 else mixStage (gainRead m m.buses[b].master) (busTotal m b p)

/-- A bus's 48 output samples as carried. -/
def busBlock (m : Mixer) (b : BusNo) : List Sample := (List.range 48).map (fun p => BitVec.ofInt 24 (busSample m b p))

/-- R84 to R86: the positions of a block at which a stage saturates: floor(x × G / 4,096) lies outside 24 bits. -/
def saturated (gain : Int) (x : Nat → Int) : Nat :=
  (List.range 48).countP (fun p =>
    decide (Int.fdiv (x p * gain) 4096 < -8388608 ∨ 8388607 < Int.fdiv (x p * gain) 4096))

/-- R84: the samples of an input that its fader saturates at this tick. -/
def faderSaturated (m : Mixer) (i : InputNo) : Nat := saturated (faderGain m i) (sampleAt m.inputs[i])

/-- R85: the samples of an input that its sends saturate, over the four buses. -/
def sendsSaturated (m : Mixer) (i : InputNo) : Nat :=
  ∑ b : BusNo, saturated (gainRead m m.inputs[i].sends[b]) (faded m i)

/-- R86: the output samples of a bus that are saturated, none where it is muted. -/
def busSaturated (m : Mixer) (b : BusNo) : Nat :=
  if m.buses[b].mute then 0 else saturated (gainRead m m.buses[b].master) (busTotal m b)

/-- R79: an input whose underrun at this tick is its hundredth in a row. -/
def underrunsOut (x : Input) : Bool := decide (x.active = true ∧ x.buffer = [] ∧ 99 ≤ x.underrunRun)

/-- R79: an input after a tick has taken its block or counted an underrun, the hundredth in a row making it IDLE. -/
def InputTicked (x y : Input) : Prop :=
  y.buffer = x.buffer.drop 1 ∧
    (x.buffer ≠ [] → y.active = x.active ∧ y.underrunRun = 0 ∧ y.blocksTaken = bump x.blocksTaken ∧
      y.underruns = x.underruns) ∧
    (x.buffer = [] → x.active = false →
      y.active = false ∧ y.underrunRun = x.underrunRun ∧ y.blocksTaken = x.blocksTaken ∧ y.underruns = x.underruns) ∧
    (x.buffer = [] → x.active = true → y.blocksTaken = x.blocksTaken ∧ y.underruns = bump x.underruns ∧
      (if 99 ≤ x.underrunRun then y.active = false ∧ y.underrunRun = 0
       else y.active = true ∧ y.underrunRun = x.underrunRun + 1))

end Sys2Proof.Claims

/-- R79, R83 to R86, R88: BLOCK_TICK in RUN, in whatever order the parts take it, where no expiry of the expected-boundary
timer falls on the way to it (log entry 6). Every input gives its oldest block
or silence; every fader moves toward its target by at most its step; the buses are mixed by the fixed-point stages
with the indices so moved; and each meter becomes the largest of what it held and the block's |out|. Each sample that a
stage saturates counts an input clip at its input's fader, a send clip at its input's send to a bus, and a bus clip at
the bus; a bus clip alone sets AUDIO_CLIP. An input whose underrun is its hundredth in a row is counted as lost, and sets
AUDIO_INPUT_LOST. The settings are as they were. -/
def Obligations.BlockTickMovesFadersAndMeters : Prop :=
  ∀ s : State, s.chip.port.mode = .run → s.chip.time.elapsed + samplesToTick s.chip.time < s.chip.time.length →
    ∃ d : Chip, Ends .blockTick s d ∧
      (∀ i : InputNo, InputTicked s.chip.mixer.inputs[i] d.mixer.inputs[i] ∧
        d.mixer.inputs[i].fader =
          { s.chip.mixer.inputs[i].fader with index := movedIndex s.chip.mixer.inputs[i].fader } ∧
        d.mixer.inputs[i].inputClips = bumpBy (faderSaturated s.chip.mixer i) s.chip.mixer.inputs[i].inputClips ∧
        d.mixer.inputs[i].sendClips = bumpBy (sendsSaturated s.chip.mixer i) s.chip.mixer.inputs[i].sendClips ∧
        d.mixer.inputs[i].sends = s.chip.mixer.inputs[i].sends ∧
        d.mixer.inputs[i].link = s.chip.mixer.inputs[i].link ∧
        d.mixer.inputs[i].lengthErrors = s.chip.mixer.inputs[i].lengthErrors ∧
        d.mixer.inputs[i].overruns = s.chip.mixer.inputs[i].overruns) ∧
      (∀ b : BusNo,
        d.mixer.buses[b].master = s.chip.mixer.buses[b].master ∧
          d.mixer.buses[b].mute = s.chip.mixer.buses[b].mute ∧
          d.mixer.buses[b].clips = bumpBy (busSaturated s.chip.mixer b) s.chip.mixer.buses[b].clips ∧
          s.chip.mixer.buses[b].meter ≤ d.mixer.buses[b].meter ∧
          (∀ p, p < 48 → (busSample s.chip.mixer b p).natAbs ≤ d.mixer.buses[b].meter) ∧
          (d.mixer.buses[b].meter = s.chip.mixer.buses[b].meter ∨
            ∃ p, p < 48 ∧ d.mixer.buses[b].meter = (busSample s.chip.mixer b p).natAbs)) ∧
      (attHas d.port.attention .audioClip = true ↔
        attHas s.chip.port.attention .audioClip = true ∨ ∃ b : BusNo, 0 < busSaturated s.chip.mixer b) ∧
      d.mixer.inputsLost =
        bumpBy (allInputs.countP (fun i => underrunsOut s.chip.mixer.inputs[i])) s.chip.mixer.inputsLost ∧
      (attHas d.port.attention .audioInputLost = true ↔ attHas s.chip.port.attention .audioInputLost = true ∨
        ∃ i : InputNo, underrunsOut s.chip.mixer.inputs[i] = true) ∧
      d.mixer.gain = s.chip.mixer.gain ∧ d.mixer.audioSend = s.chip.mixer.audioSend ∧
      d.mixer.auxAStream = s.chip.mixer.auxAStream ∧ d.mixer.auxBStream = s.chip.mixer.auxBStream ∧
      d.mixer.blockCounter = (if s.chip.mixer.blockCounter < 3 then s.chip.mixer.blockCounter + 1 else 0)

/-- R94, R95, R96: the end of the mixer's work at a tick in RUN. The blocks of PGM-L and PGM-R join the frame being
built, whose first block stamps it; the fourth forms the AUDIO frame, which joins the audio queue (a full one having
dropped its oldest) where programme-audio send is ON and the link is UP or LOST, and is otherwise discarded and
counted. With room on the output lane, each AUX bus whose stream is not 0 queues its block, AUX-A before AUX-B.

R8: an AUX cell offered to an output queue of fewer than 32 cells joins it; offered to a full one it is dropped and
counted, and nothing else of the lane changes. The model's choice (log entry 32): the gap of R96 is kept as the
number of the bus's cells dropped since its last queued one, which the next cell of the bus that joins takes with it in
State; no byte of the cell carries it, since by R1 and R11 a dropped cell takes no number. -/
def Obligations.MixerTickBuildsFramesAndAuxCells : Prop :=
  ∀ c : Chip, c.port.mode = .run →
    let d := mixerTick c
    let left := busBlock c.mixer 0
    let right := busBlock c.mixer 1
    let begun : FrameBuild := match c.mixer.build with
      | some b => b
      | none => ⟨c.time.timecode, c.time.ms, []⟩
    let blocks := begun.blocks ++ [(left, right)]
    let frame : AudioFrame := ⟨begun.timecode, begun.ms,
      blocks.flatMap (fun b => (List.zip b.1 b.2).flatMap (fun x => be24 x.1 ++ be24 x.2))⟩
    let queued := c.mixer.audioSend = true ∧ (c.link.state = .up ∨ c.link.state = .lost)
    let auxCell (source : OutSource) (stream : Stream) (b : BusNo) (dropped : Option Byte) : List OutCell :=
      if stream = 0#12 then [] else [⟨source, .audio, stream, (busBlock c.mixer b).flatMap be24, dropped.getD 0⟩]
    let offA : Bool := decide (c.mixer.auxAStream = 0#12)
    let offB : Bool := decide (c.mixer.auxBStream = 0#12)
    (c.mixer.blockCounter < 3 → d.mixer.build = some ⟨begun.timecode, begun.ms, blocks⟩ ∧ d.sched = c.sched ∧
      d.mixer.framesFormed = c.mixer.framesFormed) ∧
    (3 ≤ c.mixer.blockCounter → d.mixer.build = none ∧ d.mixer.framesFormed = bump c.mixer.framesFormed ∧
      (queued → d.mixer.framesDiscarded = c.mixer.framesDiscarded ∧
        d.sched.audioQueue = (if c.sched.audioQueue.length < 16 then c.sched.audioQueue
          else c.sched.audioQueue.drop 1) ++ [frame]) ∧
      (¬queued → d.mixer.framesDiscarded = bump c.mixer.framesDiscarded ∧ d.sched = c.sched)) ∧
    (outCount c.out ≤ 28 →
      queuedOf isAux d.out = queuedOf isAux c.out ++ auxCell .auxA c.mixer.auxAStream 2 c.out.droppedA
        ++ auxCell .auxB c.mixer.auxBStream 3 c.out.droppedB ∧
      d.out.auxDrops = c.out.auxDrops ∧ d.out.droppedA = (if offA then c.out.droppedA else some 0) ∧
      d.out.droppedB = (if offB then c.out.droppedB else some 0)) ∧
    (32 ≤ outCount c.out → d.fo = c.fo ∧ d.out = { c.out with
      auxDrops := bumpIf (!offB) (bumpIf (!offA) c.out.auxDrops),
      droppedA := if offA then c.out.droppedA else c.out.droppedA.map (· + 1),
      droppedB := if offB then c.out.droppedB else c.out.droppedB.map (· + 1) }) ∧
    (∀ x : OutCell, isAux x.source = true → outCount c.out < 32 →
      queuedOf isAux (offerAux x c).out =
          queuedOf isAux c.out ++ [{ x with gap := (droppedOf c.out x.source).getD 0 }] ∧
        droppedOf (offerAux x c).out x.source = some 0 ∧ (offerAux x c).out.auxDrops = c.out.auxDrops) ∧
    (∀ x : OutCell, 32 ≤ outCount c.out →
      (x.source = .auxA → offerAux x c = { c with out := { c.out with
        auxDrops := bump c.out.auxDrops, droppedA := c.out.droppedA.map (· + 1) } }) ∧
      (x.source = .auxB → offerAux x c = { c with out := { c.out with
        auxDrops := bump c.out.auxDrops, droppedB := c.out.droppedB.map (· + 1) } }))

/-! ## Programme selection and tally -/

namespace Sys2Proof.Claims

open Sys2Proof.Machine

/-- R101: a unit number and a context choice in range: a unit up to 3, and a context up to 5 or 255 for none. -/
def choiceInRange (unit ctx : Byte) : Prop := unit.toNat ≤ 3 ∧ (ctx.toNat ≤ 5 ∨ ctx.toNat = 255)

/-- R102, R103: the selection a command names on this unit: the context chosen where the unit is this one's, and
otherwise none. -/
def NamesHere (c : Chip) (unit ctx : Byte) (v : Option Ctx) : Prop :=
  (∀ k, v = some k ↔ unit.toNat = c.unit.val ∧ k.val = ctx.toNat)

end Sys2Proof.Claims

/-- R101, R102, R103: PRESET, TAKE and CUT_TO, in either mode and whatever the state of the context named. PRESET
sets the pending preset and CUT_TO the pending operation to the context named on this unit, or to none for another
unit's number or NONE; TAKE makes the pending operation a SWAP without the lost-preset mark; each replaces what was
pending. Sent to this unit's number they are answered DONE, or REFUSED_RANGE with nothing changed; sent to ALL they
are counted as taken and not answered, and out of range only the refused-globals counter rises with that count. (That a
global command out of range, which R101 says is not taken, counts as taken too is the model's choice, log entry 24.) -/
def Obligations.PresetTakeAndCutSetWhatIsPending : Prop :=
  ∀ (tag unit ctx : Byte) (s : State),
    let globals : ControlPort := { s.chip.port with globalsTaken := bump s.chip.port.globalsTaken }
    (∀ v : Option Ctx, choiceInRange unit ctx → NamesHere s.chip unit ctx v →
      (HasRoom s →
        Answers (.preset (.unit tag) unit ctx) s tag .preset .done []
          (fun c => { c with sel := { c.sel with pendingPreset := some v } }) ∧
        Answers (.cutTo (.unit tag) unit ctx) s tag .cutTo .done []
          (fun c => { c with sel := { c.sel with pendingOp := .cut v } })) ∧
      Ends (.preset .all unit ctx) s
        { s.chip with port := globals, sel := { s.chip.sel with pendingPreset := some v } } ∧
      Ends (.cutTo .all unit ctx) s
        { s.chip with port := globals, sel := { s.chip.sel with pendingOp := .cut v } }) ∧
    (¬choiceInRange unit ctx →
      (HasRoom s → Refuses (.preset (.unit tag) unit ctx) s tag .preset .refusedRange ∧
        Refuses (.cutTo (.unit tag) unit ctx) s tag .cutTo .refusedRange) ∧
      Ends (.preset .all unit ctx) s { s.chip with
        port := globals, sel := { s.chip.sel with refusedGlobals := bump s.chip.sel.refusedGlobals } } ∧
      Ends (.cutTo .all unit ctx) s { s.chip with
        port := globals, sel := { s.chip.sel with refusedGlobals := bump s.chip.sel.refusedGlobals } }) ∧
    (HasRoom s → Answers (.take (.unit tag)) s tag .take .done []
      (fun c => { c with sel := { c.sel with pendingOp := .swap false } })) ∧
    Ends (.take .all) s { s.chip with port := globals, sel := { s.chip.sel with pendingOp := .swap false } }

/-- R108, R109: tally. SET_TALLY, in either mode, refuses a context above 5 and a stream of 1; otherwise it stores the
stream, one above 4095 as 4095 with DONE_CLAMPED, and where it is not 0 offers one cell with the context's tally
state on it. A set of tally cells, offered with room on the output lane, queues one for each context with a stream,
in the order C0 to C5: ON_AIR for the programme, PRESET for the preset, OFF otherwise.

R9: a tally cell offered to an output queue of fewer than 32 cells joins it. Offered to a full one it takes its
context's place of the tally hold with the time it is placed, behind the cells held earlier; a cell already held there
is replaced and counted. (How a held cell moves into the queue is O12.) -/
def Obligations.TallyStreamsAndSets : Prop :=
  ∀ (tag ctx : Byte) (stream : BitVec 16) (s : State),
    let state (l : Selector) (k : Ctx) : Byte := if l.programme = some k then 0 else if l.preset = some k then 1 else 2
    let cell (c : Chip) (t : Stream) (k : Ctx) : OutCell := ⟨.tally k, .tally, t,
      [BitVec.ofNat 8 k.val, state c.sel k] ++ timecodeBytes c.time.timecode, 0⟩
    (HasRoom s → 5 < ctx.toNat ∨ stream.toNat = 1 →
      Refuses (.setTally tag ctx stream) s tag .setTally .refusedRange) ∧
    (HasRoom s → ∀ k : Ctx, k.val = ctx.toNat → stream.toNat ≠ 1 →
      let t : Stream := BitVec.ofNat 12 (min 4095 stream.toNat)
      Answers (.setTally tag ctx stream) s tag .setTally (doneIf (4095 < stream.toNat)) []
        (fun c =>
          let stored : Chip := { c with sel := { c.sel with tallyStream := setAt c.sel.tallyStream k t } }
          if stream.toNat = 0 then stored
          else offerTally k (cell c t k)
            { stored with sel := { stored.sel with tallyOffered := bump stored.sel.tallyOffered } })) ∧
    (∀ c : Chip, outCount c.out ≤ 26 →
      queuedOf isTally (offerTallySet c).out = queuedOf isTally c.out ++ tallySet c.sel c.time.timecode) ∧
    (∀ (k : Ctx) (x : OutCell) (c : Chip), isTally x.source = true →
      (outCount c.out < 32 → queuedOf isTally (offerTally k x c).out = queuedOf isTally c.out ++ [x] ∧
        (offerTally k x c).out.hold = c.out.hold ∧ (offerTally k x c).out.tallyReplaced = c.out.tallyReplaced) ∧
      (32 ≤ outCount c.out → offerTally k x c = { c with out := { c.out with
        hold := c.out.hold.filter (fun h => decide (h.ctx ≠ k)) ++ [⟨k, x, c.time.ms⟩],
        tallyReplaced := bumpIf (c.out.hold.any (fun h => decide (h.ctx = k))) c.out.tallyReplaced } }))

/-! ## Home link -/

namespace Sys2Proof.Claims

open Sys2Proof.Machine

/-- R112: a change of link state: counted, with LINK_STATE and the other classes of the event set. The credit is
kept in the states that send and is 0 in the others. -/
def entered (st : LinkState) (also : List AttClass) (c : Chip) : Chip :=
  setAttention (.linkState :: also) { c with link := { c.link with
    state := st, stateChanges := bump c.link.stateChanges,
    credit := if st = .up ∨ st = .lost ∨ st = .draining then c.link.credit else 0 } }

/-- R114: a hail attempt begins with its HAIL frame, its answer window and the phase WINDOW. -/
def hailed (c : Chip) : Chip :=
  { c with
      ht := c.ht ++ [hailFrame c.unit c.link.settings.identity c.link.attempt c.time.rate c.time.timecode c.time.ms],
      link := { c.link with
        phase := some .window, answerWindow := some c.link.settings.answerWindow,
        hailAttempts := bump c.link.hailAttempts } }

end Sys2Proof.Claims

/-- R113: LINK_OPEN in RUN: from DOWN or HELD the link enters HAILING with attempt 1 and its HAIL frame goes to HT,
the queues as they stood; in any other state it is refused, and nothing changes. In STANDBY it is refused.

R126: SET_LINK stores the five settings together, in either mode and every link state, the four lengths brought
into their ranges, with DONE_CLAMPED where one was. A timer that runs keeps the length it was started with. -/
def Obligations.LinkOpenAndSetLink : Prop :=
  (∀ (tag : Byte) (s : State), HasRoom s →
      (s.chip.port.mode = .run → s.chip.link.state = .down ∨ s.chip.link.state = .held →
        Answers (.linkOpen tag) s tag .linkOpen .done []
          (fun c => hailed (entered .hailing [] { c with link := { c.link with attempt := 1 } }))) ∧
      (s.chip.port.mode = .run → s.chip.link.state ≠ .down → s.chip.link.state ≠ .held →
        Refuses (.linkOpen tag) s tag .linkOpen .refusedState) ∧
      (s.chip.port.mode = .standby → Refuses (.linkOpen tag) s tag .linkOpen .refusedState)) ∧
  (∀ (tag : Byte) (identity window gap silence ack : BitVec 16) (s : State), HasRoom s →
      Answers (.setLink tag identity window gap silence ack) s tag .setLink
        (doneIf (outside 50 2000 window.toNat || outside 100 5000 gap.toNat || outside 100 2000 silence.toNat
          || outside 20 1000 ack.toNat)) []
        (fun c => { c with link := { c.link with settings :=
          ⟨identity, within 50 2000 window.toNat, within 100 5000 gap.toNat, within 100 2000 silence.toNat,
            within 20 1000 ack.toNat⟩ } }))

/-- R115, R121, R123: the expiries of the link controller's four timers. The answer window at attempt 1 or 2 starts
the retry gap, and at attempt 3 the hail has failed: the link is DOWN, with LINK_FAILED set beside LINK_STATE. The
retry gap begins the next attempt. The silence timer is counted, and takes UP to LOST, the credit kept, or ends the
drain in DRAINING. The drain limit ends the drain. (Log entry 5, the model's choice: a timer that does not run, or
runs in a state it does not belong to, has no expiry.)

R23: the link controller at a block tick. Each of the four timers that runs counts the tick, so that one started at N
ends at the Nth; those that end at this tick expire as their rows do, the answer window and the retry gap first and then
the silence timer and the drain limit, in an order that R123 leaves free (log entry 2). A timer with more to count only
counts. -/
def Obligations.LinkTimersExpire : Prop :=
  ∀ s : State,
    let c := s.chip
    let l := c.link
    (l.answerWindow.isSome = true → l.attempt < 3 → Ends .hailAnswerWindowExpiry s { c with link := { l with
      answerWindow := none, phase := some .gap, retryGap := some l.settings.retryGap } }) ∧
    (l.answerWindow.isSome = true → 3 ≤ l.attempt → Ends .hailAnswerWindowExpiry s
      (entered .down [.linkFailed] { c with link := { l with
        answerWindow := none, phase := none, attempt := 0, hailsFailed := bump l.hailsFailed } })) ∧
    (l.answerWindow = none → Ends .hailAnswerWindowExpiry s c) ∧
    (l.retryGap.isSome = true → Ends .hailRetryGapExpiry s
      (hailed { c with link := { l with retryGap := none, attempt := l.attempt + 1 } })) ∧
    (l.retryGap = none → Ends .hailRetryGapExpiry s c) ∧
    (let counted : Chip := { c with link := { l with
        silence := none, silenceExpiries := bump l.silenceExpiries } }
     (l.silence.isSome = true → l.state = .up → Ends .silenceExpiry s (entered .lost [] counted)) ∧
     (l.silence.isSome = true → l.state = .draining → Ends .silenceExpiry s (drainEnd counted)) ∧
     (l.silence = none ∨ (l.state ≠ .up ∧ l.state ≠ .draining) → Ends .silenceExpiry s c)) ∧
    (l.drainLimit.isSome = true → l.state = .draining → Ends .drainLimitExpiry s (drainEnd c)) ∧
    (l.drainLimit = none ∨ l.state ≠ .draining → Ends .drainLimitExpiry s c) ∧
    (∀ silenceFirst : Bool,
      let d := linkTick silenceFirst c
      let counted : Chip := { c with link := { l with
        answerWindow := l.answerWindow.map (· - 1), retryGap := l.retryGap.map (· - 1),
        silence := l.silence.map (· - 1), drainLimit := l.drainLimit.map (· - 1) } }
      let goesOn (timer : Option Nat) : Prop := ∀ n, timer = some n → 1 < n
      let row (i : Instr) (ends : Prop) (x y : Chip) : Prop := (ends → Ends i ⟨x, []⟩ y) ∧ (¬ends → y = x)
      let silence (x y : Chip) : Prop := row .silenceExpiry (x.link.silence = some 0) x y
      let limit (x y : Chip) : Prop := row .drainLimitExpiry (x.link.drainLimit = some 0) x y
      (goesOn l.answerWindow → goesOn l.retryGap → goesOn l.silence → goesOn l.drainLimit → d = counted) ∧
      ∃ e f g : Chip, row .hailAnswerWindowExpiry (¬goesOn l.answerWindow) counted e ∧
        row .hailRetryGapExpiry (¬goesOn l.retryGap) e f ∧
        (silenceFirst = true → silence f g ∧ limit g d) ∧ (silenceFirst = false → limit f g ∧ silence g d))

namespace Sys2Proof.Claims

open Sys2Proof.Machine

/-- The first entry of a list with a frame number leaves it. -/
def Leaves (n : FrameNum) (e : Entry) (l rest : List Entry) : Prop :=
  ∃ before after, l = before ++ e :: after ∧ rest = before ++ after ∧ e.frame = n ∧ ∀ x ∈ before, x.frame ≠ n

/-- R123: in DRAINING the drain ends once both lists are empty. -/
def drainedOut (c : Chip) : Chip :=
  if c.link.state = .draining ∧ c.sched.awaiting = [] ∧ c.sched.resend = [] then drainEnd c else c

/-- R150: the outcome of a queued picture with nothing outstanding and nothing unsent. -/
def outcomeOf (r : Queued) : PicOutcome :=
  if 1 ≤ r.withdrawn then .shed .late else if r.delivered = r.fragments then .delivered else .lost

/-- R45: a DRAINING context with an empty video queue becomes STOPPED. -/
def stoppedIfEmpty (k : Ctx) (c : Chip) : Chip :=
  if c.ctx[k].state = .draining ∧ c.sched.videoQueue[k] = [] then
    { c with
        ctx := modAt c.ctx k (fun y => { y with state := .stopped }),
        rate := modAt c.rate k (fun r => { r with target := 0, size := 0, fill := 0, q := r.shape.qStart }) }
  else c

/-- R140, R150: the counts of a context's queued picture p, whose record is q, changed. With nothing outstanding and
nothing unsent the record leaves its queue and is resolved (what a resolution does is O46); otherwise it stands in its
place. -/
def recordChanged (k : Ctx) (p : PicNum) (f : Queued → Queued) (q : Queued) (c : Chip) : Chip :=
  let queue (g : List Queued → List Queued) : Chip :=
    { c with sched := { c.sched with videoQueue := modAt c.sched.videoQueue k g } }
  let r := f q
  if r.outstanding = 0 ∧ r.fragments - r.sent - r.withdrawn = 0 then
    stoppedIfEmpty k (resolve r.picture (some r.qUsed) r.highestSend (outcomeOf r)
      (queue (fun v => v.filter (fun x => x.picture.number != p))))
  else queue (fun v => v.map (fun x => if x.picture.number = p then f x else x))

/-- A context's queued picture with a number. -/
def QueuedAs (c : Chip) (k : Ctx) (p : PicNum) (q : Queued) : Prop :=
  c.sched.videoQueue[k].find? (fun r => r.picture.number == p) = some q

/-- R154: a settled label's entry of the send-event log, refused with LOG_FULL where the log holds 32. -/
def labelLogged (delivered : Bool) (i : Nat) (v : Byte) (x : Clip) (sends : Nat) (c : Chip) : Chip :=
  if c.acct.log.length < 32 then
    { c with acct := { c.acct with
        log := c.acct.log ++ [.label delivered i x.id v x.inTimecode c.time.ms sends],
        entriesWritten := bump c.acct.entriesWritten } }
  else setAttention [.logFull]
    { c with acct := { c.acct with logFullRefusals := bump c.acct.logFullRefusals } }

/-- R144, R154, R167: d is the part once an entry that has left the lists is settled. A fragment's picture has its
delivered or lost count raised and its outstanding count lowered; with no such picture queued there is none to count. A
label's clip becomes LABELLED, or DELIVERED at once
where its pictures are done; or, lost, CLOSED with LABEL_LOST and CLIP_TROUBLE set; and the log takes its entry after
(log entry 16). -/
def Settled (delivered : Bool) (e : Entry) (c d : Chip) : Prop :=
  (∀ k p j q, e.origin = .video k p j → QueuedAs c k p q →
    d = recordChanged k p (fun r =>
      if delivered then { r with delivered := r.delivered + 1, outstanding := r.outstanding - 1 }
      else { r with lost := r.lost + 1, outstanding := r.outstanding - 1 }) q c) ∧
  (∀ k p j, e.origin = .video k p j → (∀ q, ¬QueuedAs c k p q) → d = c) ∧
  (∀ i v x, e.origin = .label i v → (c.clips.table[i]?).join = some x → x.state = .awaiting →
    d = labelLogged delivered i v x e.sendCount
      (if delivered = false then setAttention [.clipTrouble] (written i { x with state := .closed, labelLost := true }
          { c with clips := { c.clips with labelsLost := bump c.clips.labelsLost } })
       else if x.done = some true then
        setAttention [.clipDelivered] (written i { x with state := .delivered, labelLost := false }
          { c with clips := { c.clips with delivered := bump c.clips.delivered } })
       else written i { x with state := .labelled, labelLost := false } c))

/-- R144: entries settled as lost one after another, each counted. -/
def LostInTurn : List Entry → Chip → Chip → Prop
  | [], c, d => d = c
  | e :: rest, c, d => ∃ m : Chip,
      Settled false e { c with sched := { c.sched with entriesLost := bump c.sched.entriesLost } } m ∧
        LostInTurn rest m d

/-- R123, R125: d is the part once every entry of the awaiting list, oldest send first, and then of the resend queue,
oldest first, has left its list and is settled as lost. -/
def AllLost (c d : Chip) : Prop :=
  LostInTurn (c.sched.awaiting ++ c.sched.resend) { c with sched := { c.sched with awaiting := [], resend := [] } } d

/-- R123, R125: the audio queue emptied, its frames counted. -/
def audioDropped (c : Chip) : Chip :=
  { c with
      sched := { c.sched with audioQueue := [] },
      link := { c.link with audioDiscarded := bumpBy c.sched.audioQueue.length c.link.audioDiscarded } }

end Sys2Proof.Claims

/-- R122: HANDOVER in RUN takes UP or LOST to DRAINING, with the silence timer started at its setting and the drain
limit at twice the ack window; with both lists empty the drain ends at once. It is refused in the other states, and
in STANDBY. R125: LINK_CLOSE in RUN answers DONE in every state: in DOWN it changes nothing, and in any other it
stops the timers and ends as the drain does but in DOWN.

R123: what the end of a drain leaves: HELD with credit 0, both timers stopped, both lists and the audio queue
empty with its frames counted, and the drain counted as completed where the lists were empty and as cut short otherwise.
Each entry that was left, those of the awaiting list, oldest send first, and then those of the resend queue, oldest first,
is counted as lost and settled as lost (R144): a fragment raises its picture's lost count, which may resolve it; a label's
clip becomes CLOSED with LABEL_LOST, CLIP_TROUBLE is set, and the log takes its entry. The label and pass queues keep
their contents, and nothing is sent. (The model's choice: the clip log is told of a label before the send-event log, log
entry 16.) -/
def Obligations.HandoverCloseAndTheDrainsEnd : Prop :=
  (∀ (tag : Byte) (s : State), HasRoom s →
      let drained (c : Chip) : Chip := entered .draining [] { c with link := { c.link with
        silence := some c.link.settings.silence, drainLimit := some (2 * c.link.settings.ackWindow) } }
      let sending : Prop := s.chip.link.state = .up ∨ s.chip.link.state = .lost
      let empty : Prop := s.chip.sched.awaiting = [] ∧ s.chip.sched.resend = []
      (s.chip.port.mode = .run → sending → ¬empty → Answers (.handover tag) s tag .handover .done [] drained) ∧
      (s.chip.port.mode = .run → sending → empty →
        Answers (.handover tag) s tag .handover .done [] (fun c => drainEnd (drained c))) ∧
      (s.chip.port.mode = .standby ∨ ¬sending → Refuses (.handover tag) s tag .handover .refusedState) ∧
      (s.chip.port.mode = .run → s.chip.link.state = .down →
        Answers (.linkClose tag) s tag .linkClose .done [] id) ∧
      (s.chip.port.mode = .run → s.chip.link.state ≠ .down →
        ∃ e : Chip, AllLost { holdPlace s.chip with link := { s.chip.link with
            answerWindow := none, retryGap := none, silence := none, drainLimit := none, phase := none,
            attempt := 0 } } e ∧
          Answers (.linkClose tag) s tag .linkClose .done [] (fun _ => entered .down [] (audioDropped e))) ∧
      (s.chip.port.mode = .standby → Refuses (.linkClose tag) s tag .linkClose .refusedState)) ∧
  (∀ c : Chip,
      let d := drainEnd c
      let left := c.sched.awaiting.length + c.sched.resend.length
      (∃ e : Chip, d = entered .held [] (audioDropped e) ∧ AllLost { c with link := { c.link with
        silence := none, drainLimit := none, drainsCompleted := bumpIf (decide (left = 0)) c.link.drainsCompleted,
        drainsCutShort := bumpIf (decide (left ≠ 0)) c.link.drainsCutShort } } e) ∧
      d.link.state = .held ∧ d.link.credit = 0 ∧ d.link.silence = none ∧ d.link.drainLimit = none ∧
        d.link.capacity = c.link.capacity ∧ d.link.settings = c.link.settings ∧
        d.link.drainsCompleted = bumpIf (decide (left = 0)) c.link.drainsCompleted ∧
        d.link.drainsCutShort = bumpIf (decide (left ≠ 0)) c.link.drainsCutShort ∧
        d.link.stateChanges = bump c.link.stateChanges ∧
        d.link.audioDiscarded = bumpBy c.sched.audioQueue.length c.link.audioDiscarded ∧
        d.sched.awaiting = [] ∧ d.sched.resend = [] ∧ d.sched.audioQueue = [] ∧
        d.sched.entriesLost = bumpBy left c.sched.entriesLost ∧
        d.sched.labelQueue = c.sched.labelQueue ∧ d.sched.passQueue = c.sched.passQueue ∧
        d.sched.nextFrame = c.sched.nextFrame ∧ d.ht = c.ht ∧
        attHas d.port.attention .linkState = true)

namespace Sys2Proof.Claims

open Sys2Proof.Machine

/-- R190: a return message: 6 bytes of header with the whole length, the body, and the check. -/
def returnBytes (kind unit : Byte) (identity : BitVec 16) (body : List Byte) : List Byte :=
  let head := [kind, unit] ++ be16 identity ++ be16 (BitVec.ofNat 16 (10 + body.length)) ++ body
  head ++ le32 (crc32 head)

/-- R118, R120: the part once a valid message has been taken: heard in UP and DRAINING it restarts the silence timer,
and in LOST it returns the link to UP with the timer started. -/
def afterHeard (c : Chip) : Chip :=
  let started (d : Chip) : Chip := { d with link := { d.link with silence := some d.link.settings.silence } }
  if c.link.state = .up ∨ c.link.state = .draining then started c
  else if c.link.state = .lost then started (entered .up [] c)
  else c

end Sys2Proof.Claims

/-- R116 to R119, R142, R190: a return message. A message of the wrong length or check, an unknown kind or a body of a
length its kind does not allow, and a unit or van identity that is not this one's, are each counted and change
nothing else. A valid HAIL_ANSWER opens the link from HAILING at the capacity it carries with credit 0; a CAPACITY
outside DOWN is stored and sets CAPACITY; an ACK outside DOWN has its numbers matched in their order; the others are
stray. Then the message counts as one heard. (The model's choices: a message of fewer than 10 bytes fails its check, log
entry 11; an ACK or a stray message is taken before the message counts as heard, log entry 21.) -/
def Obligations.ReturnMessagesAreJudgedAndTaken : Prop :=
  ∀ (bytes body : List Byte) (kind unit : Byte) (identity : BitVec 16) (s : State),
    let l := s.chip.link
    ((bytes.length < 10 ∨ (bytes.getD 4 0).toNat * 256 + (bytes.getD 5 0).toNat ≠ bytes.length ∨
        bytes.drop (bytes.length - 4) ≠ le32 (crc32 (bytes.take (bytes.length - 4)))) →
      Ends (.returnMessageArrival bytes) s { s.chip with link := { l with checkErrors := bump l.checkErrors } }) ∧
    (bytes = returnBytes kind unit identity body → body.length ≤ 60000 →
      let allowed : Prop := ((kind.toNat = 1 ∨ kind.toNat = 3) ∧ body.length = 4) ∨
        (kind.toNat = 2 ∧ 1 ≤ (body.getD 0 0).toNat ∧ (body.getD 0 0).toNat ≤ 16 ∧
          body.length = 1 + 3 * (body.getD 0 0).toNat)
      let mine : Prop := unit.toNat = s.chip.unit.val ∧ identity = l.settings.identity
      let valid : Chip := { s.chip with link := { l with validMessages := bump l.validMessages } }
      let stray : Chip := { valid with link := { valid.link with strayMessages := bump l.strayMessages } }
      let value : Nat := ((body.getD 0 0).toNat * 65536 + (body.getD 1 0).toNat * 256 + (body.getD 2 0).toNat) * 256
        + (body.getD 3 0).toNat
      let stored (m : Link) : Link := { m with
        capacity := within 500 200000 value, capacityClamps := bumpIf (outside 500 200000 value) m.capacityClamps }
      let numbers : List FrameNum := (List.range (body.getD 0 0).toNat).map (fun j =>
        BitVec.ofNat 24 (((body.getD (3 * j + 1) 0).toNat * 256 + (body.getD (3 * j + 2) 0).toNat) * 256
          + (body.getD (3 * j + 3) 0).toNat))
      (¬allowed → Ends (.returnMessageArrival bytes) s { s.chip with
        link := { l with malformed := bump l.malformed } }) ∧
      (allowed → ¬mine → Ends (.returnMessageArrival bytes) s { s.chip with
        link := { l with identityMismatches := bump l.identityMismatches } }) ∧
      (allowed → mine → l.state = .down ∨ (kind.toNat = 1 ∧ l.state ≠ .hailing) →
        Ends (.returnMessageArrival bytes) s (afterHeard stray)) ∧
      (allowed → mine → kind.toNat = 1 → l.state = .hailing →
        Ends (.returnMessageArrival bytes) s (afterHeard (entered .up [] { valid with
          link := { stored valid.link with
            answerWindow := none, retryGap := none, phase := none, attempt := 0, credit := 0 } }))) ∧
      (allowed → mine → kind.toNat = 3 → l.state ≠ .down →
        Ends (.returnMessageArrival bytes) s (afterHeard (setAttention [.capacity] { valid with
          link := { stored valid.link with capacityMessages := bump l.capacityMessages } }))) ∧
      (allowed → mine → kind.toNat = 2 → l.state ≠ .down →
        Ends (.returnMessageArrival bytes) s (afterHeard (numbers.foldl (fun c n => ackFrame n c) valid))))

/-! ## Frame scheduler -/

/-- R142, R144: one number of an ACK. The first entry of the awaiting list, or else of the resend queue, with that number
leaves it, is counted as matched and is settled as delivered: a fragment's picture counts it, and resolves where it was
the last outstanding and nothing is unsent; a label's clip becomes LABELLED or DELIVERED. In DRAINING the drain ends once
both lists are empty (R123). A number that matches nothing is stray.

R143, R144: ACK_WINDOW_EXPIRY. The entry leaves the awaiting list. Sent once, and a LABEL or a fragment of a picture that
is not late, it joins the resend queue and is counted as scheduled. Otherwise it is lost: counted, and settled as lost; a
label's clip becomes CLOSED with LABEL_LOST and CLIP_TROUBLE is set (R167). In DRAINING the drain ends once both lists are
empty. (The model's choices: a number not awaited has no expiry, log entry 5; the clip log is told of a label before the
send-event log, log entry 16.) -/
def Obligations.AcknowledgedFramesSettleOrExpire : Prop :=
  (∀ (n : FrameNum) (c : Chip),
      ((∀ e ∈ c.sched.awaiting ++ c.sched.resend, e.frame ≠ n) →
        ackFrame n c = { c with sched := { c.sched with strayAcks := bump c.sched.strayAcks } }) ∧
      (∀ (e : Entry) (a r : List Entry),
        (Leaves n e c.sched.awaiting a ∧ r = c.sched.resend) ∨
          ((∀ x ∈ c.sched.awaiting, x.frame ≠ n) ∧ a = c.sched.awaiting ∧ Leaves n e c.sched.resend r) →
        ∃ d : Chip, ackFrame n c = drainedOut d ∧ Settled true e { c with sched := { c.sched with
          awaiting := a, resend := r, matchedAcks := bump c.sched.matchedAcks } } d)) ∧
  (∀ (n : FrameNum) (s : State),
      ((∀ e ∈ s.chip.sched.awaiting, e.frame ≠ n) → Ends (.ackWindowExpiry n) s s.chip) ∧
      (∀ (e : Entry) (rest : List Entry), Leaves n e s.chip.sched.awaiting rest →
        let again : Chip := { s.chip with sched := { s.chip.sched with
          awaiting := rest, resend := s.chip.sched.resend ++ [{ e with timer := none }],
          resendsScheduled := bump s.chip.sched.resendsScheduled } }
        let useful : Prop := e.sendCount = 1 ∧
          ((∃ i v, e.origin = .label i v) ∨
            ∃ k p j q, e.origin = .video k p j ∧ QueuedAs s.chip k p q ∧ q.late = false)
        (useful → Ends (.ackWindowExpiry n) s again) ∧
        (¬useful → ∃ d : Chip, Ends (.ackWindowExpiry n) s (drainedOut d) ∧
          Settled false e { s.chip with sched := { s.chip.sched with
            awaiting := rest, entriesLost := bump s.chip.sched.entriesLost } } d)))

/-- R145, R149 to R151: PICTURE_DEADLINE. A queued picture that is not late becomes late: its unsent fragments are
withdrawn and counted, and its entries in the resend queue, m of them, leave it and are lost, in DRAINING ending the drain
where both lists are then empty; its entries on the awaiting list stay. With a fragment still outstanding the picture stays
in its queue; with none it leaves and is resolved, SHED(LATE) where anything was withdrawn, and a DRAINING context it was
the last record of is STOPPED. (The model's choice, log entry 5: for any other picture there is no such event.) -/
def Obligations.PictureDeadlineWithdrawsTheUnsent : Prop :=
  ∀ (k : Ctx) (p : PicNum) (s : State),
    ((∀ q, QueuedAs s.chip k p q → q.late = true) → Ends (.pictureDeadline k p) s s.chip) ∧
    (∀ q : Queued, QueuedAs s.chip k p q → q.late = false →
      let own (e : Entry) : Bool := match e.origin with
        | .video k' p' _ => decide (k' = k ∧ p' = p)
        | .label _ _ => false
      let m := s.chip.sched.resend.countP own
      let left := q.fragments - q.sent - q.withdrawn
      let after := recordChanged k p (fun r => { r with
          late := true, withdrawn := r.withdrawn + (r.fragments - r.sent - r.withdrawn), lost := r.lost + m,
          outstanding := r.outstanding - m }) q
        { s.chip with sched := { s.chip.sched with
            fragmentsWithdrawn := bumpBy left s.chip.sched.fragmentsWithdrawn,
            resend := s.chip.sched.resend.filter (fun e => !own e),
            entriesLost := bumpBy m s.chip.sched.entriesLost } }
      (m = 0 → Ends (.pictureDeadline k p) s after) ∧
      (1 ≤ m → m ≤ q.outstanding → Ends (.pictureDeadline k p) s (drainedOut after)) ∧
      (q.outstanding = m → 1 ≤ q.withdrawn + left → s.chip.link.state ≠ .draining →
        ∃ d : Chip, Ends (.pictureDeadline k p) s d ∧
          d.sched.videoQueue[k] = s.chip.sched.videoQueue[k].filter (fun r => r.picture.number != p) ∧
          d.acct.outcomes[q.picture.ctx].late = bump s.chip.acct.outcomes[q.picture.ctx].late ∧
          d.acct.outcomes[q.picture.ctx].shed = bump s.chip.acct.outcomes[q.picture.ctx].shed ∧
          attHas d.port.attention .pictureShed = true))

namespace Sys2Proof.Claims

open Sys2Proof.Machine

/-- R135: a context's next fragment may be sent: q is the oldest of its queue with unsent fragments, and the
allowance covers a frame of 32 bytes and the next 1,368 coded bytes, or what is left of them. -/
def Eligible (c : Chip) (k : Ctx) (q : Queued) : Prop :=
  (∃ before after, c.sched.videoQueue[k] = before ++ q :: after ∧
    (∀ r ∈ before, r.fragments - r.sent - r.withdrawn = 0)) ∧
    0 < q.fragments - q.sent - q.withdrawn ∧
    32 + min 1368 (q.coded.length - 1368 * q.sent) ≤ c.sched.allowance[k]

end Sys2Proof.Claims

/-- R134, R135: the search for a frame. In DRAINING the resend queue alone is looked at. Otherwise the classes are
taken in their order: audio, resends, and, while the lists hold fewer than 48 entries, labels and fragments, and
then pass cells. Among the contexts the programme context comes first, and otherwise the first after the rotation
pointer that has an eligible fragment. -/
def Obligations.SearchTakesClassesInOrder : Prop :=
  ∀ c : Chip,
    let s := c.sched
    let full : Prop := 48 ≤ s.awaiting.length + s.resend.length
    (c.link.state = .draining → findFrame c = s.resend.head?.map Found.resend) ∧
    (c.link.state ≠ .draining →
      (∀ f rest, s.audioQueue = f :: rest → findFrame c = some (.audio f)) ∧
      (s.audioQueue = [] → ∀ e rest, s.resend = e :: rest → findFrame c = some (.resend e)) ∧
      (s.audioQueue = [] → s.resend = [] → full → findFrame c = s.passQueue.head?.map Found.pass) ∧
      (s.audioQueue = [] → s.resend = [] → ¬full →
        (∀ f rest, s.labelQueue = f :: rest → findFrame c = some (.label f)) ∧
        (s.labelQueue = [] → (∀ k q, ¬Eligible c k q) → findFrame c = s.passQueue.head?.map Found.pass) ∧
        (s.labelQueue = [] → ∀ k q, c.sel.programme = some k → Eligible c k q →
          findFrame c = some (.video k q false)) ∧
        (s.labelQueue = [] → ∀ k q, c.sel.programme ≠ some k → Eligible c k q →
          (∀ p, c.sel.programme = some p → ∀ r, ¬Eligible c p r) →
          (∀ j r, Eligible c j r → (k - s.pointer - 1).val ≤ (j - s.pointer - 1).val) →
          findFrame c = some (.video k q true))))

/-- R131, R133, R134, R136: what a selection sends is paid for. The frames go to HT in order behind what it holds, and
8 bits a byte of them is what the credit falls by; with the link DOWN, HAILING or HELD nothing is sent; and in
DRAINING only entries of the resend queue are sent, with no new frame number. -/
def Obligations.SelectionSpendsTheCredit : Prop :=
  ∀ c : Chip,
    let d := selectTick c
    ∃ frames : List (List Byte), d.ht = c.ht ++ frames ∧
      8 * (frames.map List.length).sum + d.link.credit = c.link.credit ∧
      (c.link.state = .down ∨ c.link.state = .hailing ∨ c.link.state = .held → d = c) ∧
      (c.link.state = .draining → d.sched.nextFrame = c.sched.nextFrame ∧
        ∀ f ∈ frames, f ∈ c.sched.resend.map (·.bytes))

/-- R129, R184, R189: a home frame. It is 32 bytes longer than its payload, which follows the header; its home check
is the CRC of header bytes 0 to 27 and the payload; and bytes 0 to 27 carry the kind, the unit, the van identity, the
frame number, the context, the picture number, the fragment index and count, the marker, the flags, the timecode, the
ms counter, the stream and the payload length, each most significant byte first. The fragments of a picture of coded
size S are n = ceil(S / 1,368), each of at most 1,368 bytes, and one after another they are the coded bytes.

A HAIL frame is 64 bytes: kind 0, the unit, the van identity, the attempt, the rate code, the timecode and the ms counter,
46 reserved bytes of 0, and the check over the 60 bytes before it. The payload of a LABEL frame is 64 bytes, whose fields
stand at the offsets of R189 less the 32 of the header, the reserved bytes 0; an out picture, an out timecode or a parent
that is absent is sent as 0. (Log entry 38, the model's choice: the out picture is the one the clip's record holds. Log
entry 39: a frame in the label queue keeps the flags byte it joined with.) -/
def Obligations.HomeFramesCarryTheirPayload : Prop :=
  (∀ (h : HomeHeader) (payload : List Byte),
    let f := homeFrame h payload
    f.length = 32 + payload.length ∧ f.drop 32 = payload ∧
      (f.drop 28).take 4 = le32 (crc32 (f.take 28 ++ payload)) ∧
      f.take 28 = [h.kind, BitVec.ofNat 8 h.unit.val] ++ be16 h.identity ++ be24 h.frame ++ [h.ctx] ++ be16 h.picture
        ++ be16 (BitVec.ofNat 16 h.fragment) ++ be16 (BitVec.ofNat 16 h.count) ++ [h.marker, h.flags]
        ++ [h.timecode.hours, h.timecode.minutes, h.timecode.seconds, h.timecode.picture].map (BitVec.ofNat 8)
        ++ be32 h.ms ++ be16 (BitVec.ofNat 16 h.stream.toNat) ++ be16 (BitVec.ofNat 16 payload.length)) ∧
  (∀ q : Queued,
    (List.range ((q.coded.length + 1367) / 1368)).flatMap (fragmentPayload q) = q.coded ∧
      (∀ j, (fragmentPayload q j).length ≤ 1368)) ∧
  (∀ (unit : Fin 4) (identity : BitVec 16) (attempt : Nat) (rate : Rate) (t : Timecode) (ms : Millis),
    let f := hailFrame unit identity attempt rate t ms
    let code : Byte := match rate with
      | .r25 => 1
      | .r30 => 2
      | .r50 => 3
      | .r60 => 4
    f.length = 64 ∧ f.drop 60 = le32 (crc32 (f.take 60)) ∧
      f.take 60 = [0, BitVec.ofNat 8 unit.val] ++ be16 identity ++ [BitVec.ofNat 8 attempt, code]
        ++ [t.hours, t.minutes, t.seconds, t.picture].map (BitVec.ofNat 8) ++ be32 ms ++ List.replicate 46 0) ∧
  (∀ (i : Nat) (x : Clip), x.text.length ≤ 32 →
    let p := labelPayload i x
    let n := x.text.length
    let code (t : Timecode) : List Byte := [t.hours, t.minutes, t.seconds, t.picture].map (BitVec.ofNat 8)
    let flag (b : Bool) (v : Nat) : Nat := if b then v else 0
    p.length = 64 ∧
      ∀ field ∈ [(0, [BitVec.ofNat 8 i]), (1, be16 x.id), (3, [x.version]), (4, [BitVec.ofNat 8 x.sourceUnit.val]),
          (5, [BitVec.ofNat 8 x.ctx.val]), (6, be16 x.inPicture), (8, be16 (x.outPicture.getD 0)),
          (10, code x.inTimecode), (14, code (x.outTimecode.getD ⟨0, 0, 0, 0⟩)), (18, [BitVec.ofNat 8 x.rating]),
          (19, [BitVec.ofNat 8 (flag x.auto 1 + flag x.gap 2 + flag x.empty 4 + flag x.labelLost 8
            + flag x.parent.isSome 16)]),
          (20, be16 (x.parent.getD 0)), (22, [BitVec.ofNat 8 n]), (23, x.text), (23 + n, List.replicate (32 - n) 0),
          (55, List.replicate 9 0)],
        (p.drop field.1).take field.2.length = field.2)

/-! ## Delivery accounting -/

/-- R151 to R153, R168, R169: the resolution of a picture. Its outcome is counted at its context; SHED and LOST set
their attention; the low-water number becomes the serially first of the context's unresolved numbers, taken from
its video queue, the engine, the ready and the gathering record in that order; SHED and LOST mark GAP on the
context's clips whose span holds the number, an EMPTY clip's holding none; the log takes an entry as the log mode asks, or refuses it when it
holds 32. The records, the queues, the engine, the rate states, the selection, the link and the time are as they
were. (That a DELIVERED clip is not marked though its span hold the number is the model's choice: log entry 25.) -/
def Obligations.ResolutionIsCountedLoggedAndHandedOver : Prop :=
  ∀ (p : Picture) (q : Option Nat) (sends : Nat) (o : PicOutcome) (c : Chip),
    let d := resolve p q sends o c
    let k := p.ctx
    let old := c.acct.outcomes[k]
    let held : List PicNum := c.sched.videoQueue[k].map (fun r => r.picture.number)
      ++ (c.engine.op.toList.filter (fun r => r.picture.ctx == k)).map (fun r => r.picture.number)
      ++ c.ctx[k].ready.toList.map (fun r => r.picture.number)
      ++ c.ctx[k].gathering.toList.map (fun g => g.picture.number)
    let asked : Prop := c.rate[k].settings.logMode = .all ∨
      (c.rate[k].settings.logMode = .trouble ∧ o ≠ .delivered)
    (d.acct.outcomes[k] = match o with
      | .delivered => { old with delivered := bump old.delivered }
      | .lost => { old with lost := bump old.lost }
      | .shed r => { old with shed := bump old.shed, late := bumpIf (decide (r = .late)) old.late }) ∧
    (∀ r, o = .shed r → attHas d.port.attention .pictureShed = true) ∧
    (o = .lost → attHas d.port.attention .pictureLost = true) ∧
    (held = [] → d.acct.lowWater[k] = c.ctx[k].nextNumber) ∧
    (∀ m ∈ held, (∀ x ∈ held, x = m ∨ serialBefore m x = true) → d.acct.lowWater[k] = m) ∧
    (∀ j : Ctx, j ≠ k → d.acct.lowWater[j] = c.acct.lowWater[j] ∧ d.acct.outcomes[j] = c.acct.outcomes[j]) ∧
    (asked → c.acct.log.length < 32 → d.acct.log = c.acct.log ++ [.picture o p q c.time.ms sends] ∧
      d.acct.entriesWritten = bump c.acct.entriesWritten) ∧
    (asked → 32 ≤ c.acct.log.length → d.acct.log = c.acct.log ∧
      d.acct.logFullRefusals = bump c.acct.logFullRefusals ∧ attHas d.port.attention .logFull = true) ∧
    (¬asked → d.acct.log = c.acct.log) ∧
    (∀ i : Fin 128, ∀ x, c.clips.table[i] = some x →
      let spans : Prop := serialBefore p.number x.inPicture = false ∧
        ∀ last, x.outPicture = some last → serialBefore last p.number = false
      let marked : Prop := o ≠ .delivered ∧ x.ctx = k ∧ x.state ≠ .delivered ∧ x.state ≠ .void ∧
        x.empty = false ∧ spans
      let done : Prop := x.ctx = k ∧ x.done = some false ∧
        (x.state = .closed ∨ x.state = .queued ∨ x.state = .awaiting ∨ x.state = .labelled) ∧
        ∃ last, x.outPicture = some last ∧ serialBefore last d.acct.lowWater[k] = true
      ∃ y, d.clips.table[i] = some y ∧ (y.gap = true ↔ x.gap = true ∨ marked) ∧
        (done → y.done = some true ∧ y.state = if x.state = .labelled then .delivered else x.state) ∧
        (¬done → y.done = x.done ∧ y.state = x.state) ∧
        y = { x with gap := y.gap, done := y.done, state := y.state }) ∧
    (∀ i : Fin 128, c.clips.table[i] = none → d.clips.table[i] = none) ∧
    d.sched = c.sched ∧ d.engine = c.engine ∧ d.ctx = c.ctx ∧ d.rate = c.rate ∧ d.sel = c.sel ∧ d.link = c.link ∧
    d.time = c.time ∧ d.mixer = c.mixer ∧ d.budget = c.budget ∧ d.steer = c.steer ∧ d.lanes = c.lanes ∧
    d.ht = c.ht ∧ d.unit = c.unit

namespace Sys2Proof.Claims

open Sys2Proof.Machine

/-- R188: a value of a size from 1 to 4 bytes, most significant byte first. -/
def sized (size value : Nat) : List Byte :=
  match size with
  | 1 => [BitVec.ofNat 8 value]
  | 2 => be16 (BitVec.ofNat 16 value)
  | 3 => be24 (BitVec.ofNat 24 value)
  | _ => be32 (BitVec.ofNat 32 value)

/-- Fields of a size and a value each, one after another. -/
def fields (l : List (Nat × Nat)) : List Byte := l.flatMap (fun f => sized f.1 f.2)

/-- Counters, 2 bytes each. -/
def counts (l : List Counter) : List (Nat × Nat) := l.map (fun x => (2, x.toNat))

/-- A flag in one byte (log entry 10). -/
def bit (b : Bool) : Nat × Nat := (1, if b then 1 else 0)

/-- R185: an optional part behind its presence byte; n bytes of 0 where it is absent. -/
def ifPresent (n : Nat) : Option (List (Nat × Nat)) → List (Nat × Nat)
  | some l => (1, 1) :: l
  | none => List.replicate (n + 1) (1, 0)

/-- A context choice: the context's number, or 255 for none. -/
def choice (k : Option Ctx) : Nat × Nat := (1, match k with
  | some x => x.val
  | none => 255)

/-- A timecode: hours, minutes, seconds and picture. -/
def timecodeFields (t : Timecode) : List (Nat × Nat) :=
  [(1, t.hours), (1, t.minutes), (1, t.seconds), (1, t.picture)]

/-- The clips' states by their codes (R158, R188). -/
def clipStateCode : ClipState → Nat
  | .opened => 1
  | .closed => 2
  | .queued => 3
  | .awaiting => 4
  | .labelled => 5
  | .delivered => 6
  | .void => 7

/-- R173, R188: the fields of an entry that is not FREE (log entry 9). -/
def clipFields (i : Nat) (x : Clip) : List (Nat × Nat) :=
  [(1, clipStateCode x.state), (1, i), (2, x.id.toNat), (1, x.sourceUnit.val), (1, x.ctx.val),
    (2, x.inPicture.toNat)] ++ timecodeFields x.inTimecode
    ++ ifPresent 2 (x.outPicture.map (fun p => [(2, p.toNat)])) ++ ifPresent 4 (x.outTimecode.map timecodeFields)
    ++ [(1, x.text.length)] ++ x.text.map (fun b => (1, b.toNat))
    ++ [(1, x.rating), (2, x.version.toNat),
        (1, (if x.auto then 1 else 0) + (if x.gap then 2 else 0) + (if x.empty then 4 else 0)
          + (if x.labelLost then 8 else 0))]
    ++ ifPresent 2 (x.parent.map (fun p => [(2, p.toNat)])) ++ ifPresent 1 (x.done.map (fun d => [bit d]))

/-- R155: the 23 bytes of an entry of the send-event log: of a picture, or of a label. -/
def logFields : LogEntry → List (Nat × Nat)
  | .picture o p q ms sends =>
    let reason : Option ShedReason := match o with
      | .shed r => some r
      | _ => none
    [(1, match o with
      | .delivered => 0
      | .shed _ => 1
      | .lost => 2), (1, p.ctx.val), (2, p.number.toNat), (1, p.marker.toNat)] ++ timecodeFields p.timecode
      ++ [bit p.damaged] ++ ifPresent 1 (q.map (fun x => [(1, x)])) ++ [(4, ms.toNat), (1, sends)]
      ++ ifPresent 1 (reason.map (fun r => [(1, match r with
        | .overrun => 0
        | .stopped => 1
        | .reservoir => 2
        | .queueFull => 3
        | .late => 4)])) ++ List.replicate 4 (1, 0)
  | .label delivered i id version tc ms sends =>
    [(1, if delivered then 3 else 4)] ++ List.replicate 4 (1, 0) ++ timecodeFields tc ++ List.replicate 3 (1, 0)
      ++ [(4, ms.toNat), (1, sends)] ++ List.replicate 2 (1, 0) ++ [(1, i), (2, id.toNat), (1, version.toNat)]

/-- R12, R24, R39, R55: the fields of blocks 0 to 5: a lane, the output lane, the timebase, steering, a context and the
engine. -/
def statusLow (block index : Nat) (c : Chip) : List (Nat × Nat) :=
  match block with
  | 0 => match c.lanes[index]? with
    | some l => counts [l.accepted, l.checkErrors, l.foreign, l.malformed]
    | none => []
  | 1 => [(1, outCount c.out), (1, c.out.hold.length)] ++ counts [c.out.auxSent, c.out.tallySent,
      c.out.reportsSent, c.out.auxDrops, c.out.tallyReplaced]
  | 2 => [(1, match c.time.state with
      | .freeRun => 0
      | .locked => 1)] ++ timecodeFields c.time.timecode ++ [(1, rateHz c.time.rate), (4, c.time.ms.toNat)]
      ++ counts [c.time.refsTaken, c.time.rateMismatches, c.time.invalidRefs, c.time.refLosses, c.time.jumps]
  | 3 => [(1, c.steer.activeBank.val), bit c.steer.pendingSwap, (1, match c.steer.default with
      | .discard => 0
      | .pass => 1)]
      ++ ifPresent 9 (c.steer.lastNote.map (fun n =>
        [(1, n.entry.val), (2, n.stream.toNat), (2, n.lane.val)] ++ timecodeFields n.timecode))
      ++ counts [c.steer.decisions, c.steer.noMatch, c.steer.kindMismatch, c.steer.discards, c.steer.notes,
        c.steer.swaps]
  | 4 => match c.ctx[index]?, c.rate[index]? with
    | some x, some r => [(1, match x.state with
        | .stopped => 0
        | .starting => 1
        | .running => 2
        | .draining => 3)]
        ++ ifPresent 7 (x.gathering.map (fun g => [(2, g.picture.number.toNat), bit g.picture.damaged,
          (2, g.lane.val), (2, g.stream.toNat)]))
        ++ ifPresent 3 (x.ready.map (fun y => [(2, y.picture.number.toNat), bit y.picture.damaged]))
        ++ [(2, x.nextNumber.toNat), (1, r.settings.marker.toNat)]
        ++ counts [x.slices, x.notRunning, x.orphans, x.completed, x.damagedPictures, x.staleGathers, x.overruns]
    | _, _ => []
  | _ => [bit c.engine.op.isSome]
      ++ ifPresent 3 (c.engine.op.map (fun o => [(1, o.picture.ctx.val), (2, o.picture.number.toNat)]))
      ++ [(1, c.engine.pointer.val)]
      ++ counts [c.engine.grants, c.engine.programmeGrants, c.engine.completions, c.engine.abandoned]

/-- R76, R98, R110: the fields of blocks 6 to 10: the budget divider, a context at the rate controller, a mixer input, the
mixer and the programme selector. -/
def statusMiddle (block index : Nat) (c : Chip) : List (Nat × Nat) :=
  match block with
  | 6 => [(4, c.budget.capacity), (4, c.budget.bytes), (2, c.budget.audio), (2, c.budget.label)]
      ++ allCtx.flatMap (fun k => [(4, c.budget.minimums[k]), (4, c.budget.targets[k])])
      ++ [(4, c.budget.idle), (2, c.budget.reserve)] ++ counts [c.budget.shortfalls]
  | 7 => match c.rate[index]? with
    | some r => [(4, r.target), (4, r.size), (4, r.fill), (1, r.q), (1, r.settings.weight), (4, r.settings.minimum),
        (1, r.settings.boost), (1, r.settings.bias), (1, r.settings.slew), (1, r.settings.marker.toNat),
        (2, r.settings.latency), (1, match r.settings.logMode with
          | .none => 0
          | .trouble => 1
          | .all => 2), (1, r.shape.depth), (1, r.shape.qMin), (1, r.shape.qMax), (1, r.shape.qStart)]
        ++ r.curve.toList.map (fun e => (1, e)) ++ counts [r.accepted, r.reservoirSheds, r.queueFullSheds]
    | none => []
  | 8 => match c.mixer.inputs[index]? with
    | some x => [bit x.active, (1, x.buffer.length), (1, x.underrunRun), (1, x.fader.index), (1, x.fader.target),
        (1, x.fader.start), (1, x.fader.step)] ++ x.sends.toList.map (fun n => (1, n))
        ++ ifPresent 3 (x.link.map (fun l => [(1, l.ctx.val), (1, l.onIndex), (1, l.offIndex)]))
        ++ counts [x.blocksTaken, x.lengthErrors, x.overruns, x.underruns, x.inputClips, x.sendClips]
    | none => []
  | 9 =>
    let bus (b : BusNo) : List (Nat × Nat) := [(1, c.mixer.buses[b].master), bit c.mixer.buses[b].mute]
    bus 0 ++ bus 1 ++ bus 2 ++ [(2, c.mixer.auxAStream.toNat)] ++ bus 3 ++ [(2, c.mixer.auxBStream.toNat)]
      ++ [bit c.mixer.audioSend, (2, c.mixer.blockCounter)] ++ counts (c.mixer.buses.toList.map (fun b => b.clips))
      ++ counts [c.mixer.framesFormed, c.mixer.framesDiscarded, c.mixer.inputsLost]
  | _ => [choice c.sel.programme, choice c.sel.preset]
      ++ (match c.sel.pendingOp with
        | .none => [(1, 0), (1, 0), (1, 255)]
        | .swap lost => [(1, 1), bit lost, (1, 255)]
        | .cut k => [(1, 2), (1, 0), choice k])
      ++ ifPresent 1 (c.sel.pendingPreset.map (fun k => [choice k]))
      ++ c.sel.tallyStream.toList.map (fun t => (2, t.toNat))
      ++ counts [c.sel.applied, c.sel.degraded, c.sel.programmeStops, c.sel.refusedGlobals, c.sel.tallyOffered]

/-- R127, R146, R156, R173, R183: the fields of blocks 11 to 15: the link controller, the frame scheduler, delivery
accounting, the clip log and the control port. -/
def statusHigh (block : Nat) (c : Chip) : List (Nat × Nat) :=
  match block with
  | 11 =>
    let l := c.link
    let planning : Nat := if l.state = .down ∨ l.state = .lost then 500 else l.capacity
    let rate : Nat := if l.state = .up ∨ l.state = .draining then l.capacity
      else if l.state = .lost then 500 else 0
    [(1, match l.state with
      | .down => 0
      | .hailing => 1
      | .up => 2
      | .lost => 3
      | .draining => 4
      | .held => 5)]
      ++ ifPresent 3 (l.phase.map (fun p => [(2, l.attempt), (1, match p with
        | .window => 0
        | .gap => 1)]))
      ++ [(4, l.capacity), (4, planning), (4, rate), (4, l.credit), bit l.answerWindow.isSome, bit l.retryGap.isSome,
        bit l.silence.isSome, bit l.drainLimit.isSome, (2, l.settings.identity.toNat), (2, l.settings.answerWindow),
        (2, l.settings.retryGap), (2, l.settings.silence), (2, l.settings.ackWindow)]
      ++ counts [l.stateChanges, l.hailAttempts, l.hailsFailed, l.validMessages, l.checkErrors, l.malformed,
        l.identityMismatches, l.strayMessages, l.capacityMessages, l.capacityClamps, l.silenceExpiries,
        l.drainsCompleted, l.drainsCutShort, l.audioDiscarded]
  | 12 =>
    let s := c.sched
    let head (k : Ctx) : Option Queued := s.videoQueue[k].find? (fun q => 0 < q.fragments - q.sent - q.withdrawn)
    [(1, s.audioQueue.length), (1, s.labelQueue.length), (1, s.passQueue.length)]
      ++ allCtx.flatMap (fun k => [(4, s.allowance[k]), (1, s.videoQueue[k].length)]
        ++ ifPresent 4 ((head k).map (fun q => [(2, q.picture.number.toNat), (2, q.sent)])))
      ++ [(1, s.pointer.val), (1, s.awaiting.length), (1, s.resend.length), (3, s.nextFrame.toNat)]
      ++ counts [s.audioSent, s.labelSent, s.videoSent, s.passSent, s.resends, s.audioDrops, s.labelQueueFull,
        s.passDrops, s.matchedAcks, s.strayAcks, s.resendsScheduled, s.entriesLost, s.fragmentsWithdrawn]
  | 13 => c.acct.lowWater.toList.map (fun n => (2, n.toNat)) ++ [(1, c.acct.log.length)]
      ++ c.acct.outcomes.toList.flatMap (fun o => counts [o.delivered, o.shed, o.late, o.lost])
      ++ counts [c.acct.entriesWritten, c.acct.logFullRefusals]
  | 14 =>
    let l := c.clips
    [(1, l.write), (1, l.fence), (1, l.stack.length)]
      ++ (l.stack.reverse.map (fun i => (1, i)) ++ List.replicate 4 (1, 0)).take 4
      ++ [(2, l.nextId.toNat), bit l.autoSend] ++ l.autoClip.toList.map bit
      ++ counts [l.opened, l.autoOpened, l.autoSkipped, l.closed, l.emptyClips, l.labelsLost, l.delivered,
        l.gapMarks, l.voided]
  | _ =>
    let p := c.port
    [(1, match p.mode with
      | .standby => 0
      | .run => 1), (1, c.unit.val), (1, p.report.length), (2, p.attention.toNat), (2, p.enables.toNat)]
      ++ counts [p.malformed, p.otherUnit, p.globalsTaken, p.allIgnored, p.queueFullDiscards, p.answered,
        p.noticesQueued, p.noticesDropped]

end Sys2Proof.Claims

/-- R155: READ_LOG in either mode. An empty log is refused REFUSED_EMPTY. Otherwise the answer holds the count and
four places of 23 bytes, with up to four of the oldest entries and zeros behind them; those entries leave the log,
and the ones behind them move up.

R173, R181: READ_CLIP and READ_STATUS, in either mode, change nothing but the answer's own place. A clip index
above 127 is refused; a FREE entry is answered with its state byte 0 alone, and any other with every field of R158 in
order. A status block above 15, or an index out of the range of a block that has one (lanes 0 to 7, contexts 0 to 5,
inputs 0 to 15), is refused; every other block answers DONE with the state and the counters that its own rule lists
(R12, R24, R39, R55, R76, R98, R110, R127, R146, R156, R173, R183). (Log entries 9 and 10 hold the order and the sizes
that the model reads from R185 and R188: they are the model's choice.) -/
def Obligations.ReadingTheLogClipsAndStatus : Prop :=
  (∀ (tag : Byte) (s : State), HasRoom s →
      (s.chip.acct.log = [] → Refuses (.readLog tag) s tag .readLog .refusedEmpty) ∧
      (s.chip.acct.log ≠ [] → ∃ places : List Byte,
        Answers (.readLog tag) s tag .readLog .done (BitVec.ofNat 8 (min 4 s.chip.acct.log.length) :: places)
          (fun c => { c with acct := { c.acct with log := c.acct.log.drop 4 } }) ∧
        places.length = 92 ∧
        (∀ j, j < 4 → (places.drop (23 * j)).take 23 = match s.chip.acct.log[j]? with
          | some e => fields (logFields e)
          | none => List.replicate 23 0#8))) ∧
  (∀ (tag index block : Byte) (s : State), HasRoom s →
      (127 < index.toNat → Refuses (.readClip tag index) s tag .readClip .refusedRange) ∧
      (∀ i : Fin 128, i.val = index.toNat →
        ∃ data, Answers (.readClip tag index) s tag .readClip .done data id ∧
          (s.chip.clips.table[i] = none → data = [0#8]) ∧
          (∀ x, s.chip.clips.table[i] = some x → data = fields (clipFields i.val x))) ∧
      (let inRange : Prop := block.toNat ≤ 15 ∧ (block.toNat = 0 → index.toNat ≤ 7) ∧
          (block.toNat = 4 ∨ block.toNat = 7 → index.toNat ≤ 5) ∧ (block.toNat = 8 → index.toNat ≤ 15)
       (¬inRange → Refuses (.readStatus tag block index) s tag .readStatus .refusedRange) ∧
       (inRange → Answers (.readStatus tag block index) s tag .readStatus .done
         (fields (if block.toNat ≤ 5 then statusLow block.toNat index.toNat s.chip
           else if block.toNat ≤ 10 then statusMiddle block.toNat index.toNat s.chip
           else statusHigh block.toNat s.chip)) id)))

/-! ## Clip log -/

/-- R159, R161: MARK_IN. It is refused in STANDBY; for a context above 5 or a text of more than 32 characters; when
128 clips stand or four are open; and for a context that is not RUNNING. Otherwise a clip is opened at W with the
next clip id, its in picture the gathering record's number or else the next number, its parent the clip on top of
the stack, and its rating at most 5; its index goes onto the stack and is answered with its id.

R162: MARK_OUT. It is refused in STANDBY and with an empty stack. Otherwise the clip on top of the stack is popped
and closed: its out picture is the last number its context has assigned and its out timecode the current one; it is
EMPTY where that number is serially before its in picture, and its pictures are done where it is EMPTY or its out
picture is serially before the low-water number; auto-send then offers its label frame. The answer holds its index
and whether it is EMPTY. (The model's choices: that in one byte, 1 or 0, log entry 33; the out picture the last number
assigned for an EMPTY clip too, log entry 38.) -/
def Obligations.MarkInOpensAndMarkOutCloses : Prop :=
  (∀ (tag ctx rating : Byte) (text : List Byte) (s : State), HasRoom s →
      let mark := Instr.markIn tag ctx text rating
      let l := s.chip.clips
      let full : Prop := 128 ≤ l.write ∨ 4 ≤ l.stack.length
      (s.chip.port.mode = .standby → Refuses mark s tag .markIn .refusedState) ∧
      (s.chip.port.mode = .run → 5 < ctx.toNat ∨ 32 < text.length → Refuses mark s tag .markIn .refusedRange) ∧
      (s.chip.port.mode = .run → ctx.toNat ≤ 5 → text.length ≤ 32 → full →
        Refuses mark s tag .markIn .refusedFull) ∧
      (s.chip.port.mode = .run → text.length ≤ 32 → ¬full → ∀ k : Ctx, k.val = ctx.toNat →
        (s.chip.ctx[k].state ≠ .running → Refuses mark s tag .markIn .refusedState) ∧
        (s.chip.ctx[k].state = .running →
          Answers mark s tag .markIn (doneIf (5 < rating.toNat)) ([BitVec.ofNat 8 l.write] ++ be16 l.nextId)
            (fun c => clipOpened k text (within 0 5 rating.toNat) false { c with clips := { c.clips with
              opened := bump c.clips.opened } })))) ∧
  (∀ (tag : Byte) (s : State), HasRoom s →
      (s.chip.port.mode = .standby → Refuses (.markOut tag) s tag .markOut .refusedState) ∧
      (s.chip.port.mode = .run → s.chip.clips.stack = [] → Refuses (.markOut tag) s tag .markOut .refusedEmpty) ∧
      (∀ (i : Fin 128) (rest : List Nat) (x : Clip), s.chip.port.mode = .run → s.chip.clips.stack = i.val :: rest →
        s.chip.clips.table[i] = some x →
        Answers (.markOut tag) s tag .markOut .done
          [BitVec.ofNat 8 i.val, if (closedNow s.chip x).empty then 1#8 else 0#8] (clipClosed i.val rest x)))

/-- R163, R171, R172: SET_CLIP_MODE stores seven OFF or ON choices, and refuses them together where one is neither.
SET_FENCE refuses a position above 128, below the fence or above W, or with an entry below it that is neither
DELIVERED nor VOID, and otherwise moves the fence there. CLEAR_CLIPS is refused while a clip is OPEN, QUEUED or
AWAITING, and otherwise makes every entry FREE with W and the fence 0. All are taken in either mode. -/
def Obligations.ClipModeFenceAndClear : Prop :=
  ∀ (tag auto position : Byte) (choices : Vector Byte 6) (s : State), HasRoom s →
    let l := s.chip.clips
    let settled : Prop := ∀ i : Fin 128, i.val < position.toNat →
      ∃ x, l.table[i] = some x ∧ (x.state = .delivered ∨ x.state = .void)
    let busy : Prop := ∃ i : Fin 128, ∃ x, l.table[i] = some x ∧
      (x.state = .opened ∨ x.state = .queued ∨ x.state = .awaiting)
    (auto.toNat ≤ 1 → (∀ k : Ctx, choices[k].toNat ≤ 1) →
      Answers (.setClipMode tag auto choices) s tag .setClipMode .done []
        (fun c => { c with clips := { c.clips with
          autoSend := decide (auto.toNat = 1),
          autoClip := Vector.ofFn (fun k : Ctx => decide (choices[k].toNat = 1)) } })) ∧
    (1 < auto.toNat ∨ (∃ k : Ctx, 1 < choices[k].toNat) →
      Refuses (.setClipMode tag auto choices) s tag .setClipMode .refusedRange) ∧
    (128 < position.toNat → Refuses (.setFence tag position) s tag .setFence .refusedRange) ∧
    (position.toNat ≤ 128 → position.toNat < l.fence ∨ l.write < position.toNat ∨ ¬settled →
      Refuses (.setFence tag position) s tag .setFence .refusedState) ∧
    (l.fence ≤ position.toNat → position.toNat ≤ l.write → position.toNat ≤ 128 → settled →
      Answers (.setFence tag position) s tag .setFence .done []
        (fun c => { c with clips := { c.clips with fence := position.toNat } })) ∧
    (busy → Refuses (.clearClips tag) s tag .clearClips .refusedState) ∧
    (¬busy → Answers (.clearClips tag) s tag .clearClips .done []
      (fun c => { c with clips := { c.clips with table := Vector.replicate 128 none, write := 0, fence := 0 } }))

/-- R165: LABEL, in either mode. An index above 127 and a text of more than 32 characters are refused REFUSED_RANGE,
an index below the fence REFUSED_FENCED, a FREE or VOID entry REFUSED_STATE and an AWAITING clip REFUSED_BUSY. An
OPEN clip and a CLOSED one take the text and the rating; a QUEUED one also has its queued frame replaced in place. A
LABELLED or DELIVERED clip has its version raised and becomes CLOSED, and auto-send offers its frame. With LABEL_LOST
a CLOSED or QUEUED clip has its version raised and the flag cleared. A version of 255 that would be raised refuses
the command REFUSED_STATE. -/
def Obligations.LabelIsTakenByTheClipsState : Prop :=
  ∀ (tag index rating : Byte) (text : List Byte) (s : State), HasRoom s →
    let command := Instr.label tag index text rating
    (127 < index.toNat ∨ 32 < text.length → Refuses command s tag .label .refusedRange) ∧
    (∀ i : Fin 128, i.val = index.toNat → text.length ≤ 32 →
      (i.val < s.chip.clips.fence → Refuses command s tag .label .refusedFenced) ∧
      (s.chip.clips.fence ≤ i.val → s.chip.clips.table[i] = none → Refuses command s tag .label .refusedState) ∧
      (s.chip.clips.fence ≤ i.val → ∀ x, s.chip.clips.table[i] = some x →
        let edited : Clip := { x with text := text, rating := within 0 5 rating.toNat }
        let raised : Clip := { edited with version := x.version + 1, labelLost := false }
        let reopened : Clip := { edited with version := x.version + 1, state := .closed }
        let raises : Bool := (x.labelLost && decide (x.state = .closed ∨ x.state = .queued))
          || decide (x.state = .labelled ∨ x.state = .delivered)
        let kept : Clip := if x.labelLost then raised else edited
        let done (f : Chip → Chip) : Prop :=
          Answers command s tag .label (doneIf (5 < rating.toNat)) [] f
        (x.state = .void → Refuses command s tag .label .refusedState) ∧
        (x.state = .awaiting → Refuses command s tag .label .refusedBusy) ∧
        (raises = true → x.version = 255 → Refuses command s tag .label .refusedState) ∧
        (x.state = .opened → done (written i.val edited)) ∧
        (x.state = .closed → ¬(raises = true ∧ x.version = 255) → done (written i.val kept)) ∧
        (x.state = .queued → ¬(raises = true ∧ x.version = 255) → done (fun c => { written i.val kept c with
          sched := { c.sched with labelQueue := c.sched.labelQueue.map (fun f =>
            if f.clip = i.val then ⟨i.val, kept.version, kept.ctx, labelPayload i.val kept⟩ else f) } })) ∧
        (x.state = .labelled ∨ x.state = .delivered → x.version ≠ 255 →
          done (fun c => autoOffered i.val reopened (written i.val reopened c)))))

/-- R166, R170: SEND_LABEL and VOID_CLIP, in either mode. An index above 127 is refused REFUSED_RANGE and one below the
fence REFUSED_FENCED. SEND_LABEL offers the label frame of a CLOSED clip, refused REFUSED_FULL where the label queue
is full, and refuses QUEUED and AWAITING clips REFUSED_BUSY and any other entry REFUSED_STATE. VOID_CLIP makes a
CLOSED, LABELLED, DELIVERED or QUEUED clip VOID, a QUEUED one's frame leaving the label queue, and refuses AWAITING
REFUSED_BUSY and OPEN, VOID and FREE REFUSED_STATE. (That a SEND_LABEL refused REFUSED_FULL still raises the
label-queue-full counter, though R176 has a refused command change no state, is the model's choice: log entry 17.) -/
def Obligations.SendLabelAndVoidClip : Prop :=
  ∀ (tag index : Byte) (s : State), HasRoom s →
    let send := Instr.sendLabel tag index
    let void := Instr.voidClip tag index
    (127 < index.toNat → Refuses send s tag .sendLabel .refusedRange ∧ Refuses void s tag .voidClip .refusedRange) ∧
    (∀ i : Fin 128, i.val = index.toNat →
      (i.val < s.chip.clips.fence →
        Refuses send s tag .sendLabel .refusedFenced ∧ Refuses void s tag .voidClip .refusedFenced) ∧
      (s.chip.clips.fence ≤ i.val → s.chip.clips.table[i] = none →
        Refuses send s tag .sendLabel .refusedState ∧ Refuses void s tag .voidClip .refusedState) ∧
      (s.chip.clips.fence ≤ i.val → ∀ x, s.chip.clips.table[i] = some x →
        let voided (c : Chip) : Chip := written i.val { x with state := .void }
          { c with clips := { c.clips with voided := bump c.clips.voided } }
        (x.state = .closed → Answers send s tag .sendLabel
          (if s.chip.sched.labelQueue.length < 16 then .done else .refusedFull) [] (labelOffered i.val x)) ∧
        (x.state = .queued ∨ x.state = .awaiting → Refuses send s tag .sendLabel .refusedBusy) ∧
        (x.state ∈ [ClipState.opened, .labelled, .delivered, .void] → Refuses send s tag .sendLabel .refusedState) ∧
        (x.state ∈ [ClipState.closed, .labelled, .delivered] → Answers void s tag .voidClip .done [] voided) ∧
        (x.state = .queued → Answers void s tag .voidClip .done [] (fun c => voided { c with
          sched := { c.sched with labelQueue := c.sched.labelQueue.filter (fun f => f.clip != i.val) } })) ∧
        (x.state = .awaiting → Refuses void s tag .voidClip .refusedBusy) ∧
        (x.state = .opened ∨ x.state = .void → Refuses void s tag .voidClip .refusedState)))

/-! ## What every step keeps -/

/-- The part right after power-on reset meets every condition of Safety.lean. -/
def Obligations.ResetIsSafe : Prop := Safe State.reset

/-- R13, R15, R20, R59: every step keeps the timecode in range with the expected-boundary timer at its state's
length, and the shares, targets and idle bytes of the period making up its bytes. R26, R34: it keeps the operands of
both banks within 0 to 4095.

R65, R70, R72 to R74: every step keeps 0 ≤ F ≤ R, 1 ≤ q_min ≤ q ≤ q_max ≤ 96 and every setting of every context in
its range.

R78, R79, R88, R90, R92 to R94: every step keeps each fader's index between its ramp start and its target, each
input's buffer within four blocks and empty while it is IDLE, and the frame being built as long as the block counter
says. -/
def Obligations.StepsKeepTimeRatesAndMixer : Prop :=
  ∀ s t : State, step s = .next t →
    (TimeOk s.chip → TimeOk t.chip) ∧ (BanksOk s.chip → BanksOk t.chip) ∧ (BudgetOk s.chip → BudgetOk t.chip) ∧
      (RatesOk s.chip → RatesOk t.chip) ∧ (MixerOk s.chip → MixerOk t.chip)

/-- R2, R10, R11, R175, R184: every step keeps the output lane's and the report queue's bounds, with the report queue
and the tally hold holding anything only while the output queue is full, and no place held between commands; it
keeps every waiting cell within 240 payload bytes, and every cell put on FO readable by a receiver with this unit's
number in it. R9, R10, R96: it keeps answers and notices alone in the report queue, each context's own tally cell in
its place of the tally hold, and dropped cells recorded before cells of the AUX buses alone (log entry 32, the model's
choice). -/
def Obligations.StepsKeepTheOutputLane : Prop :=
  ∀ s t : State, step s = .next t →
    (OutOk s.chip → NoPlaceHeld s.chip → OutOk t.chip ∧ NoPlaceHeld t.chip) ∧
      (CellsFit s.chip → SentCellsRead s.chip → CellsFit t.chip ∧ SentCellsRead t.chip) ∧
      (SourcesOk s.chip → SourcesOk t.chip)

/-- R41, R45, R51, R53, R59, R104, R106, R178: every step keeps what the states of the contexts say of their records
and rates, an operation in the engine only of a RUNNING context, no record ready beside an idle engine, a programme
context that is RUNNING, and in STANDBY the link DOWN with every context STOPPED. -/
def Obligations.StepsKeepContextsAndProgramme : Prop :=
  ∀ s t : State, step s = .next t → PicturesOk s.chip → StandbyOk s.chip → PicturesOk t.chip ∧ StandbyOk t.chip

/-- R112 to R126, R132, R134, R137 to R139, R141: every step keeps each link state's phase, attempt, timers and
credit, the settings in their ranges, the lists empty in the states that send nothing, the bounds of the queues and
lists, and each allowance within twice its target. -/
def Obligations.StepsKeepLinkAndScheduler : Prop :=
  ∀ s t : State, step s = .next t →
    (LinkOk s.chip → LinkOk t.chip) ∧ (SchedOk s.chip → SchedOk t.chip)

/-- R138, R158 to R160, R167, R171: every step keeps the clip table, the mark stack and the fence in order, each
clip's fields as its state says, and one frame in the label queue for each QUEUED clip and one entry in the lists for
each AWAITING clip. -/
def Obligations.StepsKeepClipsAndLabels : Prop :=
  ∀ s t : State, step s = .next t → ClipsOk s.chip → LabelsOk s.chip → ClipsOk t.chip ∧ LabelsOk t.chip

/-- R171: the commit fence never falls but to 0, and a clip below it is DELIVERED or VOID and does not change: after
any step either every entry below the old fence is as it was and the fence no lower, or the table is cleared. -/
def Obligations.FencedClipsNeverChange : Prop :=
  ∀ s t : State, step s = .next t → ClipsOk s.chip →
    (s.chip.clips.fence ≤ t.chip.clips.fence ∧
        ∀ i : Fin 128, i.val < s.chip.clips.fence → t.chip.clips.table[i] = s.chip.clips.table[i]) ∨
      (t.chip.clips.fence = 0 ∧ t.chip.clips.write = 0 ∧ ∀ i : Fin 128, t.chip.clips.table[i] = none)

/-- R112, R178: a part in STANDBY with its link DOWN hands nothing to HT at any step, whatever arrives, and after it
the link is DOWN still. (At power-on reset the model's record of HT is emptied.) -/
def Obligations.StandbySendsNothingHome : Prop :=
  ∀ s t : State, step s = .next t → s.chip.port.mode = .standby → StandbyOk s.chip → LinkTimersOk s.chip.link →
    (t.chip.ht = s.chip.ht ∨ t.chip.ht = []) ∧ t.chip.link.state = .down

/-! ## What a selection sends -/

namespace Sys2Proof.Claims

open Sys2Proof.Machine

/-- Commands or events taken one after another, each in the part the one before it left. -/
def Successively : List Instr → Chip → Chip → Prop
  | [], c, d => d = c
  | i :: rest, c, d => ∃ e, Ends i ⟨c, []⟩ e ∧ Successively rest e d

/-- R131, R112: the part with the credit of one tick earned: the last-announced capacity in UP and DRAINING and 500 in
LOST, up to forty times that; in the other states none. -/
def earned (c : Chip) : Chip :=
  let rate : Nat := if c.link.state = .lost then 500 else c.link.capacity
  if c.link.state = .up ∨ c.link.state = .lost ∨ c.link.state = .draining then
    { c with link := { c.link with credit := min (c.link.credit + rate) (40 * rate) } }
  else c

/-- R130, R185, R189: the header of a frame sent for the first time, the fields absent for its kind 0. -/
def headerNow (c : Chip) (kind : Byte) : HomeHeader :=
  ⟨kind, c.unit, c.link.settings.identity, c.sched.nextFrame, 0, 0, 0, 0, 0, 0, ⟨0, 0, 0, 0⟩, 0, 0⟩

/-- R129, R189: the bytes of the home frame of what a search finds. -/
def frameOf (c : Chip) : Found → List Byte
  | .audio a => homeFrame { headerNow c 2#8 with timecode := a.timecode, ms := a.ms } a.payload
  | .resend e => e.bytes
  | .label l => homeFrame { headerNow c 3#8 with ctx := BitVec.ofNat 8 l.ctx.val } l.payload
  | .video _ q _ => homeFrame { headerNow c 1#8 with
      ctx := BitVec.ofNat 8 q.picture.ctx.val, picture := q.picture.number, fragment := q.sent,
      count := q.fragments, marker := q.picture.marker,
      flags := BitVec.ofNat 8 ((if q.picture.damaged then 1 else 0) + (if q.programme then 2 else 0)),
      timecode := q.picture.timecode, ms := q.picture.startMs } ((q.coded.drop (1368 * q.sent)).take 1368)
  | .pass x => homeFrame { headerNow c 4#8 with stream := x.stream } x.payload

/-- R136: the part once what is found has been sent: the frame is on HT and paid for, with a new frame number for a first
sending; an AUDIO frame and a pass cell are gone; a label, a fragment or a resend joins the end of the awaiting list with
its send count and its ack window started; a label's clip becomes AWAITING, a fragment is taken from the allowance and
counted in its record, and a resend only notes the highest send count. -/
def sentNow (c : Chip) (f : Found) : Chip :=
  let bytes := frameOf c f
  let paid : Chip := { c with
    ht := c.ht ++ [bytes], link := { c.link with credit := c.link.credit - 8 * bytes.length } }
  let s := { c.sched with nextFrame := c.sched.nextFrame + 1 }
  let entry (o : Origin) : Entry := ⟨c.sched.nextFrame, o, 1, some c.link.settings.ackWindow, bytes⟩
  match f with
  | .audio _ => { paid with sched := { s with audioQueue := s.audioQueue.drop 1, audioSent := bump s.audioSent } }
  | .pass _ => { paid with sched := { s with passQueue := s.passQueue.drop 1, passSent := bump s.passSent } }
  | .label l =>
    let d : Chip := { paid with sched := { s with
      labelQueue := s.labelQueue.drop 1, labelSent := bump s.labelSent,
      awaiting := s.awaiting ++ [entry (.label l.clip l.version)] } }
    match (c.clips.table[l.clip]?).join with
    | some x => if x.state = .queued then written l.clip { x with state := .awaiting } d else d
    | none => d
  | .video k q rotated => { paid with sched := { s with
      allowance := modAt s.allowance k (fun a => a - bytes.length), pointer := if rotated then k else s.pointer,
      videoSent := bump s.videoSent, awaiting := s.awaiting ++ [entry (.video k q.picture.number q.sent)],
      videoQueue := modAt s.videoQueue k (fun v => v.map (fun r =>
        if r.picture.number = q.picture.number then
          { r with sent := r.sent + 1, outstanding := r.outstanding + 1, highestSend := max r.highestSend 1 }
        else r)) } }
  | .resend e =>
    let d : Chip := { paid with sched := { c.sched with
      resend := c.sched.resend.drop 1, resends := bump c.sched.resends,
      awaiting := c.sched.awaiting ++ [{ e with sendCount := 2, timer := some c.link.settings.ackWindow }] } }
    match e.origin with
    | .label _ _ => d
    | .video k p _ =>
      match c.sched.videoQueue[k].find? (fun r => r.picture.number == p) with
      | some q => recordChanged k p (fun r => { r with highestSend := 2 }) q d
      | none => d

end Sys2Proof.Claims

/-- R131, R133: at a block tick the scheduler earns credit, takes the ack windows that fall at it, applies the deadlines
and then selects. R23, R143: every awaiting entry's ack window counts the tick, so that one started at N ends at the Nth,
and those that end at this tick expire, in the order of the list, as ACK_WINDOW_EXPIRY of their frames does. R23, R145:
every queued picture that is not late and whose deadline is serially before the ms counter becomes late, context by
context from C0 to C5 and each queue oldest first, as PICTURE_DEADLINE does. R134: a selection goes on as long as a frame is found and the credit covers 8 bits for each byte of it:
with none found, or one found that is not covered, or a link that does not send, it ends. R130, R136, R141: each frame
found and covered is sent (sentNow): its bytes go to HT, its cost leaves the credit, and a fragment, a label or a resend
joins the awaiting list with its frame number and its ack window started at the setting. -/
def Obligations.SelectionSendsWhatItFinds : Prop :=
  ∀ c : Chip,
    let sends : Prop := c.link.state = .up ∨ c.link.state = .lost ∨ c.link.state = .draining
    schedulerTick c = selectTick (applyDeadlines (expireWindows (earned c))) ∧
      (let counted : Chip := { c with sched := { c.sched with
         awaiting := c.sched.awaiting.map (fun e => { e with timer := e.timer.map (· - 1) }) } }
       let ended := c.sched.awaiting.filter (fun e => e.timer.any (fun n => decide (n ≤ 1)))
       Successively (ended.map (fun e => .ackWindowExpiry e.frame)) counted (expireWindows c)) ∧
      (let passed (q : Queued) : Bool :=
         let past := (c.time.ms - q.deadline).toNat
         !q.late && decide (0 < past ∧ past < 2 ^ 31)
       Successively (allCtx.flatMap (fun k => (c.sched.videoQueue[k].filter passed).map
         (fun q => .pictureDeadline k q.picture.number))) c (applyDeadlines c)) ∧
      (¬sends → selectTick c = c) ∧
      (findFrame c = none → selectTick c = c) ∧
      (∀ f, findFrame c = some f → c.link.credit < 8 * (frameOf c f).length → selectTick c = c) ∧
      (∀ f, sends → findFrame c = some f → 8 * (frameOf c f).length ≤ c.link.credit →
        selectTick c = selectTick (sentNow c f))
end

