-- ==== Sys2Proof/Laws/State.lean ====
section
/-! SUPPORT. What each field of the part is after each basic update: one lemma a field, true by rfl, so that no later
proof unfolds a record update. -/

namespace Sys2Proof.Machine

/-! ## modCtx -/

@[simp] theorem modCtx_unit (k : Ctx) (f : Context → Context) (c : Chip) : (modCtx k f c).unit = c.unit := rfl
@[simp] theorem modCtx_lanes (k : Ctx) (f : Context → Context) (c : Chip) : (modCtx k f c).lanes = c.lanes := rfl
@[simp] theorem modCtx_out (k : Ctx) (f : Context → Context) (c : Chip) : (modCtx k f c).out = c.out := rfl
@[simp] theorem modCtx_fo (k : Ctx) (f : Context → Context) (c : Chip) : (modCtx k f c).fo = c.fo := rfl
@[simp] theorem modCtx_ht (k : Ctx) (f : Context → Context) (c : Chip) : (modCtx k f c).ht = c.ht := rfl
@[simp] theorem modCtx_time (k : Ctx) (f : Context → Context) (c : Chip) : (modCtx k f c).time = c.time := rfl
@[simp] theorem modCtx_steer (k : Ctx) (f : Context → Context) (c : Chip) : (modCtx k f c).steer = c.steer := rfl
@[simp] theorem modCtx_ctx (k : Ctx) (f : Context → Context) (c : Chip) : (modCtx k f c).ctx = modAt c.ctx k f := rfl
@[simp] theorem modCtx_engine (k : Ctx) (f : Context → Context) (c : Chip) : (modCtx k f c).engine = c.engine := rfl
@[simp] theorem modCtx_rate (k : Ctx) (f : Context → Context) (c : Chip) : (modCtx k f c).rate = c.rate := rfl
@[simp] theorem modCtx_budget (k : Ctx) (f : Context → Context) (c : Chip) : (modCtx k f c).budget = c.budget := rfl
@[simp] theorem modCtx_mixer (k : Ctx) (f : Context → Context) (c : Chip) : (modCtx k f c).mixer = c.mixer := rfl
@[simp] theorem modCtx_sel (k : Ctx) (f : Context → Context) (c : Chip) : (modCtx k f c).sel = c.sel := rfl
@[simp] theorem modCtx_link (k : Ctx) (f : Context → Context) (c : Chip) : (modCtx k f c).link = c.link := rfl
@[simp] theorem modCtx_sched (k : Ctx) (f : Context → Context) (c : Chip) : (modCtx k f c).sched = c.sched := rfl
@[simp] theorem modCtx_acct (k : Ctx) (f : Context → Context) (c : Chip) : (modCtx k f c).acct = c.acct := rfl
@[simp] theorem modCtx_clips (k : Ctx) (f : Context → Context) (c : Chip) : (modCtx k f c).clips = c.clips := rfl
@[simp] theorem modCtx_port (k : Ctx) (f : Context → Context) (c : Chip) : (modCtx k f c).port = c.port := rfl
@[simp] theorem modCtx_choices (k : Ctx) (f : Context → Context) (c : Chip) : (modCtx k f c).choices = c.choices := rfl

/-! ## modRate -/

@[simp] theorem modRate_unit (k : Ctx) (f : RateState → RateState) (c : Chip) : (modRate k f c).unit = c.unit := rfl
@[simp] theorem modRate_lanes (k : Ctx) (f : RateState → RateState) (c : Chip) : (modRate k f c).lanes = c.lanes := rfl
@[simp] theorem modRate_out (k : Ctx) (f : RateState → RateState) (c : Chip) : (modRate k f c).out = c.out := rfl
@[simp] theorem modRate_fo (k : Ctx) (f : RateState → RateState) (c : Chip) : (modRate k f c).fo = c.fo := rfl
@[simp] theorem modRate_ht (k : Ctx) (f : RateState → RateState) (c : Chip) : (modRate k f c).ht = c.ht := rfl
@[simp] theorem modRate_time (k : Ctx) (f : RateState → RateState) (c : Chip) : (modRate k f c).time = c.time := rfl
@[simp] theorem modRate_steer (k : Ctx) (f : RateState → RateState) (c : Chip) : (modRate k f c).steer = c.steer := rfl
@[simp] theorem modRate_ctx (k : Ctx) (f : RateState → RateState) (c : Chip) : (modRate k f c).ctx = c.ctx := rfl
@[simp] theorem modRate_engine (k : Ctx) (f : RateState → RateState) (c : Chip) : (modRate k f c).engine = c.engine := rfl
@[simp] theorem modRate_rate (k : Ctx) (f : RateState → RateState) (c : Chip) : (modRate k f c).rate = modAt c.rate k f := rfl
@[simp] theorem modRate_budget (k : Ctx) (f : RateState → RateState) (c : Chip) : (modRate k f c).budget = c.budget := rfl
@[simp] theorem modRate_mixer (k : Ctx) (f : RateState → RateState) (c : Chip) : (modRate k f c).mixer = c.mixer := rfl
@[simp] theorem modRate_sel (k : Ctx) (f : RateState → RateState) (c : Chip) : (modRate k f c).sel = c.sel := rfl
@[simp] theorem modRate_link (k : Ctx) (f : RateState → RateState) (c : Chip) : (modRate k f c).link = c.link := rfl
@[simp] theorem modRate_sched (k : Ctx) (f : RateState → RateState) (c : Chip) : (modRate k f c).sched = c.sched := rfl
@[simp] theorem modRate_acct (k : Ctx) (f : RateState → RateState) (c : Chip) : (modRate k f c).acct = c.acct := rfl
@[simp] theorem modRate_clips (k : Ctx) (f : RateState → RateState) (c : Chip) : (modRate k f c).clips = c.clips := rfl
@[simp] theorem modRate_port (k : Ctx) (f : RateState → RateState) (c : Chip) : (modRate k f c).port = c.port := rfl
@[simp] theorem modRate_choices (k : Ctx) (f : RateState → RateState) (c : Chip) : (modRate k f c).choices = c.choices := rfl

/-! ## modInput -/

@[simp] theorem modInput_unit (i : InputNo) (f : Input → Input) (c : Chip) : (modInput i f c).unit = c.unit := rfl
@[simp] theorem modInput_lanes (i : InputNo) (f : Input → Input) (c : Chip) : (modInput i f c).lanes = c.lanes := rfl
@[simp] theorem modInput_out (i : InputNo) (f : Input → Input) (c : Chip) : (modInput i f c).out = c.out := rfl
@[simp] theorem modInput_fo (i : InputNo) (f : Input → Input) (c : Chip) : (modInput i f c).fo = c.fo := rfl
@[simp] theorem modInput_ht (i : InputNo) (f : Input → Input) (c : Chip) : (modInput i f c).ht = c.ht := rfl
@[simp] theorem modInput_time (i : InputNo) (f : Input → Input) (c : Chip) : (modInput i f c).time = c.time := rfl
@[simp] theorem modInput_steer (i : InputNo) (f : Input → Input) (c : Chip) : (modInput i f c).steer = c.steer := rfl
@[simp] theorem modInput_ctx (i : InputNo) (f : Input → Input) (c : Chip) : (modInput i f c).ctx = c.ctx := rfl
@[simp] theorem modInput_engine (i : InputNo) (f : Input → Input) (c : Chip) : (modInput i f c).engine = c.engine := rfl
@[simp] theorem modInput_rate (i : InputNo) (f : Input → Input) (c : Chip) : (modInput i f c).rate = c.rate := rfl
@[simp] theorem modInput_budget (i : InputNo) (f : Input → Input) (c : Chip) : (modInput i f c).budget = c.budget := rfl
@[simp] theorem modInput_mixer (i : InputNo) (f : Input → Input) (c : Chip) : (modInput i f c).mixer = { c.mixer with inputs := modAt c.mixer.inputs i f } := rfl
@[simp] theorem modInput_sel (i : InputNo) (f : Input → Input) (c : Chip) : (modInput i f c).sel = c.sel := rfl
@[simp] theorem modInput_link (i : InputNo) (f : Input → Input) (c : Chip) : (modInput i f c).link = c.link := rfl
@[simp] theorem modInput_sched (i : InputNo) (f : Input → Input) (c : Chip) : (modInput i f c).sched = c.sched := rfl
@[simp] theorem modInput_acct (i : InputNo) (f : Input → Input) (c : Chip) : (modInput i f c).acct = c.acct := rfl
@[simp] theorem modInput_clips (i : InputNo) (f : Input → Input) (c : Chip) : (modInput i f c).clips = c.clips := rfl
@[simp] theorem modInput_port (i : InputNo) (f : Input → Input) (c : Chip) : (modInput i f c).port = c.port := rfl
@[simp] theorem modInput_choices (i : InputNo) (f : Input → Input) (c : Chip) : (modInput i f c).choices = c.choices := rfl

/-! ## modVideo -/

@[simp] theorem modVideo_unit (k : Ctx) (f : List Queued → List Queued) (c : Chip) : (modVideo k f c).unit = c.unit := rfl
@[simp] theorem modVideo_lanes (k : Ctx) (f : List Queued → List Queued) (c : Chip) : (modVideo k f c).lanes = c.lanes := rfl
@[simp] theorem modVideo_out (k : Ctx) (f : List Queued → List Queued) (c : Chip) : (modVideo k f c).out = c.out := rfl
@[simp] theorem modVideo_fo (k : Ctx) (f : List Queued → List Queued) (c : Chip) : (modVideo k f c).fo = c.fo := rfl
@[simp] theorem modVideo_ht (k : Ctx) (f : List Queued → List Queued) (c : Chip) : (modVideo k f c).ht = c.ht := rfl
@[simp] theorem modVideo_time (k : Ctx) (f : List Queued → List Queued) (c : Chip) : (modVideo k f c).time = c.time := rfl
@[simp] theorem modVideo_steer (k : Ctx) (f : List Queued → List Queued) (c : Chip) : (modVideo k f c).steer = c.steer := rfl
@[simp] theorem modVideo_ctx (k : Ctx) (f : List Queued → List Queued) (c : Chip) : (modVideo k f c).ctx = c.ctx := rfl
@[simp] theorem modVideo_engine (k : Ctx) (f : List Queued → List Queued) (c : Chip) : (modVideo k f c).engine = c.engine := rfl
@[simp] theorem modVideo_rate (k : Ctx) (f : List Queued → List Queued) (c : Chip) : (modVideo k f c).rate = c.rate := rfl
@[simp] theorem modVideo_budget (k : Ctx) (f : List Queued → List Queued) (c : Chip) : (modVideo k f c).budget = c.budget := rfl
@[simp] theorem modVideo_mixer (k : Ctx) (f : List Queued → List Queued) (c : Chip) : (modVideo k f c).mixer = c.mixer := rfl
@[simp] theorem modVideo_sel (k : Ctx) (f : List Queued → List Queued) (c : Chip) : (modVideo k f c).sel = c.sel := rfl
@[simp] theorem modVideo_link (k : Ctx) (f : List Queued → List Queued) (c : Chip) : (modVideo k f c).link = c.link := rfl
@[simp] theorem modVideo_sched (k : Ctx) (f : List Queued → List Queued) (c : Chip) : (modVideo k f c).sched = { c.sched with videoQueue := modAt c.sched.videoQueue k f } := rfl
@[simp] theorem modVideo_acct (k : Ctx) (f : List Queued → List Queued) (c : Chip) : (modVideo k f c).acct = c.acct := rfl
@[simp] theorem modVideo_clips (k : Ctx) (f : List Queued → List Queued) (c : Chip) : (modVideo k f c).clips = c.clips := rfl
@[simp] theorem modVideo_port (k : Ctx) (f : List Queued → List Queued) (c : Chip) : (modVideo k f c).port = c.port := rfl
@[simp] theorem modVideo_choices (k : Ctx) (f : List Queued → List Queued) (c : Chip) : (modVideo k f c).choices = c.choices := rfl

/-! ## modLink -/

@[simp] theorem modLink_unit (f : Link → Link) (c : Chip) : (modLink f c).unit = c.unit := rfl
@[simp] theorem modLink_lanes (f : Link → Link) (c : Chip) : (modLink f c).lanes = c.lanes := rfl
@[simp] theorem modLink_out (f : Link → Link) (c : Chip) : (modLink f c).out = c.out := rfl
@[simp] theorem modLink_fo (f : Link → Link) (c : Chip) : (modLink f c).fo = c.fo := rfl
@[simp] theorem modLink_ht (f : Link → Link) (c : Chip) : (modLink f c).ht = c.ht := rfl
@[simp] theorem modLink_time (f : Link → Link) (c : Chip) : (modLink f c).time = c.time := rfl
@[simp] theorem modLink_steer (f : Link → Link) (c : Chip) : (modLink f c).steer = c.steer := rfl
@[simp] theorem modLink_ctx (f : Link → Link) (c : Chip) : (modLink f c).ctx = c.ctx := rfl
@[simp] theorem modLink_engine (f : Link → Link) (c : Chip) : (modLink f c).engine = c.engine := rfl
@[simp] theorem modLink_rate (f : Link → Link) (c : Chip) : (modLink f c).rate = c.rate := rfl
@[simp] theorem modLink_budget (f : Link → Link) (c : Chip) : (modLink f c).budget = c.budget := rfl
@[simp] theorem modLink_mixer (f : Link → Link) (c : Chip) : (modLink f c).mixer = c.mixer := rfl
@[simp] theorem modLink_sel (f : Link → Link) (c : Chip) : (modLink f c).sel = c.sel := rfl
@[simp] theorem modLink_link (f : Link → Link) (c : Chip) : (modLink f c).link = f c.link := rfl
@[simp] theorem modLink_sched (f : Link → Link) (c : Chip) : (modLink f c).sched = c.sched := rfl
@[simp] theorem modLink_acct (f : Link → Link) (c : Chip) : (modLink f c).acct = c.acct := rfl
@[simp] theorem modLink_clips (f : Link → Link) (c : Chip) : (modLink f c).clips = c.clips := rfl
@[simp] theorem modLink_port (f : Link → Link) (c : Chip) : (modLink f c).port = c.port := rfl
@[simp] theorem modLink_choices (f : Link → Link) (c : Chip) : (modLink f c).choices = c.choices := rfl

/-! ## modSched -/

@[simp] theorem modSched_unit (f : Scheduler → Scheduler) (c : Chip) : (modSched f c).unit = c.unit := rfl
@[simp] theorem modSched_lanes (f : Scheduler → Scheduler) (c : Chip) : (modSched f c).lanes = c.lanes := rfl
@[simp] theorem modSched_out (f : Scheduler → Scheduler) (c : Chip) : (modSched f c).out = c.out := rfl
@[simp] theorem modSched_fo (f : Scheduler → Scheduler) (c : Chip) : (modSched f c).fo = c.fo := rfl
@[simp] theorem modSched_ht (f : Scheduler → Scheduler) (c : Chip) : (modSched f c).ht = c.ht := rfl
@[simp] theorem modSched_time (f : Scheduler → Scheduler) (c : Chip) : (modSched f c).time = c.time := rfl
@[simp] theorem modSched_steer (f : Scheduler → Scheduler) (c : Chip) : (modSched f c).steer = c.steer := rfl
@[simp] theorem modSched_ctx (f : Scheduler → Scheduler) (c : Chip) : (modSched f c).ctx = c.ctx := rfl
@[simp] theorem modSched_engine (f : Scheduler → Scheduler) (c : Chip) : (modSched f c).engine = c.engine := rfl
@[simp] theorem modSched_rate (f : Scheduler → Scheduler) (c : Chip) : (modSched f c).rate = c.rate := rfl
@[simp] theorem modSched_budget (f : Scheduler → Scheduler) (c : Chip) : (modSched f c).budget = c.budget := rfl
@[simp] theorem modSched_mixer (f : Scheduler → Scheduler) (c : Chip) : (modSched f c).mixer = c.mixer := rfl
@[simp] theorem modSched_sel (f : Scheduler → Scheduler) (c : Chip) : (modSched f c).sel = c.sel := rfl
@[simp] theorem modSched_link (f : Scheduler → Scheduler) (c : Chip) : (modSched f c).link = c.link := rfl
@[simp] theorem modSched_sched (f : Scheduler → Scheduler) (c : Chip) : (modSched f c).sched = f c.sched := rfl
@[simp] theorem modSched_acct (f : Scheduler → Scheduler) (c : Chip) : (modSched f c).acct = c.acct := rfl
@[simp] theorem modSched_clips (f : Scheduler → Scheduler) (c : Chip) : (modSched f c).clips = c.clips := rfl
@[simp] theorem modSched_port (f : Scheduler → Scheduler) (c : Chip) : (modSched f c).port = c.port := rfl
@[simp] theorem modSched_choices (f : Scheduler → Scheduler) (c : Chip) : (modSched f c).choices = c.choices := rfl

/-! ## modSteer -/

@[simp] theorem modSteer_unit (f : Steering → Steering) (c : Chip) : (modSteer f c).unit = c.unit := rfl
@[simp] theorem modSteer_lanes (f : Steering → Steering) (c : Chip) : (modSteer f c).lanes = c.lanes := rfl
@[simp] theorem modSteer_out (f : Steering → Steering) (c : Chip) : (modSteer f c).out = c.out := rfl
@[simp] theorem modSteer_fo (f : Steering → Steering) (c : Chip) : (modSteer f c).fo = c.fo := rfl
@[simp] theorem modSteer_ht (f : Steering → Steering) (c : Chip) : (modSteer f c).ht = c.ht := rfl
@[simp] theorem modSteer_time (f : Steering → Steering) (c : Chip) : (modSteer f c).time = c.time := rfl
@[simp] theorem modSteer_steer (f : Steering → Steering) (c : Chip) : (modSteer f c).steer = f c.steer := rfl
@[simp] theorem modSteer_ctx (f : Steering → Steering) (c : Chip) : (modSteer f c).ctx = c.ctx := rfl
@[simp] theorem modSteer_engine (f : Steering → Steering) (c : Chip) : (modSteer f c).engine = c.engine := rfl
@[simp] theorem modSteer_rate (f : Steering → Steering) (c : Chip) : (modSteer f c).rate = c.rate := rfl
@[simp] theorem modSteer_budget (f : Steering → Steering) (c : Chip) : (modSteer f c).budget = c.budget := rfl
@[simp] theorem modSteer_mixer (f : Steering → Steering) (c : Chip) : (modSteer f c).mixer = c.mixer := rfl
@[simp] theorem modSteer_sel (f : Steering → Steering) (c : Chip) : (modSteer f c).sel = c.sel := rfl
@[simp] theorem modSteer_link (f : Steering → Steering) (c : Chip) : (modSteer f c).link = c.link := rfl
@[simp] theorem modSteer_sched (f : Steering → Steering) (c : Chip) : (modSteer f c).sched = c.sched := rfl
@[simp] theorem modSteer_acct (f : Steering → Steering) (c : Chip) : (modSteer f c).acct = c.acct := rfl
@[simp] theorem modSteer_clips (f : Steering → Steering) (c : Chip) : (modSteer f c).clips = c.clips := rfl
@[simp] theorem modSteer_port (f : Steering → Steering) (c : Chip) : (modSteer f c).port = c.port := rfl
@[simp] theorem modSteer_choices (f : Steering → Steering) (c : Chip) : (modSteer f c).choices = c.choices := rfl

/-! ## modTime -/

@[simp] theorem modTime_unit (f : Timebase → Timebase) (c : Chip) : (modTime f c).unit = c.unit := rfl
@[simp] theorem modTime_lanes (f : Timebase → Timebase) (c : Chip) : (modTime f c).lanes = c.lanes := rfl
@[simp] theorem modTime_out (f : Timebase → Timebase) (c : Chip) : (modTime f c).out = c.out := rfl
@[simp] theorem modTime_fo (f : Timebase → Timebase) (c : Chip) : (modTime f c).fo = c.fo := rfl
@[simp] theorem modTime_ht (f : Timebase → Timebase) (c : Chip) : (modTime f c).ht = c.ht := rfl
@[simp] theorem modTime_time (f : Timebase → Timebase) (c : Chip) : (modTime f c).time = f c.time := rfl
@[simp] theorem modTime_steer (f : Timebase → Timebase) (c : Chip) : (modTime f c).steer = c.steer := rfl
@[simp] theorem modTime_ctx (f : Timebase → Timebase) (c : Chip) : (modTime f c).ctx = c.ctx := rfl
@[simp] theorem modTime_engine (f : Timebase → Timebase) (c : Chip) : (modTime f c).engine = c.engine := rfl
@[simp] theorem modTime_rate (f : Timebase → Timebase) (c : Chip) : (modTime f c).rate = c.rate := rfl
@[simp] theorem modTime_budget (f : Timebase → Timebase) (c : Chip) : (modTime f c).budget = c.budget := rfl
@[simp] theorem modTime_mixer (f : Timebase → Timebase) (c : Chip) : (modTime f c).mixer = c.mixer := rfl
@[simp] theorem modTime_sel (f : Timebase → Timebase) (c : Chip) : (modTime f c).sel = c.sel := rfl
@[simp] theorem modTime_link (f : Timebase → Timebase) (c : Chip) : (modTime f c).link = c.link := rfl
@[simp] theorem modTime_sched (f : Timebase → Timebase) (c : Chip) : (modTime f c).sched = c.sched := rfl
@[simp] theorem modTime_acct (f : Timebase → Timebase) (c : Chip) : (modTime f c).acct = c.acct := rfl
@[simp] theorem modTime_clips (f : Timebase → Timebase) (c : Chip) : (modTime f c).clips = c.clips := rfl
@[simp] theorem modTime_port (f : Timebase → Timebase) (c : Chip) : (modTime f c).port = c.port := rfl
@[simp] theorem modTime_choices (f : Timebase → Timebase) (c : Chip) : (modTime f c).choices = c.choices := rfl

/-! ## modPort -/

@[simp] theorem modPort_unit (f : ControlPort → ControlPort) (c : Chip) : (modPort f c).unit = c.unit := rfl
@[simp] theorem modPort_lanes (f : ControlPort → ControlPort) (c : Chip) : (modPort f c).lanes = c.lanes := rfl
@[simp] theorem modPort_out (f : ControlPort → ControlPort) (c : Chip) : (modPort f c).out = c.out := rfl
@[simp] theorem modPort_fo (f : ControlPort → ControlPort) (c : Chip) : (modPort f c).fo = c.fo := rfl
@[simp] theorem modPort_ht (f : ControlPort → ControlPort) (c : Chip) : (modPort f c).ht = c.ht := rfl
@[simp] theorem modPort_time (f : ControlPort → ControlPort) (c : Chip) : (modPort f c).time = c.time := rfl
@[simp] theorem modPort_steer (f : ControlPort → ControlPort) (c : Chip) : (modPort f c).steer = c.steer := rfl
@[simp] theorem modPort_ctx (f : ControlPort → ControlPort) (c : Chip) : (modPort f c).ctx = c.ctx := rfl
@[simp] theorem modPort_engine (f : ControlPort → ControlPort) (c : Chip) : (modPort f c).engine = c.engine := rfl
@[simp] theorem modPort_rate (f : ControlPort → ControlPort) (c : Chip) : (modPort f c).rate = c.rate := rfl
@[simp] theorem modPort_budget (f : ControlPort → ControlPort) (c : Chip) : (modPort f c).budget = c.budget := rfl
@[simp] theorem modPort_mixer (f : ControlPort → ControlPort) (c : Chip) : (modPort f c).mixer = c.mixer := rfl
@[simp] theorem modPort_sel (f : ControlPort → ControlPort) (c : Chip) : (modPort f c).sel = c.sel := rfl
@[simp] theorem modPort_link (f : ControlPort → ControlPort) (c : Chip) : (modPort f c).link = c.link := rfl
@[simp] theorem modPort_sched (f : ControlPort → ControlPort) (c : Chip) : (modPort f c).sched = c.sched := rfl
@[simp] theorem modPort_acct (f : ControlPort → ControlPort) (c : Chip) : (modPort f c).acct = c.acct := rfl
@[simp] theorem modPort_clips (f : ControlPort → ControlPort) (c : Chip) : (modPort f c).clips = c.clips := rfl
@[simp] theorem modPort_port (f : ControlPort → ControlPort) (c : Chip) : (modPort f c).port = f c.port := rfl
@[simp] theorem modPort_choices (f : ControlPort → ControlPort) (c : Chip) : (modPort f c).choices = c.choices := rfl

/-! ## modLane -/

@[simp] theorem modLane_unit (n : LaneNo) (f : Lane → Lane) (c : Chip) : (modLane n f c).unit = c.unit := rfl
@[simp] theorem modLane_lanes (n : LaneNo) (f : Lane → Lane) (c : Chip) : (modLane n f c).lanes = modAt c.lanes n f := rfl
@[simp] theorem modLane_out (n : LaneNo) (f : Lane → Lane) (c : Chip) : (modLane n f c).out = c.out := rfl
@[simp] theorem modLane_fo (n : LaneNo) (f : Lane → Lane) (c : Chip) : (modLane n f c).fo = c.fo := rfl
@[simp] theorem modLane_ht (n : LaneNo) (f : Lane → Lane) (c : Chip) : (modLane n f c).ht = c.ht := rfl
@[simp] theorem modLane_time (n : LaneNo) (f : Lane → Lane) (c : Chip) : (modLane n f c).time = c.time := rfl
@[simp] theorem modLane_steer (n : LaneNo) (f : Lane → Lane) (c : Chip) : (modLane n f c).steer = c.steer := rfl
@[simp] theorem modLane_ctx (n : LaneNo) (f : Lane → Lane) (c : Chip) : (modLane n f c).ctx = c.ctx := rfl
@[simp] theorem modLane_engine (n : LaneNo) (f : Lane → Lane) (c : Chip) : (modLane n f c).engine = c.engine := rfl
@[simp] theorem modLane_rate (n : LaneNo) (f : Lane → Lane) (c : Chip) : (modLane n f c).rate = c.rate := rfl
@[simp] theorem modLane_budget (n : LaneNo) (f : Lane → Lane) (c : Chip) : (modLane n f c).budget = c.budget := rfl
@[simp] theorem modLane_mixer (n : LaneNo) (f : Lane → Lane) (c : Chip) : (modLane n f c).mixer = c.mixer := rfl
@[simp] theorem modLane_sel (n : LaneNo) (f : Lane → Lane) (c : Chip) : (modLane n f c).sel = c.sel := rfl
@[simp] theorem modLane_link (n : LaneNo) (f : Lane → Lane) (c : Chip) : (modLane n f c).link = c.link := rfl
@[simp] theorem modLane_sched (n : LaneNo) (f : Lane → Lane) (c : Chip) : (modLane n f c).sched = c.sched := rfl
@[simp] theorem modLane_acct (n : LaneNo) (f : Lane → Lane) (c : Chip) : (modLane n f c).acct = c.acct := rfl
@[simp] theorem modLane_clips (n : LaneNo) (f : Lane → Lane) (c : Chip) : (modLane n f c).clips = c.clips := rfl
@[simp] theorem modLane_port (n : LaneNo) (f : Lane → Lane) (c : Chip) : (modLane n f c).port = c.port := rfl
@[simp] theorem modLane_choices (n : LaneNo) (f : Lane → Lane) (c : Chip) : (modLane n f c).choices = c.choices := rfl

/-! ## putHt -/

@[simp] theorem putHt_unit (frame : List Byte) (c : Chip) : (putHt frame c).unit = c.unit := rfl
@[simp] theorem putHt_lanes (frame : List Byte) (c : Chip) : (putHt frame c).lanes = c.lanes := rfl
@[simp] theorem putHt_out (frame : List Byte) (c : Chip) : (putHt frame c).out = c.out := rfl
@[simp] theorem putHt_fo (frame : List Byte) (c : Chip) : (putHt frame c).fo = c.fo := rfl
@[simp] theorem putHt_ht (frame : List Byte) (c : Chip) : (putHt frame c).ht = c.ht ++ [frame] := rfl
@[simp] theorem putHt_time (frame : List Byte) (c : Chip) : (putHt frame c).time = c.time := rfl
@[simp] theorem putHt_steer (frame : List Byte) (c : Chip) : (putHt frame c).steer = c.steer := rfl
@[simp] theorem putHt_ctx (frame : List Byte) (c : Chip) : (putHt frame c).ctx = c.ctx := rfl
@[simp] theorem putHt_engine (frame : List Byte) (c : Chip) : (putHt frame c).engine = c.engine := rfl
@[simp] theorem putHt_rate (frame : List Byte) (c : Chip) : (putHt frame c).rate = c.rate := rfl
@[simp] theorem putHt_budget (frame : List Byte) (c : Chip) : (putHt frame c).budget = c.budget := rfl
@[simp] theorem putHt_mixer (frame : List Byte) (c : Chip) : (putHt frame c).mixer = c.mixer := rfl
@[simp] theorem putHt_sel (frame : List Byte) (c : Chip) : (putHt frame c).sel = c.sel := rfl
@[simp] theorem putHt_link (frame : List Byte) (c : Chip) : (putHt frame c).link = c.link := rfl
@[simp] theorem putHt_sched (frame : List Byte) (c : Chip) : (putHt frame c).sched = c.sched := rfl
@[simp] theorem putHt_acct (frame : List Byte) (c : Chip) : (putHt frame c).acct = c.acct := rfl
@[simp] theorem putHt_clips (frame : List Byte) (c : Chip) : (putHt frame c).clips = c.clips := rfl
@[simp] theorem putHt_port (frame : List Byte) (c : Chip) : (putHt frame c).port = c.port := rfl
@[simp] theorem putHt_choices (frame : List Byte) (c : Chip) : (putHt frame c).choices = c.choices := rfl

/-! ## holdPlace -/

@[simp] theorem holdPlace_unit (c : Chip) : (holdPlace c).unit = c.unit := rfl
@[simp] theorem holdPlace_lanes (c : Chip) : (holdPlace c).lanes = c.lanes := rfl
@[simp] theorem holdPlace_out (c : Chip) : (holdPlace c).out = c.out := rfl
@[simp] theorem holdPlace_fo (c : Chip) : (holdPlace c).fo = c.fo := rfl
@[simp] theorem holdPlace_ht (c : Chip) : (holdPlace c).ht = c.ht := rfl
@[simp] theorem holdPlace_time (c : Chip) : (holdPlace c).time = c.time := rfl
@[simp] theorem holdPlace_steer (c : Chip) : (holdPlace c).steer = c.steer := rfl
@[simp] theorem holdPlace_ctx (c : Chip) : (holdPlace c).ctx = c.ctx := rfl
@[simp] theorem holdPlace_engine (c : Chip) : (holdPlace c).engine = c.engine := rfl
@[simp] theorem holdPlace_rate (c : Chip) : (holdPlace c).rate = c.rate := rfl
@[simp] theorem holdPlace_budget (c : Chip) : (holdPlace c).budget = c.budget := rfl
@[simp] theorem holdPlace_mixer (c : Chip) : (holdPlace c).mixer = c.mixer := rfl
@[simp] theorem holdPlace_sel (c : Chip) : (holdPlace c).sel = c.sel := rfl
@[simp] theorem holdPlace_link (c : Chip) : (holdPlace c).link = c.link := rfl
@[simp] theorem holdPlace_sched (c : Chip) : (holdPlace c).sched = c.sched := rfl
@[simp] theorem holdPlace_acct (c : Chip) : (holdPlace c).acct = c.acct := rfl
@[simp] theorem holdPlace_clips (c : Chip) : (holdPlace c).clips = c.clips := rfl
@[simp] theorem holdPlace_port (c : Chip) : (holdPlace c).port = { c.port with held := true } := rfl
@[simp] theorem holdPlace_choices (c : Chip) : (holdPlace c).choices = c.choices := rfl

/-! ## The machine's queue -/

@[simp] theorem State.onChip_eq (s : State) (f : Chip → Chip) :
    s.onChip f = .next { s with chip := f s.chip } := rfl

/-- The queue is empty and the part is at its reset values right after reset. -/
@[simp] theorem State.reset_pending : State.reset.pending = [] := rfl
@[simp] theorem State.reset_chip : State.reset.chip = Chip.powerOn := rfl

end Sys2Proof.Machine
end

