-- ==== Sys2Proof/Laws/Clock.lean ====
section
/-! SUPPORT. The 48 kHz clock: what the counting of a sample and the restart of the timer leave in each field of the
timebase, what a tick leaves in each timer of the link controller, everything one sample can do, and what a run of
samples keeps. -/

namespace Sys2Proof.Machine

/-! ## The timebase's fields -/

@[simp] theorem countSample_state (t : Timebase) : (countSample t).state = t.state := rfl
@[simp] theorem countSample_timecode (t : Timebase) : (countSample t).timecode = t.timecode := rfl
@[simp] theorem countSample_rate (t : Timebase) : (countSample t).rate = t.rate := rfl
@[simp] theorem countSample_elapsed (t : Timebase) : (countSample t).elapsed = t.elapsed + 1 := rfl
@[simp] theorem countSample_length (t : Timebase) : (countSample t).length = t.length := rfl
@[simp] theorem countSample_subTick (t : Timebase) : (countSample t).subTick = (t.subTick + 1) % 48 := rfl
@[simp] theorem countSample_ms (t : Timebase) : (countSample t).ms = t.ms := rfl

@[simp] theorem restartTimer_state (s : TimebaseState) (tc : Timecode) (t : Timebase) :
    (restartTimer s tc t).state = s := rfl
@[simp] theorem restartTimer_timecode (s : TimebaseState) (tc : Timecode) (t : Timebase) :
    (restartTimer s tc t).timecode = tc := rfl
@[simp] theorem restartTimer_rate (s : TimebaseState) (tc : Timecode) (t : Timebase) :
    (restartTimer s tc t).rate = t.rate := rfl
@[simp] theorem restartTimer_elapsed (s : TimebaseState) (tc : Timecode) (t : Timebase) :
    (restartTimer s tc t).elapsed = 0 := rfl
@[simp] theorem restartTimer_length (s : TimebaseState) (tc : Timecode) (t : Timebase) :
    (restartTimer s tc t).length = timerLength s t.rate := rfl
@[simp] theorem restartTimer_subTick (s : TimebaseState) (tc : Timecode) (t : Timebase) :
    (restartTimer s tc t).subTick = t.subTick := rfl
@[simp] theorem restartTimer_ms (s : TimebaseState) (tc : Timecode) (t : Timebase) :
    (restartTimer s tc t).ms = t.ms := rfl

/-! ## The link controller's timers (R23) -/

@[simp] theorem countLinkTimers_state (l : Link) : (countLinkTimers l).state = l.state := rfl
@[simp] theorem countLinkTimers_attempt (l : Link) : (countLinkTimers l).attempt = l.attempt := rfl
@[simp] theorem countLinkTimers_credit (l : Link) : (countLinkTimers l).credit = l.credit := rfl
@[simp] theorem countLinkTimers_settings (l : Link) : (countLinkTimers l).settings = l.settings := rfl
@[simp] theorem countLinkTimers_answerWindow (l : Link) :
    (countLinkTimers l).answerWindow = l.answerWindow.map (· - 1) := rfl
@[simp] theorem countLinkTimers_retryGap (l : Link) : (countLinkTimers l).retryGap = l.retryGap.map (· - 1) := rfl
@[simp] theorem countLinkTimers_silence (l : Link) : (countLinkTimers l).silence = l.silence.map (· - 1) := rfl
@[simp] theorem countLinkTimers_drainLimit (l : Link) : (countLinkTimers l).drainLimit = l.drainLimit.map (· - 1) := rfl

/-- A timer ends at a tick just where it had at most one left to count. -/
theorem ranOut_countDown (t : Option Nat) : ranOut (countDown t) = t.any (fun n => decide (n ≤ 1)) := by
  cases t with
  | none => rfl
  | some n =>
    rw [Bool.eq_iff_iff]
    simp only [ranOut, countDown, Option.map_some, Option.any_some, beq_iff_eq, Option.some.injEq, decide_eq_true_eq]
    omega

/-! ## One sample, and a run of them (R15, R22) -/

/-- With no command waiting a step is one sample. -/
theorem step_idle (c : Chip) : step ⟨c, []⟩ = .next ⟨sampleStep c, []⟩ := rfl

/-- Everything one sample can do: count, and where the timer ends or the block tick falls at it take the expiry, the
tick, or both in either order. -/
theorem sampleStep_cases (c : Chip) :
    let t := countSample c.time
    let c1 := modTime countSample c
    (t.elapsed < t.length ∧ t.subTick ≠ 0 ∧ sampleStep c = c1) ∨
      (t.elapsed < t.length ∧ t.subTick = 0 ∧ sampleStep c = tickWork c1) ∨
      (t.length ≤ t.elapsed ∧ t.subTick ≠ 0 ∧ sampleStep c = expireBoundary c1) ∨
      (t.length ≤ t.elapsed ∧ t.subTick = 0 ∧ sampleStep c = tickWork (expireBoundary (madeChoice c1))) ∨
      (t.length ≤ t.elapsed ∧ t.subTick = 0 ∧ sampleStep c = expireBoundary (tickWork (madeChoice c1))) := by
  intro t c1
  have h1 : c1.time = t := rfl
  simp only [sampleStep]
  rw [show modTime countSample c = c1 from rfl, h1]
  by_cases hb : t.length ≤ t.elapsed <;> by_cases ht : t.subTick = 0 <;>
    simp only [hb, ht, if_true, if_false, not_lt.mpr, not_le.mp, true_and, false_and, not_true, not_false_iff, or_false,
      false_or, ne_eq]
  · split
    · exact .inl rfl
    · exact .inr rfl

@[simp] theorem runClock_zero (c : Chip) : runClock 0 c = c := rfl
@[simp] theorem runClock_succ (n : Nat) (c : Chip) : runClock (n + 1) c = runClock n (sampleStep c) := rfl

/-- Two runs of the clock, one after the other, are one. -/
theorem runClock_add (m n : Nat) (c : Chip) : runClock (m + n) c = runClock n (runClock m c) := by
  induction m generalizing c with
  | zero => rw [Nat.zero_add]; rfl
  | succ m ih => rw [Nat.succ_add]; exact ih (sampleStep c)

/-- What each sample keeps, a run of the clock keeps. -/
theorem runClock_keeps {P : Chip → Prop} (h : ∀ c, P c → P (sampleStep c)) (n : Nat) {c : Chip} (hc : P c) :
    P (runClock n c) := by
  induction n generalizing c with
  | zero => exact hc
  | succ n ih => exact ih (h c hc)

end Sys2Proof.Machine
end

