-- ==== Sys2Proof/Laws/Word.lean ====
section
/-! SUPPORT. Reading a table after each of the three operations on tables, and the byte forms of numbers read back. -/

namespace Sys2Proof

/-! ## Tables -/

@[simp] theorem setAt_get_same {α : Type} {n : Nat} (v : Vector α n) (k : Fin n) (a : α) : (setAt v k a)[k] = a := by
  simp [setAt]

theorem setAt_get_other {α : Type} {n : Nat} (v : Vector α n) {k j : Fin n} (a : α) (h : j ≠ k) :
    (setAt v k a)[j] = v[j] := by
  have : k.val ≠ j.val := fun e => h (Fin.ext e.symm)
  simp [setAt, Vector.getElem_set_ne, this]

theorem setAt_get {α : Type} {n : Nat} (v : Vector α n) (k j : Fin n) (a : α) :
    (setAt v k a)[j] = if j = k then a else v[j] := by
  split
  · subst j; exact setAt_get_same v k a
  · exact setAt_get_other v a ‹_›

@[simp] theorem modAt_get_same {α : Type} {n : Nat} (v : Vector α n) (k : Fin n) (f : α → α) :
    (modAt v k f)[k] = f v[k] := setAt_get_same v k _

theorem modAt_get_other {α : Type} {n : Nat} (v : Vector α n) {k j : Fin n} (f : α → α) (h : j ≠ k) :
    (modAt v k f)[j] = v[j] := setAt_get_other v _ h

theorem modAt_get {α : Type} {n : Nat} (v : Vector α n) (k j : Fin n) (f : α → α) :
    (modAt v k f)[j] = if j = k then f v[j] else v[j] := by
  unfold modAt
  rw [setAt_get]
  split
  · subst j; rfl
  · rfl

theorem mapAll_get {α β : Type} {n : Nat} (f : α → β) (v : Vector α n) (k : Fin n) : (mapAll f v)[k] = f v[k] := by
  simp [mapAll]

theorem tabulate_get {α : Type} (n : Nat) (f : Fin n → α) (k : Fin n) : (tabulate n f)[k] = f k := by
  simp [tabulate]

/-- The six contexts are all of allCtx. -/
theorem mem_allCtx (k : Ctx) : k ∈ allCtx := by revert k; decide

theorem mem_allInputs (i : InputNo) : i ∈ allInputs := by revert i; decide

theorem mem_allBuses (b : BusNo) : b ∈ allBuses := by revert b; decide

/-! ## Numbers in bytes (chapter 13: most significant byte first) -/

@[simp] theorem be16_length (x : BitVec 16) : (be16 x).length = 2 := rfl
@[simp] theorem be24_length (x : BitVec 24) : (be24 x).length = 3 := rfl
@[simp] theorem be32_length (x : BitVec 32) : (be32 x).length = 4 := rfl

theorem u16_of_be16 (x : BitVec 16) : u16 (x.extractLsb' 8 8) (x.extractLsb' 0 8) = x := by
  apply BitVec.eq_of_getLsbD_eq
  intro i hi
  simp only [u16, BitVec.getLsbD_append, BitVec.getLsbD_extractLsb']
  by_cases h : i < 8
  · simp [h]
  · have h1 : i - 8 < 8 := by omega
    have h2 : 8 + (i - 8) = i := by omega
    simp [h, h1, h2]

theorem u24_of_be24 (x : BitVec 24) :
    u24 (x.extractLsb' 16 8) (x.extractLsb' 8 8) (x.extractLsb' 0 8) = x := by
  apply BitVec.eq_of_getLsbD_eq
  intro i hi
  simp only [u24, BitVec.getLsbD_append, BitVec.getLsbD_extractLsb']
  by_cases h : i < 8
  · simp [h]
  · by_cases h1 : i - 8 < 8
    · have h2 : 8 + (i - 8) = i := by omega
      simp [h, h1, h2]
    · have h2 : i - 8 - 8 < 8 := by omega
      have h3 : 16 + (i - 8 - 8) = i := by omega
      simp [h, h1, h2, h3]

/-! ## The three shapes of a byte list that is longer than its head -/

theorem readFrame_short : readFrame [] = none := rfl

/-- R187: a payload with a tag, a name of the length it says, and parameters is framed as those three. -/
theorem readFrame_framed (tag n : Byte) (name params : List Byte) (h : name.length = n.toNat) (h0 : n ≠ 0) :
    readFrame ([tag, n] ++ name ++ params) = some ⟨tag, name, params⟩ := by
  have h1 : ¬(name ++ params).length < n.toNat := by simp; omega
  simp only [List.cons_append, List.nil_append, readFrame, if_neg h0, if_neg h1]
  rw [← h, List.take_left, List.drop_left]

/-- R187: the names of the catalogue differ: each is read back from its bytes. -/
theorem commandNamed_nameBytes (n : CommandName) : commandNamed (nameBytes n) = some n := by
  cases n <;> decide

/-- R187: a name's length is carried in one byte and is not 0. -/
theorem nameBytes_length (n : CommandName) : 1 ≤ (nameBytes n).length ∧ (nameBytes n).length ≤ 14 := by
  cases n <;> decide

end Sys2Proof
end

