-- ==== Sys2Proof/Laws/Reports.lean ====
section
/-! SUPPORT. What the operations of the output lane, the attention set and the answers can change: each is its part
with only the fields named in its frame lemma replaced, and every other field is as it was. -/

namespace Sys2Proof.Machine

/-! ## Sequence counts and dropped cells (R11, R96) -/

@[simp] theorem setSeq_queue (o : OutputLane) (n : Byte) (z : OutSource) : (setSeq o n z).queue = o.queue := by
  cases z <;> rfl
@[simp] theorem setSeq_tx (o : OutputLane) (n : Byte) (z : OutSource) : (setSeq o n z).tx = o.tx := by cases z <;> rfl
@[simp] theorem setSeq_hold (o : OutputLane) (n : Byte) (z : OutSource) : (setSeq o n z).hold = o.hold := by
  cases z <;> rfl
@[simp] theorem setSeq_auxDrops (o : OutputLane) (n : Byte) (z : OutSource) :
    (setSeq o n z).auxDrops = o.auxDrops := by cases z <;> rfl
@[simp] theorem droppedOf_setSeq (o : OutputLane) (n : Byte) (y z : OutSource) :
    droppedOf (setSeq o n z) y = droppedOf o y := by cases z <;> cases y <;> rfl

/-- A source's count is what it is set to, and every other source's is as it was. -/
theorem seqOf_setSeq (o : OutputLane) (n : Byte) (y z : OutSource) :
    seqOf (setSeq o n z) y = if y = z then n else seqOf o y := by
  cases z <;> cases y <;> simp [seqOf, setSeq]
  exact setAt_get _ _ _ _

@[simp] theorem setDropped_queue (o : OutputLane) (n : Option Byte) (z : OutSource) :
    (setDropped o n z).queue = o.queue := by cases z <;> rfl
@[simp] theorem setDropped_tx (o : OutputLane) (n : Option Byte) (z : OutSource) : (setDropped o n z).tx = o.tx := by
  cases z <;> rfl
@[simp] theorem setDropped_hold (o : OutputLane) (n : Option Byte) (z : OutSource) :
    (setDropped o n z).hold = o.hold := by cases z <;> rfl
@[simp] theorem setDropped_auxDrops (o : OutputLane) (n : Option Byte) (z : OutSource) :
    (setDropped o n z).auxDrops = o.auxDrops := by cases z <;> rfl
@[simp] theorem seqOf_setDropped (o : OutputLane) (n : Option Byte) (y z : OutSource) :
    seqOf (setDropped o n z) y = seqOf o y := by cases z <;> cases y <;> rfl

/-- An AUX bus's number of dropped cells is what it is set to, and every other source's is as it was. -/
theorem droppedOf_setDropped (o : OutputLane) (n : Option Byte) {y z : OutSource} (h : isAux z = true) :
    droppedOf (setDropped o n z) y = if y = z then n else droppedOf o y := by
  cases z <;> cases y <;> simp_all [droppedOf, setDropped, isAux]

/-! ## Frames -/

/-- startFo replaces nothing but out, fo. -/
theorem startFo_frame (c : Chip) :
    startFo c = { c with out := (startFo c).out, fo := (startFo c).fo } := by
  unfold startFo
  split
  · rfl
  · split <;> rfl
@[simp] theorem startFo_unit (c : Chip) : (startFo c).unit = c.unit := by rw [startFo_frame]
@[simp] theorem startFo_lanes (c : Chip) : (startFo c).lanes = c.lanes := by rw [startFo_frame]
@[simp] theorem startFo_ht (c : Chip) : (startFo c).ht = c.ht := by rw [startFo_frame]
@[simp] theorem startFo_time (c : Chip) : (startFo c).time = c.time := by rw [startFo_frame]
@[simp] theorem startFo_steer (c : Chip) : (startFo c).steer = c.steer := by rw [startFo_frame]
@[simp] theorem startFo_ctx (c : Chip) : (startFo c).ctx = c.ctx := by rw [startFo_frame]
@[simp] theorem startFo_engine (c : Chip) : (startFo c).engine = c.engine := by rw [startFo_frame]
@[simp] theorem startFo_rate (c : Chip) : (startFo c).rate = c.rate := by rw [startFo_frame]
@[simp] theorem startFo_budget (c : Chip) : (startFo c).budget = c.budget := by rw [startFo_frame]
@[simp] theorem startFo_mixer (c : Chip) : (startFo c).mixer = c.mixer := by rw [startFo_frame]
@[simp] theorem startFo_sel (c : Chip) : (startFo c).sel = c.sel := by rw [startFo_frame]
@[simp] theorem startFo_link (c : Chip) : (startFo c).link = c.link := by rw [startFo_frame]
@[simp] theorem startFo_sched (c : Chip) : (startFo c).sched = c.sched := by rw [startFo_frame]
@[simp] theorem startFo_acct (c : Chip) : (startFo c).acct = c.acct := by rw [startFo_frame]
@[simp] theorem startFo_clips (c : Chip) : (startFo c).clips = c.clips := by rw [startFo_frame]
@[simp] theorem startFo_port (c : Chip) : (startFo c).port = c.port := by rw [startFo_frame]
@[simp] theorem startFo_choices (c : Chip) : (startFo c).choices = c.choices := by rw [startFo_frame]

/-- joinOut replaces nothing but out, fo. -/
theorem joinOut_frame (x : OutCell) (c : Chip) :
    joinOut x c = { c with out := (joinOut x c).out, fo := (joinOut x c).fo } := by
  unfold joinOut
  rw [startFo_frame]
@[simp] theorem joinOut_unit (x : OutCell) (c : Chip) : (joinOut x c).unit = c.unit := by rw [joinOut_frame]
@[simp] theorem joinOut_lanes (x : OutCell) (c : Chip) : (joinOut x c).lanes = c.lanes := by rw [joinOut_frame]
@[simp] theorem joinOut_ht (x : OutCell) (c : Chip) : (joinOut x c).ht = c.ht := by rw [joinOut_frame]
@[simp] theorem joinOut_time (x : OutCell) (c : Chip) : (joinOut x c).time = c.time := by rw [joinOut_frame]
@[simp] theorem joinOut_steer (x : OutCell) (c : Chip) : (joinOut x c).steer = c.steer := by rw [joinOut_frame]
@[simp] theorem joinOut_ctx (x : OutCell) (c : Chip) : (joinOut x c).ctx = c.ctx := by rw [joinOut_frame]
@[simp] theorem joinOut_engine (x : OutCell) (c : Chip) : (joinOut x c).engine = c.engine := by rw [joinOut_frame]
@[simp] theorem joinOut_rate (x : OutCell) (c : Chip) : (joinOut x c).rate = c.rate := by rw [joinOut_frame]
@[simp] theorem joinOut_budget (x : OutCell) (c : Chip) : (joinOut x c).budget = c.budget := by rw [joinOut_frame]
@[simp] theorem joinOut_mixer (x : OutCell) (c : Chip) : (joinOut x c).mixer = c.mixer := by rw [joinOut_frame]
@[simp] theorem joinOut_sel (x : OutCell) (c : Chip) : (joinOut x c).sel = c.sel := by rw [joinOut_frame]
@[simp] theorem joinOut_link (x : OutCell) (c : Chip) : (joinOut x c).link = c.link := by rw [joinOut_frame]
@[simp] theorem joinOut_sched (x : OutCell) (c : Chip) : (joinOut x c).sched = c.sched := by rw [joinOut_frame]
@[simp] theorem joinOut_acct (x : OutCell) (c : Chip) : (joinOut x c).acct = c.acct := by rw [joinOut_frame]
@[simp] theorem joinOut_clips (x : OutCell) (c : Chip) : (joinOut x c).clips = c.clips := by rw [joinOut_frame]
@[simp] theorem joinOut_port (x : OutCell) (c : Chip) : (joinOut x c).port = c.port := by rw [joinOut_frame]
@[simp] theorem joinOut_choices (x : OutCell) (c : Chip) : (joinOut x c).choices = c.choices := by rw [joinOut_frame]

/-- offerAux replaces nothing but out, fo. -/
theorem offerAux_frame (x : OutCell) (c : Chip) :
    offerAux x c = { c with out := (offerAux x c).out, fo := (offerAux x c).fo } := by
  unfold offerAux
  split
  · rw [joinOut_frame]
  · rfl
@[simp] theorem offerAux_unit (x : OutCell) (c : Chip) : (offerAux x c).unit = c.unit := by rw [offerAux_frame]
@[simp] theorem offerAux_lanes (x : OutCell) (c : Chip) : (offerAux x c).lanes = c.lanes := by rw [offerAux_frame]
@[simp] theorem offerAux_ht (x : OutCell) (c : Chip) : (offerAux x c).ht = c.ht := by rw [offerAux_frame]
@[simp] theorem offerAux_time (x : OutCell) (c : Chip) : (offerAux x c).time = c.time := by rw [offerAux_frame]
@[simp] theorem offerAux_steer (x : OutCell) (c : Chip) : (offerAux x c).steer = c.steer := by rw [offerAux_frame]
@[simp] theorem offerAux_ctx (x : OutCell) (c : Chip) : (offerAux x c).ctx = c.ctx := by rw [offerAux_frame]
@[simp] theorem offerAux_engine (x : OutCell) (c : Chip) : (offerAux x c).engine = c.engine := by rw [offerAux_frame]
@[simp] theorem offerAux_rate (x : OutCell) (c : Chip) : (offerAux x c).rate = c.rate := by rw [offerAux_frame]
@[simp] theorem offerAux_budget (x : OutCell) (c : Chip) : (offerAux x c).budget = c.budget := by rw [offerAux_frame]
@[simp] theorem offerAux_mixer (x : OutCell) (c : Chip) : (offerAux x c).mixer = c.mixer := by rw [offerAux_frame]
@[simp] theorem offerAux_sel (x : OutCell) (c : Chip) : (offerAux x c).sel = c.sel := by rw [offerAux_frame]
@[simp] theorem offerAux_link (x : OutCell) (c : Chip) : (offerAux x c).link = c.link := by rw [offerAux_frame]
@[simp] theorem offerAux_sched (x : OutCell) (c : Chip) : (offerAux x c).sched = c.sched := by rw [offerAux_frame]
@[simp] theorem offerAux_acct (x : OutCell) (c : Chip) : (offerAux x c).acct = c.acct := by rw [offerAux_frame]
@[simp] theorem offerAux_clips (x : OutCell) (c : Chip) : (offerAux x c).clips = c.clips := by rw [offerAux_frame]
@[simp] theorem offerAux_port (x : OutCell) (c : Chip) : (offerAux x c).port = c.port := by rw [offerAux_frame]
@[simp] theorem offerAux_choices (x : OutCell) (c : Chip) : (offerAux x c).choices = c.choices := by rw [offerAux_frame]

/-- R8, R96: with room an AUX cell joins with the number of its bus's cells dropped before it, and the count of them
starts again. -/
theorem offerAux_room (x : OutCell) {c : Chip} (h : outHasRoom c.out = true) :
    offerAux x c = joinOut { x with gap := (droppedOf c.out x.source).getD 0 }
      { c with out := setDropped c.out (some 0) x.source } := by
  rw [offerAux, if_pos h]

/-- R8, R96: without room an AUX cell is dropped and counted, and nothing else of the part changes. -/
theorem offerAux_full (x : OutCell) {c : Chip} (h : outHasRoom c.out = false) :
    offerAux x c = { c with out := { setDropped c.out ((droppedOf c.out x.source).map (· + 1)) x.source with
      auxDrops := bump (setDropped c.out ((droppedOf c.out x.source).map (· + 1)) x.source).auxDrops } } := by
  rw [offerAux, if_neg (by simp [h])]

/-- offerTally replaces nothing but out, fo. -/
theorem offerTally_frame (k : Ctx) (x : OutCell) (c : Chip) :
    offerTally k x c = { c with out := (offerTally k x c).out, fo := (offerTally k x c).fo } := by
  unfold offerTally
  split
  · rw [joinOut_frame]
  · rfl
@[simp] theorem offerTally_unit (k : Ctx) (x : OutCell) (c : Chip) : (offerTally k x c).unit = c.unit := by rw [offerTally_frame]
@[simp] theorem offerTally_lanes (k : Ctx) (x : OutCell) (c : Chip) : (offerTally k x c).lanes = c.lanes := by rw [offerTally_frame]
@[simp] theorem offerTally_ht (k : Ctx) (x : OutCell) (c : Chip) : (offerTally k x c).ht = c.ht := by rw [offerTally_frame]
@[simp] theorem offerTally_time (k : Ctx) (x : OutCell) (c : Chip) : (offerTally k x c).time = c.time := by rw [offerTally_frame]
@[simp] theorem offerTally_steer (k : Ctx) (x : OutCell) (c : Chip) : (offerTally k x c).steer = c.steer := by rw [offerTally_frame]
@[simp] theorem offerTally_ctx (k : Ctx) (x : OutCell) (c : Chip) : (offerTally k x c).ctx = c.ctx := by rw [offerTally_frame]
@[simp] theorem offerTally_engine (k : Ctx) (x : OutCell) (c : Chip) : (offerTally k x c).engine = c.engine := by rw [offerTally_frame]
@[simp] theorem offerTally_rate (k : Ctx) (x : OutCell) (c : Chip) : (offerTally k x c).rate = c.rate := by rw [offerTally_frame]
@[simp] theorem offerTally_budget (k : Ctx) (x : OutCell) (c : Chip) : (offerTally k x c).budget = c.budget := by rw [offerTally_frame]
@[simp] theorem offerTally_mixer (k : Ctx) (x : OutCell) (c : Chip) : (offerTally k x c).mixer = c.mixer := by rw [offerTally_frame]
@[simp] theorem offerTally_sel (k : Ctx) (x : OutCell) (c : Chip) : (offerTally k x c).sel = c.sel := by rw [offerTally_frame]
@[simp] theorem offerTally_link (k : Ctx) (x : OutCell) (c : Chip) : (offerTally k x c).link = c.link := by rw [offerTally_frame]
@[simp] theorem offerTally_sched (k : Ctx) (x : OutCell) (c : Chip) : (offerTally k x c).sched = c.sched := by rw [offerTally_frame]
@[simp] theorem offerTally_acct (k : Ctx) (x : OutCell) (c : Chip) : (offerTally k x c).acct = c.acct := by rw [offerTally_frame]
@[simp] theorem offerTally_clips (k : Ctx) (x : OutCell) (c : Chip) : (offerTally k x c).clips = c.clips := by rw [offerTally_frame]
@[simp] theorem offerTally_port (k : Ctx) (x : OutCell) (c : Chip) : (offerTally k x c).port = c.port := by rw [offerTally_frame]
@[simp] theorem offerTally_choices (k : Ctx) (x : OutCell) (c : Chip) : (offerTally k x c).choices = c.choices := by rw [offerTally_frame]

/-- moveReport replaces nothing but out, fo, port. -/
theorem moveReport_frame (c : Chip) :
    moveReport c = { c with out := (moveReport c).out, fo := (moveReport c).fo, port := (moveReport c).port } := by
  unfold moveReport
  split
  · split
    · rfl
    · rw [joinOut_frame]
  · rfl
@[simp] theorem moveReport_unit (c : Chip) : (moveReport c).unit = c.unit := by rw [moveReport_frame]
@[simp] theorem moveReport_lanes (c : Chip) : (moveReport c).lanes = c.lanes := by rw [moveReport_frame]
@[simp] theorem moveReport_ht (c : Chip) : (moveReport c).ht = c.ht := by rw [moveReport_frame]
@[simp] theorem moveReport_time (c : Chip) : (moveReport c).time = c.time := by rw [moveReport_frame]
@[simp] theorem moveReport_steer (c : Chip) : (moveReport c).steer = c.steer := by rw [moveReport_frame]
@[simp] theorem moveReport_ctx (c : Chip) : (moveReport c).ctx = c.ctx := by rw [moveReport_frame]
@[simp] theorem moveReport_engine (c : Chip) : (moveReport c).engine = c.engine := by rw [moveReport_frame]
@[simp] theorem moveReport_rate (c : Chip) : (moveReport c).rate = c.rate := by rw [moveReport_frame]
@[simp] theorem moveReport_budget (c : Chip) : (moveReport c).budget = c.budget := by rw [moveReport_frame]
@[simp] theorem moveReport_mixer (c : Chip) : (moveReport c).mixer = c.mixer := by rw [moveReport_frame]
@[simp] theorem moveReport_sel (c : Chip) : (moveReport c).sel = c.sel := by rw [moveReport_frame]
@[simp] theorem moveReport_link (c : Chip) : (moveReport c).link = c.link := by rw [moveReport_frame]
@[simp] theorem moveReport_sched (c : Chip) : (moveReport c).sched = c.sched := by rw [moveReport_frame]
@[simp] theorem moveReport_acct (c : Chip) : (moveReport c).acct = c.acct := by rw [moveReport_frame]
@[simp] theorem moveReport_clips (c : Chip) : (moveReport c).clips = c.clips := by rw [moveReport_frame]
@[simp] theorem moveReport_choices (c : Chip) : (moveReport c).choices = c.choices := by rw [moveReport_frame]

/-- placeReport replaces nothing but out, fo, port. -/
theorem placeReport_frame (x : OutCell) (c : Chip) :
    placeReport x c = { c with out := (placeReport x c).out, fo := (placeReport x c).fo, port := (placeReport x c).port } := by
  unfold placeReport
  rw [moveReport_frame]
@[simp] theorem placeReport_unit (x : OutCell) (c : Chip) : (placeReport x c).unit = c.unit := by rw [placeReport_frame]
@[simp] theorem placeReport_lanes (x : OutCell) (c : Chip) : (placeReport x c).lanes = c.lanes := by rw [placeReport_frame]
@[simp] theorem placeReport_ht (x : OutCell) (c : Chip) : (placeReport x c).ht = c.ht := by rw [placeReport_frame]
@[simp] theorem placeReport_time (x : OutCell) (c : Chip) : (placeReport x c).time = c.time := by rw [placeReport_frame]
@[simp] theorem placeReport_steer (x : OutCell) (c : Chip) : (placeReport x c).steer = c.steer := by rw [placeReport_frame]
@[simp] theorem placeReport_ctx (x : OutCell) (c : Chip) : (placeReport x c).ctx = c.ctx := by rw [placeReport_frame]
@[simp] theorem placeReport_engine (x : OutCell) (c : Chip) : (placeReport x c).engine = c.engine := by rw [placeReport_frame]
@[simp] theorem placeReport_rate (x : OutCell) (c : Chip) : (placeReport x c).rate = c.rate := by rw [placeReport_frame]
@[simp] theorem placeReport_budget (x : OutCell) (c : Chip) : (placeReport x c).budget = c.budget := by rw [placeReport_frame]
@[simp] theorem placeReport_mixer (x : OutCell) (c : Chip) : (placeReport x c).mixer = c.mixer := by rw [placeReport_frame]
@[simp] theorem placeReport_sel (x : OutCell) (c : Chip) : (placeReport x c).sel = c.sel := by rw [placeReport_frame]
@[simp] theorem placeReport_link (x : OutCell) (c : Chip) : (placeReport x c).link = c.link := by rw [placeReport_frame]
@[simp] theorem placeReport_sched (x : OutCell) (c : Chip) : (placeReport x c).sched = c.sched := by rw [placeReport_frame]
@[simp] theorem placeReport_acct (x : OutCell) (c : Chip) : (placeReport x c).acct = c.acct := by rw [placeReport_frame]
@[simp] theorem placeReport_clips (x : OutCell) (c : Chip) : (placeReport x c).clips = c.clips := by rw [placeReport_frame]
@[simp] theorem placeReport_choices (x : OutCell) (c : Chip) : (placeReport x c).choices = c.choices := by rw [placeReport_frame]

/-- refillOut replaces nothing but out, fo, port. -/
theorem refillOut_frame (c : Chip) :
    refillOut c = { c with out := (refillOut c).out, fo := (refillOut c).fo, port := (refillOut c).port } := by
  unfold refillOut
  split
  · split
    · rfl
    · split <;> rfl
  · rfl
@[simp] theorem refillOut_unit (c : Chip) : (refillOut c).unit = c.unit := by rw [refillOut_frame]
@[simp] theorem refillOut_lanes (c : Chip) : (refillOut c).lanes = c.lanes := by rw [refillOut_frame]
@[simp] theorem refillOut_ht (c : Chip) : (refillOut c).ht = c.ht := by rw [refillOut_frame]
@[simp] theorem refillOut_time (c : Chip) : (refillOut c).time = c.time := by rw [refillOut_frame]
@[simp] theorem refillOut_steer (c : Chip) : (refillOut c).steer = c.steer := by rw [refillOut_frame]
@[simp] theorem refillOut_ctx (c : Chip) : (refillOut c).ctx = c.ctx := by rw [refillOut_frame]
@[simp] theorem refillOut_engine (c : Chip) : (refillOut c).engine = c.engine := by rw [refillOut_frame]
@[simp] theorem refillOut_rate (c : Chip) : (refillOut c).rate = c.rate := by rw [refillOut_frame]
@[simp] theorem refillOut_budget (c : Chip) : (refillOut c).budget = c.budget := by rw [refillOut_frame]
@[simp] theorem refillOut_mixer (c : Chip) : (refillOut c).mixer = c.mixer := by rw [refillOut_frame]
@[simp] theorem refillOut_sel (c : Chip) : (refillOut c).sel = c.sel := by rw [refillOut_frame]
@[simp] theorem refillOut_link (c : Chip) : (refillOut c).link = c.link := by rw [refillOut_frame]
@[simp] theorem refillOut_sched (c : Chip) : (refillOut c).sched = c.sched := by rw [refillOut_frame]
@[simp] theorem refillOut_acct (c : Chip) : (refillOut c).acct = c.acct := by rw [refillOut_frame]
@[simp] theorem refillOut_clips (c : Chip) : (refillOut c).clips = c.clips := by rw [refillOut_frame]
@[simp] theorem refillOut_choices (c : Chip) : (refillOut c).choices = c.choices := by rw [refillOut_frame]

/-- foSent replaces nothing but out, fo, port. -/
theorem foSent_frame (c : Chip) :
    foSent c = { c with out := (foSent c).out, fo := (foSent c).fo, port := (foSent c).port } := by
  unfold foSent
  split
  · rfl
  · rw [startFo_frame, refillOut_frame]
@[simp] theorem foSent_unit (c : Chip) : (foSent c).unit = c.unit := by rw [foSent_frame]
@[simp] theorem foSent_lanes (c : Chip) : (foSent c).lanes = c.lanes := by rw [foSent_frame]
@[simp] theorem foSent_ht (c : Chip) : (foSent c).ht = c.ht := by rw [foSent_frame]
@[simp] theorem foSent_time (c : Chip) : (foSent c).time = c.time := by rw [foSent_frame]
@[simp] theorem foSent_steer (c : Chip) : (foSent c).steer = c.steer := by rw [foSent_frame]
@[simp] theorem foSent_ctx (c : Chip) : (foSent c).ctx = c.ctx := by rw [foSent_frame]
@[simp] theorem foSent_engine (c : Chip) : (foSent c).engine = c.engine := by rw [foSent_frame]
@[simp] theorem foSent_rate (c : Chip) : (foSent c).rate = c.rate := by rw [foSent_frame]
@[simp] theorem foSent_budget (c : Chip) : (foSent c).budget = c.budget := by rw [foSent_frame]
@[simp] theorem foSent_mixer (c : Chip) : (foSent c).mixer = c.mixer := by rw [foSent_frame]
@[simp] theorem foSent_sel (c : Chip) : (foSent c).sel = c.sel := by rw [foSent_frame]
@[simp] theorem foSent_link (c : Chip) : (foSent c).link = c.link := by rw [foSent_frame]
@[simp] theorem foSent_sched (c : Chip) : (foSent c).sched = c.sched := by rw [foSent_frame]
@[simp] theorem foSent_acct (c : Chip) : (foSent c).acct = c.acct := by rw [foSent_frame]
@[simp] theorem foSent_clips (c : Chip) : (foSent c).clips = c.clips := by rw [foSent_frame]
@[simp] theorem foSent_choices (c : Chip) : (foSent c).choices = c.choices := by rw [foSent_frame]

/-- queueNotice replaces nothing but out, fo, port. -/
theorem queueNotice_frame (c : Chip) :
    queueNotice c = { c with out := (queueNotice c).out, fo := (queueNotice c).fo, port := (queueNotice c).port } := by
  unfold queueNotice
  split
  · rw [placeReport_frame]
  · rfl
@[simp] theorem queueNotice_unit (c : Chip) : (queueNotice c).unit = c.unit := by rw [queueNotice_frame]
@[simp] theorem queueNotice_lanes (c : Chip) : (queueNotice c).lanes = c.lanes := by rw [queueNotice_frame]
@[simp] theorem queueNotice_ht (c : Chip) : (queueNotice c).ht = c.ht := by rw [queueNotice_frame]
@[simp] theorem queueNotice_time (c : Chip) : (queueNotice c).time = c.time := by rw [queueNotice_frame]
@[simp] theorem queueNotice_steer (c : Chip) : (queueNotice c).steer = c.steer := by rw [queueNotice_frame]
@[simp] theorem queueNotice_ctx (c : Chip) : (queueNotice c).ctx = c.ctx := by rw [queueNotice_frame]
@[simp] theorem queueNotice_engine (c : Chip) : (queueNotice c).engine = c.engine := by rw [queueNotice_frame]
@[simp] theorem queueNotice_rate (c : Chip) : (queueNotice c).rate = c.rate := by rw [queueNotice_frame]
@[simp] theorem queueNotice_budget (c : Chip) : (queueNotice c).budget = c.budget := by rw [queueNotice_frame]
@[simp] theorem queueNotice_mixer (c : Chip) : (queueNotice c).mixer = c.mixer := by rw [queueNotice_frame]
@[simp] theorem queueNotice_sel (c : Chip) : (queueNotice c).sel = c.sel := by rw [queueNotice_frame]
@[simp] theorem queueNotice_link (c : Chip) : (queueNotice c).link = c.link := by rw [queueNotice_frame]
@[simp] theorem queueNotice_sched (c : Chip) : (queueNotice c).sched = c.sched := by rw [queueNotice_frame]
@[simp] theorem queueNotice_acct (c : Chip) : (queueNotice c).acct = c.acct := by rw [queueNotice_frame]
@[simp] theorem queueNotice_clips (c : Chip) : (queueNotice c).clips = c.clips := by rw [queueNotice_frame]
@[simp] theorem queueNotice_choices (c : Chip) : (queueNotice c).choices = c.choices := by rw [queueNotice_frame]

/-- setAttention replaces nothing but out, fo, port. -/
theorem setAttention_frame (as : List AttClass) (c : Chip) :
    setAttention as c = { c with out := (setAttention as c).out, fo := (setAttention as c).fo, port := (setAttention as c).port } := by
  unfold setAttention
  dsimp only
  split
  · rfl
  · rw [queueNotice_frame]
@[simp] theorem setAttention_unit (as : List AttClass) (c : Chip) : (setAttention as c).unit = c.unit := by rw [setAttention_frame]
@[simp] theorem setAttention_lanes (as : List AttClass) (c : Chip) : (setAttention as c).lanes = c.lanes := by rw [setAttention_frame]
@[simp] theorem setAttention_ht (as : List AttClass) (c : Chip) : (setAttention as c).ht = c.ht := by rw [setAttention_frame]
@[simp] theorem setAttention_time (as : List AttClass) (c : Chip) : (setAttention as c).time = c.time := by rw [setAttention_frame]
@[simp] theorem setAttention_steer (as : List AttClass) (c : Chip) : (setAttention as c).steer = c.steer := by rw [setAttention_frame]
@[simp] theorem setAttention_ctx (as : List AttClass) (c : Chip) : (setAttention as c).ctx = c.ctx := by rw [setAttention_frame]
@[simp] theorem setAttention_engine (as : List AttClass) (c : Chip) : (setAttention as c).engine = c.engine := by rw [setAttention_frame]
@[simp] theorem setAttention_rate (as : List AttClass) (c : Chip) : (setAttention as c).rate = c.rate := by rw [setAttention_frame]
@[simp] theorem setAttention_budget (as : List AttClass) (c : Chip) : (setAttention as c).budget = c.budget := by rw [setAttention_frame]
@[simp] theorem setAttention_mixer (as : List AttClass) (c : Chip) : (setAttention as c).mixer = c.mixer := by rw [setAttention_frame]
@[simp] theorem setAttention_sel (as : List AttClass) (c : Chip) : (setAttention as c).sel = c.sel := by rw [setAttention_frame]
@[simp] theorem setAttention_link (as : List AttClass) (c : Chip) : (setAttention as c).link = c.link := by rw [setAttention_frame]
@[simp] theorem setAttention_sched (as : List AttClass) (c : Chip) : (setAttention as c).sched = c.sched := by rw [setAttention_frame]
@[simp] theorem setAttention_acct (as : List AttClass) (c : Chip) : (setAttention as c).acct = c.acct := by rw [setAttention_frame]
@[simp] theorem setAttention_clips (as : List AttClass) (c : Chip) : (setAttention as c).clips = c.clips := by rw [setAttention_frame]
@[simp] theorem setAttention_choices (as : List AttClass) (c : Chip) : (setAttention as c).choices = c.choices := by rw [setAttention_frame]

/-- setAttentionIf replaces nothing but out, fo, port. -/
theorem setAttentionIf_frame (b : Bool) (as : List AttClass) (c : Chip) :
    setAttentionIf b as c = { c with out := (setAttentionIf b as c).out, fo := (setAttentionIf b as c).fo, port := (setAttentionIf b as c).port } := by
  unfold setAttentionIf
  split
  · rw [setAttention_frame]
  · rfl
@[simp] theorem setAttentionIf_unit (b : Bool) (as : List AttClass) (c : Chip) : (setAttentionIf b as c).unit = c.unit := by rw [setAttentionIf_frame]
@[simp] theorem setAttentionIf_lanes (b : Bool) (as : List AttClass) (c : Chip) : (setAttentionIf b as c).lanes = c.lanes := by rw [setAttentionIf_frame]
@[simp] theorem setAttentionIf_ht (b : Bool) (as : List AttClass) (c : Chip) : (setAttentionIf b as c).ht = c.ht := by rw [setAttentionIf_frame]
@[simp] theorem setAttentionIf_time (b : Bool) (as : List AttClass) (c : Chip) : (setAttentionIf b as c).time = c.time := by rw [setAttentionIf_frame]
@[simp] theorem setAttentionIf_steer (b : Bool) (as : List AttClass) (c : Chip) : (setAttentionIf b as c).steer = c.steer := by rw [setAttentionIf_frame]
@[simp] theorem setAttentionIf_ctx (b : Bool) (as : List AttClass) (c : Chip) : (setAttentionIf b as c).ctx = c.ctx := by rw [setAttentionIf_frame]
@[simp] theorem setAttentionIf_engine (b : Bool) (as : List AttClass) (c : Chip) : (setAttentionIf b as c).engine = c.engine := by rw [setAttentionIf_frame]
@[simp] theorem setAttentionIf_rate (b : Bool) (as : List AttClass) (c : Chip) : (setAttentionIf b as c).rate = c.rate := by rw [setAttentionIf_frame]
@[simp] theorem setAttentionIf_budget (b : Bool) (as : List AttClass) (c : Chip) : (setAttentionIf b as c).budget = c.budget := by rw [setAttentionIf_frame]
@[simp] theorem setAttentionIf_mixer (b : Bool) (as : List AttClass) (c : Chip) : (setAttentionIf b as c).mixer = c.mixer := by rw [setAttentionIf_frame]
@[simp] theorem setAttentionIf_sel (b : Bool) (as : List AttClass) (c : Chip) : (setAttentionIf b as c).sel = c.sel := by rw [setAttentionIf_frame]
@[simp] theorem setAttentionIf_link (b : Bool) (as : List AttClass) (c : Chip) : (setAttentionIf b as c).link = c.link := by rw [setAttentionIf_frame]
@[simp] theorem setAttentionIf_sched (b : Bool) (as : List AttClass) (c : Chip) : (setAttentionIf b as c).sched = c.sched := by rw [setAttentionIf_frame]
@[simp] theorem setAttentionIf_acct (b : Bool) (as : List AttClass) (c : Chip) : (setAttentionIf b as c).acct = c.acct := by rw [setAttentionIf_frame]
@[simp] theorem setAttentionIf_clips (b : Bool) (as : List AttClass) (c : Chip) : (setAttentionIf b as c).clips = c.clips := by rw [setAttentionIf_frame]
@[simp] theorem setAttentionIf_choices (b : Bool) (as : List AttClass) (c : Chip) : (setAttentionIf b as c).choices = c.choices := by rw [setAttentionIf_frame]

/-- placeAnswer replaces nothing but out, fo, port. -/
theorem placeAnswer_frame (tag : Byte) (name : List Byte) (r : Reply) (c : Chip) :
    placeAnswer tag name r c = { c with out := (placeAnswer tag name r c).out, fo := (placeAnswer tag name r c).fo, port := (placeAnswer tag name r c).port } := by
  unfold placeAnswer
  rw [placeReport_frame]
@[simp] theorem placeAnswer_unit (tag : Byte) (name : List Byte) (r : Reply) (c : Chip) : (placeAnswer tag name r c).unit = c.unit := by rw [placeAnswer_frame]
@[simp] theorem placeAnswer_lanes (tag : Byte) (name : List Byte) (r : Reply) (c : Chip) : (placeAnswer tag name r c).lanes = c.lanes := by rw [placeAnswer_frame]
@[simp] theorem placeAnswer_ht (tag : Byte) (name : List Byte) (r : Reply) (c : Chip) : (placeAnswer tag name r c).ht = c.ht := by rw [placeAnswer_frame]
@[simp] theorem placeAnswer_time (tag : Byte) (name : List Byte) (r : Reply) (c : Chip) : (placeAnswer tag name r c).time = c.time := by rw [placeAnswer_frame]
@[simp] theorem placeAnswer_steer (tag : Byte) (name : List Byte) (r : Reply) (c : Chip) : (placeAnswer tag name r c).steer = c.steer := by rw [placeAnswer_frame]
@[simp] theorem placeAnswer_ctx (tag : Byte) (name : List Byte) (r : Reply) (c : Chip) : (placeAnswer tag name r c).ctx = c.ctx := by rw [placeAnswer_frame]
@[simp] theorem placeAnswer_engine (tag : Byte) (name : List Byte) (r : Reply) (c : Chip) : (placeAnswer tag name r c).engine = c.engine := by rw [placeAnswer_frame]
@[simp] theorem placeAnswer_rate (tag : Byte) (name : List Byte) (r : Reply) (c : Chip) : (placeAnswer tag name r c).rate = c.rate := by rw [placeAnswer_frame]
@[simp] theorem placeAnswer_budget (tag : Byte) (name : List Byte) (r : Reply) (c : Chip) : (placeAnswer tag name r c).budget = c.budget := by rw [placeAnswer_frame]
@[simp] theorem placeAnswer_mixer (tag : Byte) (name : List Byte) (r : Reply) (c : Chip) : (placeAnswer tag name r c).mixer = c.mixer := by rw [placeAnswer_frame]
@[simp] theorem placeAnswer_sel (tag : Byte) (name : List Byte) (r : Reply) (c : Chip) : (placeAnswer tag name r c).sel = c.sel := by rw [placeAnswer_frame]
@[simp] theorem placeAnswer_link (tag : Byte) (name : List Byte) (r : Reply) (c : Chip) : (placeAnswer tag name r c).link = c.link := by rw [placeAnswer_frame]
@[simp] theorem placeAnswer_sched (tag : Byte) (name : List Byte) (r : Reply) (c : Chip) : (placeAnswer tag name r c).sched = c.sched := by rw [placeAnswer_frame]
@[simp] theorem placeAnswer_acct (tag : Byte) (name : List Byte) (r : Reply) (c : Chip) : (placeAnswer tag name r c).acct = c.acct := by rw [placeAnswer_frame]
@[simp] theorem placeAnswer_clips (tag : Byte) (name : List Byte) (r : Reply) (c : Chip) : (placeAnswer tag name r c).clips = c.clips := by rw [placeAnswer_frame]
@[simp] theorem placeAnswer_choices (tag : Byte) (name : List Byte) (r : Reply) (c : Chip) : (placeAnswer tag name r c).choices = c.choices := by rw [placeAnswer_frame]

/-! ## The attention set (R179) -/

@[simp] theorem moveReport_attention (c : Chip) : (moveReport c).port.attention = c.port.attention := by
  unfold moveReport
  split
  · split
    · rfl
    · rw [joinOut_port]
  · rfl

@[simp] theorem placeReport_attention (x : OutCell) (c : Chip) :
    (placeReport x c).port.attention = c.port.attention := by
  rw [placeReport, moveReport_attention]

@[simp] theorem queueNotice_attention (c : Chip) : (queueNotice c).port.attention = c.port.attention := by
  unfold queueNotice
  split
  · rw [placeReport_attention]
  · rfl

/-- R179: the attention set after classes are set, whatever becomes of their notice. -/
@[simp] theorem setAttention_attention (as : List AttClass) (c : Chip) :
    (setAttention as c).port.attention = c.port.attention ||| attMask as := by
  unfold setAttention
  dsimp only
  split
  · rfl
  · rw [queueNotice_attention]

end Sys2Proof.Machine
end

