-- ==== Sys2Proof/Laws/Commands.lean ====
section
/-! SUPPORT. Taking an addressed command, taking a global one, and the lists of the output lane. -/

namespace Sys2Proof.Machine

/-! ## Commands (R175, R176) -/

/-- R175: with 16 entries in the report queue the command's work is not done. -/
theorem takeCommand_full {tag : Byte} {name : CommandName} {work : Chip → Chip × Reply} {c : Chip}
    (h : 16 ≤ c.port.report.length) :
    takeCommand tag name work c
      = { c with port := { c.port with queueFullDiscards := bump c.port.queueFullDiscards } } := by
  simp [takeCommand, takeAddressed, h]

/-- R175: with room the work is done behind a held place, and its answer placed. -/
theorem takeCommand_room {tag : Byte} {name : CommandName} {work : Chip → Chip × Reply} {c : Chip}
    (h : c.port.report.length < 16) :
    takeCommand tag name work c
      = placeAnswer tag (nameBytes name) (work (holdPlace c)).2 (work (holdPlace c)).1 := by
  have : ¬16 ≤ c.port.report.length := by omega
  simp [takeCommand, takeAddressed, this]

/-- R176: a command whose work is refused is answered and leaves the rest as it was. -/
theorem takeCommand_refuse {tag : Byte} {name : CommandName} {work : Chip → Chip × Reply} {c : Chip} {r : ResultCode}
    (h : c.port.report.length < 16) (hw : work (holdPlace c) = refuse r (holdPlace c)) :
    takeCommand tag name work c = placeAnswer tag (nameBytes name) (reply r) (holdPlace c) := by
  rw [takeCommand_room h, hw]; rfl

@[simp] theorem refuse_fst (r : ResultCode) (c : Chip) : (refuse r c).1 = c := rfl
@[simp] theorem refuse_snd (r : ResultCode) (c : Chip) : (refuse r c).2 = reply r := rfl
@[simp] theorem reply_code (r : ResultCode) : (reply r).code = r := rfl
@[simp] theorem reply_data (r : ResultCode) : (reply r).data = [] := rfl

theorem holdPlace_held (c : Chip) : (holdPlace c).port.held = true := rfl
@[simp] theorem holdPlace_mode (c : Chip) : (holdPlace c).port.mode = c.port.mode := rfl
@[simp] theorem holdPlace_report (c : Chip) : (holdPlace c).port.report = c.port.report := rfl
@[simp] theorem holdPlace_attention (c : Chip) : (holdPlace c).port.attention = c.port.attention := rfl
@[simp] theorem holdPlace_enables (c : Chip) : (holdPlace c).port.enables = c.port.enables := rfl

/-! ## Lists of the output lane (R11) -/

/-- takeFirst answers the first member for which the test holds, with what stood before and behind it. -/
theorem takeFirst_some {α : Type} {p : α → Bool} {l : List α} {x : α} {rest : List α}
    (h : takeFirst p l = some (x, rest)) :
    ∃ before after, l = before ++ x :: after ∧ rest = before ++ after ∧ p x = true ∧ ∀ y ∈ before, p y = false := by
  induction l generalizing x rest with
  | nil => simp [takeFirst] at h
  | cons y ys ih =>
    unfold takeFirst at h
    split at h
    · cases h; exact ⟨[], _, rfl, rfl, ‹_›, by simp⟩
    · rename_i hy
      split at h
      · rename_i z zs hz
        cases h
        obtain ⟨b, a, h1, h2, h3, h4⟩ := ih hz
        exact ⟨y :: b, a, by simp [h1], by simp [h2], h3, by
          intro w hw
          cases hw with
          | head => exact Bool.eq_false_iff.mpr hy
          | tail _ hw => exact h4 w hw⟩
      · cases h

/-- takeFirst answers nothing where the test holds of no member. -/
theorem takeFirst_none {α : Type} {p : α → Bool} {l : List α} : takeFirst p l = none ↔ ∀ x ∈ l, p x = false := by
  induction l with
  | nil => simp [takeFirst]
  | cons y ys ih =>
    unfold takeFirst
    split
    · rename_i h; simp [h]
    · rename_i h
      split
      · rename_i h2
        have : ¬∀ x ∈ ys, p x = false := fun hh => by rw [ih.mpr hh] at h2; cases h2
        simp only [List.mem_cons, forall_eq_or_imp, reduceCtorEq, false_iff]
        exact fun hh => this hh.2
      · rename_i h2
        simpa [h] using ih.mp h2

/-- The chosen cell is one of the queue, and the rest is the queue without it. -/
theorem chooseCell_perm {q : List OutCell} {x : OutCell} {rest : List OutCell} (h : chooseCell q = some (x, rest)) :
    ∃ before after, q = before ++ x :: after ∧ rest = before ++ after := by
  have go : ∀ p : OutCell → Bool, takeFirst p q = some (x, rest) →
      ∃ before after, q = before ++ x :: after ∧ rest = before ++ after := fun p hp => by
    obtain ⟨b, a, h1, h2, -, -⟩ := takeFirst_some hp
    exact ⟨b, a, h1, h2⟩
  unfold chooseCell at h
  split at h
  · rename_i r hr; cases h; exact go _ hr
  · split at h
    · rename_i r hr; cases h; exact go _ hr
    · exact go _ h

/-- Nothing is chosen from an empty queue alone. -/
theorem chooseCell_none {q : List OutCell} : chooseCell q = none ↔ q = [] := by
  unfold chooseCell
  constructor
  · intro h
    split at h
    · cases h
    · split at h
      · cases h
      · cases q with
        | nil => rfl
        | cons y ys => simp [takeFirst] at h
  · rintro rfl; rfl

/-- With FO busy a cell joins the end of the output queue. -/
theorem joinOut_busy {x : OutCell} {c : Chip} {t : TxCell} (h : c.out.tx = some t) :
    joinOut x c = { c with out := { c.out with queue := c.out.queue ++ [x] } } := by
  simp [joinOut, startFo, h]

/-! ## The scheduler's queues (R137 to R139) -/

/-- R138: the label queue never grows past 16 by a join. -/
theorem joinLabel_length (f : LabelFrame) (c : Chip) (h : c.sched.labelQueue.length ≤ 16) :
    (joinLabel f c).sched.labelQueue.length ≤ 16 := by
  unfold joinLabel labelRoom
  split
  · rename_i h2; simp at h2; simp; omega
  · exact h

theorem joinAudio_length (f : AudioFrame) (c : Chip) (h : c.sched.audioQueue.length ≤ 16) :
    (joinAudio f c).sched.audioQueue.length ≤ 16 := by
  unfold joinAudio
  dsimp only
  split <;> simp <;> omega

theorem joinPass_length (x : PassCell) (c : Chip) (h : c.sched.passQueue.length ≤ 32) :
    (joinPass x c).sched.passQueue.length ≤ 32 := by
  unfold joinPass
  dsimp only
  split <;> simp <;> omega

/-! ## Accounting and the clip log: what they leave alone -/

/-- writeLog replaces nothing but acct, and the reports of a LOG_FULL notice. -/
theorem writeLog_frame (e : LogEntry) (c : Chip) :
    writeLog e c = { c with acct := (writeLog e c).acct, out := (writeLog e c).out, fo := (writeLog e c).fo,
                            port := (writeLog e c).port } := by
  unfold writeLog
  split
  · rfl
  · rw [setAttention_frame]

/-- countDelivered replaces nothing but clips, and the reports of a CLIP_DELIVERED notice. -/
theorem countDelivered_frame (n : Nat) (c : Chip) :
    countDelivered n c = { c with clips := (countDelivered n c).clips, out := (countDelivered n c).out,
                                  fo := (countDelivered n c).fo, port := (countDelivered n c).port } := by
  unfold countDelivered
  rw [setAttentionIf_frame]

/-- A resolution's hand-over to the clip log replaces nothing but clips and the reports of its notice. -/
theorem clipsTakePicture_frame (k : Ctx) (p : PicNum) (bad : Bool) (lw : PicNum) (c : Chip) :
    clipsTakePicture k p bad lw c
      = { c with clips := (clipsTakePicture k p bad lw c).clips, out := (clipsTakePicture k p bad lw c).out,
                 fo := (clipsTakePicture k p bad lw c).fo, port := (clipsTakePicture k p bad lw c).port } := by
  unfold clipsTakePicture doneStep
  rw [countDelivered_frame]
  cases bad <;> rfl

end Sys2Proof.Machine
end

