-- ==== Sys2Proof/Laws/Frames.lean ====
section
/-! SUPPORT. What the operations that several blocks share can change: each is its part with only the fields named in its
frame lemma replaced, and every other field is as it was. -/

namespace Sys2Proof.Machine

/-- logLabel replaces nothing but out, fo, acct, port. -/
theorem logLabel_frame (delivered : Bool) (i : Nat) (version : Byte) (sendCount : Nat) (c : Chip) :
    logLabel delivered i version sendCount c = { c with
        out := (logLabel delivered i version sendCount c).out, fo := (logLabel delivered i version sendCount c).fo,
        acct := (logLabel delivered i version sendCount c).acct, port := (logLabel delivered i version sendCount c).port } := by
  unfold logLabel
  dsimp only
  rw [writeLog_frame]
@[simp] theorem logLabel_unit (delivered : Bool) (i : Nat) (version : Byte) (sendCount : Nat) (c : Chip) :
    (logLabel delivered i version sendCount c).unit = c.unit := by rw [logLabel_frame]
@[simp] theorem logLabel_lanes (delivered : Bool) (i : Nat) (version : Byte) (sendCount : Nat) (c : Chip) :
    (logLabel delivered i version sendCount c).lanes = c.lanes := by rw [logLabel_frame]
@[simp] theorem logLabel_ht (delivered : Bool) (i : Nat) (version : Byte) (sendCount : Nat) (c : Chip) :
    (logLabel delivered i version sendCount c).ht = c.ht := by rw [logLabel_frame]
@[simp] theorem logLabel_time (delivered : Bool) (i : Nat) (version : Byte) (sendCount : Nat) (c : Chip) :
    (logLabel delivered i version sendCount c).time = c.time := by rw [logLabel_frame]
@[simp] theorem logLabel_steer (delivered : Bool) (i : Nat) (version : Byte) (sendCount : Nat) (c : Chip) :
    (logLabel delivered i version sendCount c).steer = c.steer := by rw [logLabel_frame]
@[simp] theorem logLabel_ctx (delivered : Bool) (i : Nat) (version : Byte) (sendCount : Nat) (c : Chip) :
    (logLabel delivered i version sendCount c).ctx = c.ctx := by rw [logLabel_frame]
@[simp] theorem logLabel_engine (delivered : Bool) (i : Nat) (version : Byte) (sendCount : Nat) (c : Chip) :
    (logLabel delivered i version sendCount c).engine = c.engine := by rw [logLabel_frame]
@[simp] theorem logLabel_rate (delivered : Bool) (i : Nat) (version : Byte) (sendCount : Nat) (c : Chip) :
    (logLabel delivered i version sendCount c).rate = c.rate := by rw [logLabel_frame]
@[simp] theorem logLabel_budget (delivered : Bool) (i : Nat) (version : Byte) (sendCount : Nat) (c : Chip) :
    (logLabel delivered i version sendCount c).budget = c.budget := by rw [logLabel_frame]
@[simp] theorem logLabel_mixer (delivered : Bool) (i : Nat) (version : Byte) (sendCount : Nat) (c : Chip) :
    (logLabel delivered i version sendCount c).mixer = c.mixer := by rw [logLabel_frame]
@[simp] theorem logLabel_sel (delivered : Bool) (i : Nat) (version : Byte) (sendCount : Nat) (c : Chip) :
    (logLabel delivered i version sendCount c).sel = c.sel := by rw [logLabel_frame]
@[simp] theorem logLabel_link (delivered : Bool) (i : Nat) (version : Byte) (sendCount : Nat) (c : Chip) :
    (logLabel delivered i version sendCount c).link = c.link := by rw [logLabel_frame]
@[simp] theorem logLabel_sched (delivered : Bool) (i : Nat) (version : Byte) (sendCount : Nat) (c : Chip) :
    (logLabel delivered i version sendCount c).sched = c.sched := by rw [logLabel_frame]
@[simp] theorem logLabel_clips (delivered : Bool) (i : Nat) (version : Byte) (sendCount : Nat) (c : Chip) :
    (logLabel delivered i version sendCount c).clips = c.clips := by rw [logLabel_frame]
@[simp] theorem logLabel_choices (delivered : Bool) (i : Nat) (version : Byte) (sendCount : Nat) (c : Chip) :
    (logLabel delivered i version sendCount c).choices = c.choices := by rw [logLabel_frame]

/-- resolve replaces nothing but out, fo, acct, clips, port. -/
theorem resolve_frame (p : Picture) (q : Option Nat) (sends : Nat) (o : PicOutcome) (c : Chip) :
    resolve p q sends o c = { c with
        out := (resolve p q sends o c).out, fo := (resolve p q sends o c).fo,
        acct := (resolve p q sends o c).acct, clips := (resolve p q sends o c).clips,
        port := (resolve p q sends o c).port } := by
  unfold resolve
  dsimp only
  split
  · rw [writeLog_frame, clipsTakePicture_frame]
    unfold setLowWater
    rw [setAttention_frame]
  · rw [clipsTakePicture_frame]
    unfold setLowWater
    rw [setAttention_frame]
@[simp] theorem resolve_unit (p : Picture) (q : Option Nat) (sends : Nat) (o : PicOutcome) (c : Chip) :
    (resolve p q sends o c).unit = c.unit := by rw [resolve_frame]
@[simp] theorem resolve_lanes (p : Picture) (q : Option Nat) (sends : Nat) (o : PicOutcome) (c : Chip) :
    (resolve p q sends o c).lanes = c.lanes := by rw [resolve_frame]
@[simp] theorem resolve_ht (p : Picture) (q : Option Nat) (sends : Nat) (o : PicOutcome) (c : Chip) :
    (resolve p q sends o c).ht = c.ht := by rw [resolve_frame]
@[simp] theorem resolve_time (p : Picture) (q : Option Nat) (sends : Nat) (o : PicOutcome) (c : Chip) :
    (resolve p q sends o c).time = c.time := by rw [resolve_frame]
@[simp] theorem resolve_steer (p : Picture) (q : Option Nat) (sends : Nat) (o : PicOutcome) (c : Chip) :
    (resolve p q sends o c).steer = c.steer := by rw [resolve_frame]
@[simp] theorem resolve_ctx (p : Picture) (q : Option Nat) (sends : Nat) (o : PicOutcome) (c : Chip) :
    (resolve p q sends o c).ctx = c.ctx := by rw [resolve_frame]
@[simp] theorem resolve_engine (p : Picture) (q : Option Nat) (sends : Nat) (o : PicOutcome) (c : Chip) :
    (resolve p q sends o c).engine = c.engine := by rw [resolve_frame]
@[simp] theorem resolve_rate (p : Picture) (q : Option Nat) (sends : Nat) (o : PicOutcome) (c : Chip) :
    (resolve p q sends o c).rate = c.rate := by rw [resolve_frame]
@[simp] theorem resolve_budget (p : Picture) (q : Option Nat) (sends : Nat) (o : PicOutcome) (c : Chip) :
    (resolve p q sends o c).budget = c.budget := by rw [resolve_frame]
@[simp] theorem resolve_mixer (p : Picture) (q : Option Nat) (sends : Nat) (o : PicOutcome) (c : Chip) :
    (resolve p q sends o c).mixer = c.mixer := by rw [resolve_frame]
@[simp] theorem resolve_sel (p : Picture) (q : Option Nat) (sends : Nat) (o : PicOutcome) (c : Chip) :
    (resolve p q sends o c).sel = c.sel := by rw [resolve_frame]
@[simp] theorem resolve_link (p : Picture) (q : Option Nat) (sends : Nat) (o : PicOutcome) (c : Chip) :
    (resolve p q sends o c).link = c.link := by rw [resolve_frame]
@[simp] theorem resolve_sched (p : Picture) (q : Option Nat) (sends : Nat) (o : PicOutcome) (c : Chip) :
    (resolve p q sends o c).sched = c.sched := by rw [resolve_frame]
@[simp] theorem resolve_choices (p : Picture) (q : Option Nat) (sends : Nat) (o : PicOutcome) (c : Chip) :
    (resolve p q sends o c).choices = c.choices := by rw [resolve_frame]

/-- endDrainedContext replaces nothing but ctx, rate. -/
theorem endDrainedContext_frame (k : Ctx) (c : Chip) :
    endDrainedContext k c = { c with
        ctx := (endDrainedContext k c).ctx, rate := (endDrainedContext k c).rate } := by
  unfold endDrainedContext reachStopped
  split <;> rfl
@[simp] theorem endDrainedContext_unit (k : Ctx) (c : Chip) :
    (endDrainedContext k c).unit = c.unit := by rw [endDrainedContext_frame]
@[simp] theorem endDrainedContext_lanes (k : Ctx) (c : Chip) :
    (endDrainedContext k c).lanes = c.lanes := by rw [endDrainedContext_frame]
@[simp] theorem endDrainedContext_out (k : Ctx) (c : Chip) :
    (endDrainedContext k c).out = c.out := by rw [endDrainedContext_frame]
@[simp] theorem endDrainedContext_fo (k : Ctx) (c : Chip) :
    (endDrainedContext k c).fo = c.fo := by rw [endDrainedContext_frame]
@[simp] theorem endDrainedContext_ht (k : Ctx) (c : Chip) :
    (endDrainedContext k c).ht = c.ht := by rw [endDrainedContext_frame]
@[simp] theorem endDrainedContext_time (k : Ctx) (c : Chip) :
    (endDrainedContext k c).time = c.time := by rw [endDrainedContext_frame]
@[simp] theorem endDrainedContext_steer (k : Ctx) (c : Chip) :
    (endDrainedContext k c).steer = c.steer := by rw [endDrainedContext_frame]
@[simp] theorem endDrainedContext_engine (k : Ctx) (c : Chip) :
    (endDrainedContext k c).engine = c.engine := by rw [endDrainedContext_frame]
@[simp] theorem endDrainedContext_budget (k : Ctx) (c : Chip) :
    (endDrainedContext k c).budget = c.budget := by rw [endDrainedContext_frame]
@[simp] theorem endDrainedContext_mixer (k : Ctx) (c : Chip) :
    (endDrainedContext k c).mixer = c.mixer := by rw [endDrainedContext_frame]
@[simp] theorem endDrainedContext_sel (k : Ctx) (c : Chip) :
    (endDrainedContext k c).sel = c.sel := by rw [endDrainedContext_frame]
@[simp] theorem endDrainedContext_link (k : Ctx) (c : Chip) :
    (endDrainedContext k c).link = c.link := by rw [endDrainedContext_frame]
@[simp] theorem endDrainedContext_sched (k : Ctx) (c : Chip) :
    (endDrainedContext k c).sched = c.sched := by rw [endDrainedContext_frame]
@[simp] theorem endDrainedContext_acct (k : Ctx) (c : Chip) :
    (endDrainedContext k c).acct = c.acct := by rw [endDrainedContext_frame]
@[simp] theorem endDrainedContext_clips (k : Ctx) (c : Chip) :
    (endDrainedContext k c).clips = c.clips := by rw [endDrainedContext_frame]
@[simp] theorem endDrainedContext_port (k : Ctx) (c : Chip) :
    (endDrainedContext k c).port = c.port := by rw [endDrainedContext_frame]
@[simp] theorem endDrainedContext_choices (k : Ctx) (c : Chip) :
    (endDrainedContext k c).choices = c.choices := by rw [endDrainedContext_frame]

/-- judgeQueued replaces nothing but out, fo, ctx, rate, sched, acct, clips, port. -/
theorem judgeQueued_frame (k : Ctx) (n : PicNum) (c : Chip) :
    judgeQueued k n c = { c with
        out := (judgeQueued k n c).out, fo := (judgeQueued k n c).fo,
        ctx := (judgeQueued k n c).ctx, rate := (judgeQueued k n c).rate,
        sched := (judgeQueued k n c).sched, acct := (judgeQueued k n c).acct,
        clips := (judgeQueued k n c).clips, port := (judgeQueued k n c).port } := by
  unfold judgeQueued
  split
  · rfl
  · split
    · rw [endDrainedContext_frame, resolve_frame]
      rfl
    · rfl
@[simp] theorem judgeQueued_unit (k : Ctx) (n : PicNum) (c : Chip) :
    (judgeQueued k n c).unit = c.unit := by rw [judgeQueued_frame]
@[simp] theorem judgeQueued_lanes (k : Ctx) (n : PicNum) (c : Chip) :
    (judgeQueued k n c).lanes = c.lanes := by rw [judgeQueued_frame]
@[simp] theorem judgeQueued_ht (k : Ctx) (n : PicNum) (c : Chip) :
    (judgeQueued k n c).ht = c.ht := by rw [judgeQueued_frame]
@[simp] theorem judgeQueued_time (k : Ctx) (n : PicNum) (c : Chip) :
    (judgeQueued k n c).time = c.time := by rw [judgeQueued_frame]
@[simp] theorem judgeQueued_steer (k : Ctx) (n : PicNum) (c : Chip) :
    (judgeQueued k n c).steer = c.steer := by rw [judgeQueued_frame]
@[simp] theorem judgeQueued_engine (k : Ctx) (n : PicNum) (c : Chip) :
    (judgeQueued k n c).engine = c.engine := by rw [judgeQueued_frame]
@[simp] theorem judgeQueued_budget (k : Ctx) (n : PicNum) (c : Chip) :
    (judgeQueued k n c).budget = c.budget := by rw [judgeQueued_frame]
@[simp] theorem judgeQueued_mixer (k : Ctx) (n : PicNum) (c : Chip) :
    (judgeQueued k n c).mixer = c.mixer := by rw [judgeQueued_frame]
@[simp] theorem judgeQueued_sel (k : Ctx) (n : PicNum) (c : Chip) :
    (judgeQueued k n c).sel = c.sel := by rw [judgeQueued_frame]
@[simp] theorem judgeQueued_link (k : Ctx) (n : PicNum) (c : Chip) :
    (judgeQueued k n c).link = c.link := by rw [judgeQueued_frame]
@[simp] theorem judgeQueued_choices (k : Ctx) (n : PicNum) (c : Chip) :
    (judgeQueued k n c).choices = c.choices := by rw [judgeQueued_frame]

/-- changeQueued replaces nothing but out, fo, ctx, rate, sched, acct, clips, port. -/
theorem changeQueued_frame (k : Ctx) (n : PicNum) (f : Queued → Queued) (c : Chip) :
    changeQueued k n f c = { c with
        out := (changeQueued k n f c).out, fo := (changeQueued k n f c).fo,
        ctx := (changeQueued k n f c).ctx, rate := (changeQueued k n f c).rate,
        sched := (changeQueued k n f c).sched, acct := (changeQueued k n f c).acct,
        clips := (changeQueued k n f c).clips, port := (changeQueued k n f c).port } := by
  unfold changeQueued
  rw [judgeQueued_frame]
  rfl
@[simp] theorem changeQueued_unit (k : Ctx) (n : PicNum) (f : Queued → Queued) (c : Chip) :
    (changeQueued k n f c).unit = c.unit := by rw [changeQueued_frame]
@[simp] theorem changeQueued_lanes (k : Ctx) (n : PicNum) (f : Queued → Queued) (c : Chip) :
    (changeQueued k n f c).lanes = c.lanes := by rw [changeQueued_frame]
@[simp] theorem changeQueued_ht (k : Ctx) (n : PicNum) (f : Queued → Queued) (c : Chip) :
    (changeQueued k n f c).ht = c.ht := by rw [changeQueued_frame]
@[simp] theorem changeQueued_time (k : Ctx) (n : PicNum) (f : Queued → Queued) (c : Chip) :
    (changeQueued k n f c).time = c.time := by rw [changeQueued_frame]
@[simp] theorem changeQueued_steer (k : Ctx) (n : PicNum) (f : Queued → Queued) (c : Chip) :
    (changeQueued k n f c).steer = c.steer := by rw [changeQueued_frame]
@[simp] theorem changeQueued_engine (k : Ctx) (n : PicNum) (f : Queued → Queued) (c : Chip) :
    (changeQueued k n f c).engine = c.engine := by rw [changeQueued_frame]
@[simp] theorem changeQueued_budget (k : Ctx) (n : PicNum) (f : Queued → Queued) (c : Chip) :
    (changeQueued k n f c).budget = c.budget := by rw [changeQueued_frame]
@[simp] theorem changeQueued_mixer (k : Ctx) (n : PicNum) (f : Queued → Queued) (c : Chip) :
    (changeQueued k n f c).mixer = c.mixer := by rw [changeQueued_frame]
@[simp] theorem changeQueued_sel (k : Ctx) (n : PicNum) (f : Queued → Queued) (c : Chip) :
    (changeQueued k n f c).sel = c.sel := by rw [changeQueued_frame]
@[simp] theorem changeQueued_link (k : Ctx) (n : PicNum) (f : Queued → Queued) (c : Chip) :
    (changeQueued k n f c).link = c.link := by rw [changeQueued_frame]
@[simp] theorem changeQueued_choices (k : Ctx) (n : PicNum) (f : Queued → Queued) (c : Chip) :
    (changeQueued k n f c).choices = c.choices := by rw [changeQueued_frame]

/-- labelDelivered replaces nothing but out, fo, clips, port. -/
theorem labelDelivered_frame (i : Nat) (c : Chip) :
    labelDelivered i c = { c with
        out := (labelDelivered i c).out, fo := (labelDelivered i c).fo,
        clips := (labelDelivered i c).clips, port := (labelDelivered i c).port } := by
  unfold labelDelivered
  split
  · split
    · split
      · rw [countDelivered_frame]; rfl
      · rfl
    · rfl
  · rfl
@[simp] theorem labelDelivered_unit (i : Nat) (c : Chip) :
    (labelDelivered i c).unit = c.unit := by rw [labelDelivered_frame]
@[simp] theorem labelDelivered_lanes (i : Nat) (c : Chip) :
    (labelDelivered i c).lanes = c.lanes := by rw [labelDelivered_frame]
@[simp] theorem labelDelivered_ht (i : Nat) (c : Chip) :
    (labelDelivered i c).ht = c.ht := by rw [labelDelivered_frame]
@[simp] theorem labelDelivered_time (i : Nat) (c : Chip) :
    (labelDelivered i c).time = c.time := by rw [labelDelivered_frame]
@[simp] theorem labelDelivered_steer (i : Nat) (c : Chip) :
    (labelDelivered i c).steer = c.steer := by rw [labelDelivered_frame]
@[simp] theorem labelDelivered_ctx (i : Nat) (c : Chip) :
    (labelDelivered i c).ctx = c.ctx := by rw [labelDelivered_frame]
@[simp] theorem labelDelivered_engine (i : Nat) (c : Chip) :
    (labelDelivered i c).engine = c.engine := by rw [labelDelivered_frame]
@[simp] theorem labelDelivered_rate (i : Nat) (c : Chip) :
    (labelDelivered i c).rate = c.rate := by rw [labelDelivered_frame]
@[simp] theorem labelDelivered_budget (i : Nat) (c : Chip) :
    (labelDelivered i c).budget = c.budget := by rw [labelDelivered_frame]
@[simp] theorem labelDelivered_mixer (i : Nat) (c : Chip) :
    (labelDelivered i c).mixer = c.mixer := by rw [labelDelivered_frame]
@[simp] theorem labelDelivered_sel (i : Nat) (c : Chip) :
    (labelDelivered i c).sel = c.sel := by rw [labelDelivered_frame]
@[simp] theorem labelDelivered_link (i : Nat) (c : Chip) :
    (labelDelivered i c).link = c.link := by rw [labelDelivered_frame]
@[simp] theorem labelDelivered_sched (i : Nat) (c : Chip) :
    (labelDelivered i c).sched = c.sched := by rw [labelDelivered_frame]
@[simp] theorem labelDelivered_acct (i : Nat) (c : Chip) :
    (labelDelivered i c).acct = c.acct := by rw [labelDelivered_frame]
@[simp] theorem labelDelivered_choices (i : Nat) (c : Chip) :
    (labelDelivered i c).choices = c.choices := by rw [labelDelivered_frame]

/-- labelLost replaces nothing but out, fo, clips, port. -/
theorem labelLost_frame (i : Nat) (c : Chip) :
    labelLost i c = { c with
        out := (labelLost i c).out, fo := (labelLost i c).fo,
        clips := (labelLost i c).clips, port := (labelLost i c).port } := by
  unfold labelLost
  split
  · split
    · rw [setAttention_frame]; rfl
    · rfl
  · rfl
@[simp] theorem labelLost_unit (i : Nat) (c : Chip) :
    (labelLost i c).unit = c.unit := by rw [labelLost_frame]
@[simp] theorem labelLost_lanes (i : Nat) (c : Chip) :
    (labelLost i c).lanes = c.lanes := by rw [labelLost_frame]
@[simp] theorem labelLost_ht (i : Nat) (c : Chip) :
    (labelLost i c).ht = c.ht := by rw [labelLost_frame]
@[simp] theorem labelLost_time (i : Nat) (c : Chip) :
    (labelLost i c).time = c.time := by rw [labelLost_frame]
@[simp] theorem labelLost_steer (i : Nat) (c : Chip) :
    (labelLost i c).steer = c.steer := by rw [labelLost_frame]
@[simp] theorem labelLost_ctx (i : Nat) (c : Chip) :
    (labelLost i c).ctx = c.ctx := by rw [labelLost_frame]
@[simp] theorem labelLost_engine (i : Nat) (c : Chip) :
    (labelLost i c).engine = c.engine := by rw [labelLost_frame]
@[simp] theorem labelLost_rate (i : Nat) (c : Chip) :
    (labelLost i c).rate = c.rate := by rw [labelLost_frame]
@[simp] theorem labelLost_budget (i : Nat) (c : Chip) :
    (labelLost i c).budget = c.budget := by rw [labelLost_frame]
@[simp] theorem labelLost_mixer (i : Nat) (c : Chip) :
    (labelLost i c).mixer = c.mixer := by rw [labelLost_frame]
@[simp] theorem labelLost_sel (i : Nat) (c : Chip) :
    (labelLost i c).sel = c.sel := by rw [labelLost_frame]
@[simp] theorem labelLost_link (i : Nat) (c : Chip) :
    (labelLost i c).link = c.link := by rw [labelLost_frame]
@[simp] theorem labelLost_sched (i : Nat) (c : Chip) :
    (labelLost i c).sched = c.sched := by rw [labelLost_frame]
@[simp] theorem labelLost_acct (i : Nat) (c : Chip) :
    (labelLost i c).acct = c.acct := by rw [labelLost_frame]
@[simp] theorem labelLost_choices (i : Nat) (c : Chip) :
    (labelLost i c).choices = c.choices := by rw [labelLost_frame]

/-- settle replaces nothing but out, fo, ctx, rate, sched, acct, clips, port. -/
theorem settle_frame (delivered : Bool) (e : Entry) (c : Chip) :
    settle delivered e c = { c with
        out := (settle delivered e c).out, fo := (settle delivered e c).fo,
        ctx := (settle delivered e c).ctx, rate := (settle delivered e c).rate,
        sched := (settle delivered e c).sched, acct := (settle delivered e c).acct,
        clips := (settle delivered e c).clips, port := (settle delivered e c).port } := by
  unfold settle
  dsimp only
  split
  · rw [changeQueued_frame]; rfl
  · unfold settleLabel
    rw [logLabel_frame]
    split
    · rw [labelDelivered_frame]; rfl
    · rw [labelLost_frame]; rfl
@[simp] theorem settle_unit (delivered : Bool) (e : Entry) (c : Chip) :
    (settle delivered e c).unit = c.unit := by rw [settle_frame]
@[simp] theorem settle_lanes (delivered : Bool) (e : Entry) (c : Chip) :
    (settle delivered e c).lanes = c.lanes := by rw [settle_frame]
@[simp] theorem settle_ht (delivered : Bool) (e : Entry) (c : Chip) :
    (settle delivered e c).ht = c.ht := by rw [settle_frame]
@[simp] theorem settle_time (delivered : Bool) (e : Entry) (c : Chip) :
    (settle delivered e c).time = c.time := by rw [settle_frame]
@[simp] theorem settle_steer (delivered : Bool) (e : Entry) (c : Chip) :
    (settle delivered e c).steer = c.steer := by rw [settle_frame]
@[simp] theorem settle_engine (delivered : Bool) (e : Entry) (c : Chip) :
    (settle delivered e c).engine = c.engine := by rw [settle_frame]
@[simp] theorem settle_budget (delivered : Bool) (e : Entry) (c : Chip) :
    (settle delivered e c).budget = c.budget := by rw [settle_frame]
@[simp] theorem settle_mixer (delivered : Bool) (e : Entry) (c : Chip) :
    (settle delivered e c).mixer = c.mixer := by rw [settle_frame]
@[simp] theorem settle_sel (delivered : Bool) (e : Entry) (c : Chip) :
    (settle delivered e c).sel = c.sel := by rw [settle_frame]
@[simp] theorem settle_link (delivered : Bool) (e : Entry) (c : Chip) :
    (settle delivered e c).link = c.link := by rw [settle_frame]
@[simp] theorem settle_choices (delivered : Bool) (e : Entry) (c : Chip) :
    (settle delivered e c).choices = c.choices := by rw [settle_frame]

/-- enterLink replaces nothing but out, fo, link, port. -/
theorem enterLink_frame (st : LinkState) (also : List AttClass) (c : Chip) :
    enterLink st also c = { c with
        out := (enterLink st also c).out, fo := (enterLink st also c).fo,
        link := (enterLink st also c).link, port := (enterLink st also c).port } := by
  unfold enterLink
  rw [setAttention_frame]
  rfl
@[simp] theorem enterLink_unit (st : LinkState) (also : List AttClass) (c : Chip) :
    (enterLink st also c).unit = c.unit := by rw [enterLink_frame]
@[simp] theorem enterLink_lanes (st : LinkState) (also : List AttClass) (c : Chip) :
    (enterLink st also c).lanes = c.lanes := by rw [enterLink_frame]
@[simp] theorem enterLink_ht (st : LinkState) (also : List AttClass) (c : Chip) :
    (enterLink st also c).ht = c.ht := by rw [enterLink_frame]
@[simp] theorem enterLink_time (st : LinkState) (also : List AttClass) (c : Chip) :
    (enterLink st also c).time = c.time := by rw [enterLink_frame]
@[simp] theorem enterLink_steer (st : LinkState) (also : List AttClass) (c : Chip) :
    (enterLink st also c).steer = c.steer := by rw [enterLink_frame]
@[simp] theorem enterLink_ctx (st : LinkState) (also : List AttClass) (c : Chip) :
    (enterLink st also c).ctx = c.ctx := by rw [enterLink_frame]
@[simp] theorem enterLink_engine (st : LinkState) (also : List AttClass) (c : Chip) :
    (enterLink st also c).engine = c.engine := by rw [enterLink_frame]
@[simp] theorem enterLink_rate (st : LinkState) (also : List AttClass) (c : Chip) :
    (enterLink st also c).rate = c.rate := by rw [enterLink_frame]
@[simp] theorem enterLink_budget (st : LinkState) (also : List AttClass) (c : Chip) :
    (enterLink st also c).budget = c.budget := by rw [enterLink_frame]
@[simp] theorem enterLink_mixer (st : LinkState) (also : List AttClass) (c : Chip) :
    (enterLink st also c).mixer = c.mixer := by rw [enterLink_frame]
@[simp] theorem enterLink_sel (st : LinkState) (also : List AttClass) (c : Chip) :
    (enterLink st also c).sel = c.sel := by rw [enterLink_frame]
@[simp] theorem enterLink_sched (st : LinkState) (also : List AttClass) (c : Chip) :
    (enterLink st also c).sched = c.sched := by rw [enterLink_frame]
@[simp] theorem enterLink_acct (st : LinkState) (also : List AttClass) (c : Chip) :
    (enterLink st also c).acct = c.acct := by rw [enterLink_frame]
@[simp] theorem enterLink_clips (st : LinkState) (also : List AttClass) (c : Chip) :
    (enterLink st also c).clips = c.clips := by rw [enterLink_frame]
@[simp] theorem enterLink_choices (st : LinkState) (also : List AttClass) (c : Chip) :
    (enterLink st also c).choices = c.choices := by rw [enterLink_frame]

/-- beginAttempt replaces nothing but ht, link. -/
theorem beginAttempt_frame (c : Chip) :
    beginAttempt c = { c with
        ht := (beginAttempt c).ht, link := (beginAttempt c).link } := by
  rfl
@[simp] theorem beginAttempt_unit (c : Chip) :
    (beginAttempt c).unit = c.unit := by rw [beginAttempt_frame]
@[simp] theorem beginAttempt_lanes (c : Chip) :
    (beginAttempt c).lanes = c.lanes := by rw [beginAttempt_frame]
@[simp] theorem beginAttempt_out (c : Chip) :
    (beginAttempt c).out = c.out := by rw [beginAttempt_frame]
@[simp] theorem beginAttempt_fo (c : Chip) :
    (beginAttempt c).fo = c.fo := by rw [beginAttempt_frame]
@[simp] theorem beginAttempt_time (c : Chip) :
    (beginAttempt c).time = c.time := by rw [beginAttempt_frame]
@[simp] theorem beginAttempt_steer (c : Chip) :
    (beginAttempt c).steer = c.steer := by rw [beginAttempt_frame]
@[simp] theorem beginAttempt_ctx (c : Chip) :
    (beginAttempt c).ctx = c.ctx := by rw [beginAttempt_frame]
@[simp] theorem beginAttempt_engine (c : Chip) :
    (beginAttempt c).engine = c.engine := by rw [beginAttempt_frame]
@[simp] theorem beginAttempt_rate (c : Chip) :
    (beginAttempt c).rate = c.rate := by rw [beginAttempt_frame]
@[simp] theorem beginAttempt_budget (c : Chip) :
    (beginAttempt c).budget = c.budget := by rw [beginAttempt_frame]
@[simp] theorem beginAttempt_mixer (c : Chip) :
    (beginAttempt c).mixer = c.mixer := by rw [beginAttempt_frame]
@[simp] theorem beginAttempt_sel (c : Chip) :
    (beginAttempt c).sel = c.sel := by rw [beginAttempt_frame]
@[simp] theorem beginAttempt_sched (c : Chip) :
    (beginAttempt c).sched = c.sched := by rw [beginAttempt_frame]
@[simp] theorem beginAttempt_acct (c : Chip) :
    (beginAttempt c).acct = c.acct := by rw [beginAttempt_frame]
@[simp] theorem beginAttempt_clips (c : Chip) :
    (beginAttempt c).clips = c.clips := by rw [beginAttempt_frame]
@[simp] theorem beginAttempt_port (c : Chip) :
    (beginAttempt c).port = c.port := by rw [beginAttempt_frame]
@[simp] theorem beginAttempt_choices (c : Chip) :
    (beginAttempt c).choices = c.choices := by rw [beginAttempt_frame]

/-- arbitrate replaces nothing but ctx, engine. -/
theorem arbitrate_frame (c : Chip) :
    arbitrate c = { c with
        ctx := (arbitrate c).ctx, engine := (arbitrate c).engine } := by
  unfold arbitrate grantTo
  split
  · rfl
  · split
    · split <;> rfl
    · split
      · split <;> rfl
      · rfl
@[simp] theorem arbitrate_unit (c : Chip) :
    (arbitrate c).unit = c.unit := by rw [arbitrate_frame]
@[simp] theorem arbitrate_lanes (c : Chip) :
    (arbitrate c).lanes = c.lanes := by rw [arbitrate_frame]
@[simp] theorem arbitrate_out (c : Chip) :
    (arbitrate c).out = c.out := by rw [arbitrate_frame]
@[simp] theorem arbitrate_fo (c : Chip) :
    (arbitrate c).fo = c.fo := by rw [arbitrate_frame]
@[simp] theorem arbitrate_ht (c : Chip) :
    (arbitrate c).ht = c.ht := by rw [arbitrate_frame]
@[simp] theorem arbitrate_time (c : Chip) :
    (arbitrate c).time = c.time := by rw [arbitrate_frame]
@[simp] theorem arbitrate_steer (c : Chip) :
    (arbitrate c).steer = c.steer := by rw [arbitrate_frame]
@[simp] theorem arbitrate_rate (c : Chip) :
    (arbitrate c).rate = c.rate := by rw [arbitrate_frame]
@[simp] theorem arbitrate_budget (c : Chip) :
    (arbitrate c).budget = c.budget := by rw [arbitrate_frame]
@[simp] theorem arbitrate_mixer (c : Chip) :
    (arbitrate c).mixer = c.mixer := by rw [arbitrate_frame]
@[simp] theorem arbitrate_sel (c : Chip) :
    (arbitrate c).sel = c.sel := by rw [arbitrate_frame]
@[simp] theorem arbitrate_link (c : Chip) :
    (arbitrate c).link = c.link := by rw [arbitrate_frame]
@[simp] theorem arbitrate_sched (c : Chip) :
    (arbitrate c).sched = c.sched := by rw [arbitrate_frame]
@[simp] theorem arbitrate_acct (c : Chip) :
    (arbitrate c).acct = c.acct := by rw [arbitrate_frame]
@[simp] theorem arbitrate_clips (c : Chip) :
    (arbitrate c).clips = c.clips := by rw [arbitrate_frame]
@[simp] theorem arbitrate_port (c : Chip) :
    (arbitrate c).port = c.port := by rw [arbitrate_frame]
@[simp] theorem arbitrate_choices (c : Chip) :
    (arbitrate c).choices = c.choices := by rw [arbitrate_frame]

/-- offerLabel replaces nothing but sched, clips. -/
theorem offerLabel_frame (i : Nat) (x : Clip) (c : Chip) :
    offerLabel i x c = { c with
        sched := (offerLabel i x c).sched, clips := (offerLabel i x c).clips } := by
  unfold offerLabel joinLabel
  split <;> rfl
@[simp] theorem offerLabel_unit (i : Nat) (x : Clip) (c : Chip) :
    (offerLabel i x c).unit = c.unit := by rw [offerLabel_frame]
@[simp] theorem offerLabel_lanes (i : Nat) (x : Clip) (c : Chip) :
    (offerLabel i x c).lanes = c.lanes := by rw [offerLabel_frame]
@[simp] theorem offerLabel_out (i : Nat) (x : Clip) (c : Chip) :
    (offerLabel i x c).out = c.out := by rw [offerLabel_frame]
@[simp] theorem offerLabel_fo (i : Nat) (x : Clip) (c : Chip) :
    (offerLabel i x c).fo = c.fo := by rw [offerLabel_frame]
@[simp] theorem offerLabel_ht (i : Nat) (x : Clip) (c : Chip) :
    (offerLabel i x c).ht = c.ht := by rw [offerLabel_frame]
@[simp] theorem offerLabel_time (i : Nat) (x : Clip) (c : Chip) :
    (offerLabel i x c).time = c.time := by rw [offerLabel_frame]
@[simp] theorem offerLabel_steer (i : Nat) (x : Clip) (c : Chip) :
    (offerLabel i x c).steer = c.steer := by rw [offerLabel_frame]
@[simp] theorem offerLabel_ctx (i : Nat) (x : Clip) (c : Chip) :
    (offerLabel i x c).ctx = c.ctx := by rw [offerLabel_frame]
@[simp] theorem offerLabel_engine (i : Nat) (x : Clip) (c : Chip) :
    (offerLabel i x c).engine = c.engine := by rw [offerLabel_frame]
@[simp] theorem offerLabel_rate (i : Nat) (x : Clip) (c : Chip) :
    (offerLabel i x c).rate = c.rate := by rw [offerLabel_frame]
@[simp] theorem offerLabel_budget (i : Nat) (x : Clip) (c : Chip) :
    (offerLabel i x c).budget = c.budget := by rw [offerLabel_frame]
@[simp] theorem offerLabel_mixer (i : Nat) (x : Clip) (c : Chip) :
    (offerLabel i x c).mixer = c.mixer := by rw [offerLabel_frame]
@[simp] theorem offerLabel_sel (i : Nat) (x : Clip) (c : Chip) :
    (offerLabel i x c).sel = c.sel := by rw [offerLabel_frame]
@[simp] theorem offerLabel_link (i : Nat) (x : Clip) (c : Chip) :
    (offerLabel i x c).link = c.link := by rw [offerLabel_frame]
@[simp] theorem offerLabel_acct (i : Nat) (x : Clip) (c : Chip) :
    (offerLabel i x c).acct = c.acct := by rw [offerLabel_frame]
@[simp] theorem offerLabel_port (i : Nat) (x : Clip) (c : Chip) :
    (offerLabel i x c).port = c.port := by rw [offerLabel_frame]
@[simp] theorem offerLabel_choices (i : Nat) (x : Clip) (c : Chip) :
    (offerLabel i x c).choices = c.choices := by rw [offerLabel_frame]

/-- autoOffer replaces nothing but out, fo, sched, clips, port. -/
theorem autoOffer_frame (i : Nat) (x : Clip) (c : Chip) :
    autoOffer i x c = { c with
        out := (autoOffer i x c).out, fo := (autoOffer i x c).fo,
        sched := (autoOffer i x c).sched, clips := (autoOffer i x c).clips,
        port := (autoOffer i x c).port } := by
  unfold autoOffer
  split
  · rw [setAttentionIf_frame, offerLabel_frame]
  · rfl
@[simp] theorem autoOffer_unit (i : Nat) (x : Clip) (c : Chip) :
    (autoOffer i x c).unit = c.unit := by rw [autoOffer_frame]
@[simp] theorem autoOffer_lanes (i : Nat) (x : Clip) (c : Chip) :
    (autoOffer i x c).lanes = c.lanes := by rw [autoOffer_frame]
@[simp] theorem autoOffer_ht (i : Nat) (x : Clip) (c : Chip) :
    (autoOffer i x c).ht = c.ht := by rw [autoOffer_frame]
@[simp] theorem autoOffer_time (i : Nat) (x : Clip) (c : Chip) :
    (autoOffer i x c).time = c.time := by rw [autoOffer_frame]
@[simp] theorem autoOffer_steer (i : Nat) (x : Clip) (c : Chip) :
    (autoOffer i x c).steer = c.steer := by rw [autoOffer_frame]
@[simp] theorem autoOffer_ctx (i : Nat) (x : Clip) (c : Chip) :
    (autoOffer i x c).ctx = c.ctx := by rw [autoOffer_frame]
@[simp] theorem autoOffer_engine (i : Nat) (x : Clip) (c : Chip) :
    (autoOffer i x c).engine = c.engine := by rw [autoOffer_frame]
@[simp] theorem autoOffer_rate (i : Nat) (x : Clip) (c : Chip) :
    (autoOffer i x c).rate = c.rate := by rw [autoOffer_frame]
@[simp] theorem autoOffer_budget (i : Nat) (x : Clip) (c : Chip) :
    (autoOffer i x c).budget = c.budget := by rw [autoOffer_frame]
@[simp] theorem autoOffer_mixer (i : Nat) (x : Clip) (c : Chip) :
    (autoOffer i x c).mixer = c.mixer := by rw [autoOffer_frame]
@[simp] theorem autoOffer_sel (i : Nat) (x : Clip) (c : Chip) :
    (autoOffer i x c).sel = c.sel := by rw [autoOffer_frame]
@[simp] theorem autoOffer_link (i : Nat) (x : Clip) (c : Chip) :
    (autoOffer i x c).link = c.link := by rw [autoOffer_frame]
@[simp] theorem autoOffer_acct (i : Nat) (x : Clip) (c : Chip) :
    (autoOffer i x c).acct = c.acct := by rw [autoOffer_frame]
@[simp] theorem autoOffer_choices (i : Nat) (x : Clip) (c : Chip) :
    (autoOffer i x c).choices = c.choices := by rw [autoOffer_frame]

/-- offerTallyOf replaces nothing but out, fo, sel. -/
theorem offerTallyOf_frame (k : Ctx) (c : Chip) :
    offerTallyOf k c = { c with
        out := (offerTallyOf k c).out, fo := (offerTallyOf k c).fo,
        sel := (offerTallyOf k c).sel } := by
  unfold offerTallyOf
  split
  · rfl
  · rw [offerTally_frame]
@[simp] theorem offerTallyOf_unit (k : Ctx) (c : Chip) :
    (offerTallyOf k c).unit = c.unit := by rw [offerTallyOf_frame]
@[simp] theorem offerTallyOf_lanes (k : Ctx) (c : Chip) :
    (offerTallyOf k c).lanes = c.lanes := by rw [offerTallyOf_frame]
@[simp] theorem offerTallyOf_ht (k : Ctx) (c : Chip) :
    (offerTallyOf k c).ht = c.ht := by rw [offerTallyOf_frame]
@[simp] theorem offerTallyOf_time (k : Ctx) (c : Chip) :
    (offerTallyOf k c).time = c.time := by rw [offerTallyOf_frame]
@[simp] theorem offerTallyOf_steer (k : Ctx) (c : Chip) :
    (offerTallyOf k c).steer = c.steer := by rw [offerTallyOf_frame]
@[simp] theorem offerTallyOf_ctx (k : Ctx) (c : Chip) :
    (offerTallyOf k c).ctx = c.ctx := by rw [offerTallyOf_frame]
@[simp] theorem offerTallyOf_engine (k : Ctx) (c : Chip) :
    (offerTallyOf k c).engine = c.engine := by rw [offerTallyOf_frame]
@[simp] theorem offerTallyOf_rate (k : Ctx) (c : Chip) :
    (offerTallyOf k c).rate = c.rate := by rw [offerTallyOf_frame]
@[simp] theorem offerTallyOf_budget (k : Ctx) (c : Chip) :
    (offerTallyOf k c).budget = c.budget := by rw [offerTallyOf_frame]
@[simp] theorem offerTallyOf_mixer (k : Ctx) (c : Chip) :
    (offerTallyOf k c).mixer = c.mixer := by rw [offerTallyOf_frame]
@[simp] theorem offerTallyOf_link (k : Ctx) (c : Chip) :
    (offerTallyOf k c).link = c.link := by rw [offerTallyOf_frame]
@[simp] theorem offerTallyOf_sched (k : Ctx) (c : Chip) :
    (offerTallyOf k c).sched = c.sched := by rw [offerTallyOf_frame]
@[simp] theorem offerTallyOf_acct (k : Ctx) (c : Chip) :
    (offerTallyOf k c).acct = c.acct := by rw [offerTallyOf_frame]
@[simp] theorem offerTallyOf_clips (k : Ctx) (c : Chip) :
    (offerTallyOf k c).clips = c.clips := by rw [offerTallyOf_frame]
@[simp] theorem offerTallyOf_port (k : Ctx) (c : Chip) :
    (offerTallyOf k c).port = c.port := by rw [offerTallyOf_frame]
@[simp] theorem offerTallyOf_choices (k : Ctx) (c : Chip) :
    (offerTallyOf k c).choices = c.choices := by rw [offerTallyOf_frame]

/-! ## The marks of a lost picture (R168) -/

/-- An EMPTY clip is never newly marked GAP. -/
theorem newGap_empty (k : Ctx) (p : PicNum) {x : Clip} (h : x.empty = true) : newGap k p x = false := by
  simp [newGap, h]

/-- A clip newly marked GAP is the context's, in a state that takes the mark, not EMPTY, with the picture in its span. -/
theorem newGap_iff (k : Ctx) (p : PicNum) (x : Clip) :
    newGap k p x = true ↔ x.ctx = k ∧ takesGap x.state = true ∧ x.empty = false ∧ spanHas x p = true ∧ x.gap = false := by
  simp [newGap, and_assoc]

/-! ## The hundredth underrun (R79) -/

/-- R79: what the taking of a block does at an input's hundredth underrun in a row. -/
theorem takeBlock_atLastUnderrun (i : InputNo) {c : Chip} (h : atLastUnderrun c.mixer.inputs[i] = true) :
    (takeBlock i c).1 = loseInput i (modInput i (fun y => { y with
      underruns := bump y.underruns, underrunRun := y.underrunRun + 1 }) c) := by
  have facts : (c.mixer.inputs[i].active = true ∧ c.mixer.inputs[i].buffer = []) ∧ 99 ≤ c.mixer.inputs[i].underrunRun := by
    simpa [atLastUnderrun] using h
  have full : 100 ≤ c.mixer.inputs[i].underrunRun + 1 := by omega
  unfold takeBlock
  dsimp only
  rw [facts.1.2]
  dsimp only
  rw [if_pos facts.1.1]
  dsimp only
  rw [if_pos full]

end Sys2Proof.Machine
end

