-- ==== Sys2Proof/Laws/Operands.lean ====
section
/-! SUPPORT. What the operand forms, the clamps, the counters and the attention bits answer. -/

namespace Sys2Proof.Machine

/-! ## Counters (section 0.6.5) -/

/-- A counter rises by one and stops at 65,535. -/
theorem bump_toNat (x : Counter) : (bump x).toNat = min 65535 (x.toNat + 1) := by
  unfold bump
  split
  · subst x; decide
  · have : x.toNat ≠ 65535 := fun e => ‹¬_› (BitVec.eq_of_toNat_eq (by simpa using e))
    have := x.isLt
    simp [BitVec.toNat_add]
    omega

theorem bumpBy_toNat (n : Nat) (x : Counter) : (bumpBy n x).toNat = min 65535 (x.toNat + n) := by
  simp only [bumpBy, BitVec.toNat_ofNat]
  omega

@[simp] theorem bumpBy_zero (x : Counter) : bumpBy 0 x = x := by
  apply BitVec.eq_of_toNat_eq
  rw [bumpBy_toNat]
  have := x.isLt
  omega

theorem bumpBy_one (x : Counter) : bumpBy 1 x = bump x := by
  apply BitVec.eq_of_toNat_eq
  rw [bumpBy_toNat, bump_toNat]

theorem bumpBy_add (m n : Nat) (x : Counter) : bumpBy m (bumpBy n x) = bumpBy (n + m) x := by
  apply BitVec.eq_of_toNat_eq
  simp only [bumpBy_toNat]
  omega

@[simp] theorem bumpIf_true (x : Counter) : bumpIf true x = bump x := rfl
@[simp] theorem bumpIf_false (x : Counter) : bumpIf false x = x := rfl

/-! ## Serial order (section 0.6.3) -/

@[simp] theorem serialBefore_self {w : Nat} (a : BitVec w) : serialBefore a a = false := by
  simp [serialBefore]

/-! ## Clamps (section 0.6.1) -/

theorem clampNat_le {x lo hi : Nat} (h : lo ≤ hi) : lo ≤ clampNat x lo hi ∧ clampNat x lo hi ≤ hi := by
  unfold clampNat
  split
  · omega
  · split <;> omega

theorem clampNat_of_mem {x lo hi : Nat} (h : lo ≤ x) (h' : x ≤ hi) : clampNat x lo hi = x := by
  unfold clampNat
  rw [if_neg (by omega), if_neg (by omega)]

theorem clampNat_eq_min_max (x lo hi : Nat) (h : lo ≤ hi) : clampNat x lo hi = min hi (max lo x) := by
  unfold clampNat
  split
  · omega
  · split <;> omega

/-! ## Numbers that name a thing -/

theorem ctxOf_some {b : Byte} {k : Ctx} : ctxOf b = some k ↔ b.toNat = k.val := by
  unfold ctxOf
  split
  · simp [Fin.ext_iff]
  · have := k.isLt; simp; omega

theorem ctxOf_none {b : Byte} : ctxOf b = none ↔ 5 < b.toNat := by
  unfold ctxOf
  split <;> simp <;> omega

theorem inputOf_some {b : Byte} {i : InputNo} : inputOf b = some i ↔ b.toNat = i.val := by
  unfold inputOf
  split
  · simp [Fin.ext_iff]
  · have := i.isLt; simp; omega

theorem inputOf_none {b : Byte} : inputOf b = none ↔ 15 < b.toNat := by
  unfold inputOf
  split <;> simp <;> omega

theorem busOf_some {b : Byte} {j : BusNo} : busOf b = some j ↔ b.toNat = j.val := by
  unfold busOf
  split
  · simp [Fin.ext_iff]
  · have := j.isLt; simp; omega

theorem busOf_none {b : Byte} : busOf b = none ↔ 3 < b.toNat := by
  unfold busOf
  split <;> simp <;> omega

/-- A byte is a number where its value is. -/
theorem byte_eq_ofNat (b : Byte) {n : Nat} (h : n < 256) : b = BitVec.ofNat 8 n ↔ b.toNat = n := by
  constructor
  · rintro rfl; simp; omega
  · intro e; apply BitVec.eq_of_toNat_eq; simp [e]; omega

theorem onOffOf_some {b : Byte} {v : Bool} : onOffOf b = some v ↔ b.toNat = if v then 1 else 0 := by
  revert b v; decide

theorem onOffOf_none {b : Byte} : onOffOf b = none ↔ 1 < b.toNat := by
  revert b; decide

/-! ## The attention set (R186) -/

/-- The fifteen classes have bits of their own. -/
theorem attBit_injective {a b : AttClass} (h : attBit a = attBit b) : a = b := by
  cases a <;> cases b <;> first | rfl | (exact absurd h (by decide))

theorem attBit_lt (a : AttClass) : attBit a < 15 := by cases a <;> decide

/-- A class is in a mask where it is one of its classes. -/
theorem attHas_attMask (as : List AttClass) (a : AttClass) : attHas (attMask as) a = true ↔ a ∈ as := by
  induction as with
  | nil => simp [attHas, attMask]
  | cons b rest ih =>
    have key : attHas (1#16 <<< attBit b) a = true ↔ a = b := by
      clear ih
      cases a <;> cases b <;> decide
    simp only [attHas, attMask, BitVec.getLsbD_or, Bool.or_eq_true, List.mem_cons] at ih key ⊢
    rw [ih, key]

end Sys2Proof.Machine
end

