-- ==== Sys2Proof/Laws/PerInstr.lean ====
section
/-! SUPPORT. The statements made of each command as syntax, one lemma a constructor of Instr. -/

namespace Sys2Proof.Laws

/-- R175, R187: what a command's control cell can be addressed to. A command other than SWAP_STEER, PRESET, TAKE and
CUT_TO goes to one unit, with the tag that it carries; and of those four the tag is that of the destination, 0 where it
is sent to ALL. An event has no control cell. -/
def ControlCell.Statement (i : Instr) : Prop :=
  ∀ name tag ps, encodeParams i = some (name, tag, ps) →
    tag = i.dest.tag ∧ (mayBeGlobal name = false → i.dest = .unit tag)

namespace ControlCell

theorem powerOnReset (straps : BitVec 4) : Statement (.powerOnReset straps) := by
  intro _ _ _ h; cases h

theorem cellArrival (lane : LaneNo) (bytes : List Byte) : Statement (.cellArrival lane bytes) := by
  intro _ _ _ h; cases h

theorem referenceLoss : Statement (.referenceLoss) := by
  intro _ _ _ h; cases h

theorem freeRunBoundary : Statement (.freeRunBoundary) := by
  intro _ _ _ h; cases h

theorem blockTick : Statement (.blockTick) := by
  intro _ _ _ h; cases h

theorem audioInputLost (input : InputNo) : Statement (.audioInputLost input) := by
  intro _ _ _ h; cases h

theorem pictureDeadline (ctx : Ctx) (picture : PicNum) : Statement (.pictureDeadline ctx picture) := by
  intro _ _ _ h; cases h

theorem ackWindowExpiry (frame : FrameNum) : Statement (.ackWindowExpiry frame) := by
  intro _ _ _ h; cases h

theorem hailAnswerWindowExpiry : Statement (.hailAnswerWindowExpiry) := by
  intro _ _ _ h; cases h

theorem hailRetryGapExpiry : Statement (.hailRetryGapExpiry) := by
  intro _ _ _ h; cases h

theorem silenceExpiry : Statement (.silenceExpiry) := by
  intro _ _ _ h; cases h

theorem drainLimitExpiry : Statement (.drainLimitExpiry) := by
  intro _ _ _ h; cases h

theorem codingCompletion (coded : List Byte) : Statement (.codingCompletion coded) := by
  intro _ _ _ h; cases h

theorem returnMessageArrival (bytes : List Byte) : Statement (.returnMessageArrival bytes) := by
  intro _ _ _ h; cases h

theorem foSendCompletion : Statement (.foSendCompletion) := by
  intro _ _ _ h; cases h

theorem setRate (tag rate : Byte) : Statement (.setRate tag rate) := by
  intro _ _ _ h; cases h; exact ⟨rfl, fun _ => rfl⟩

theorem loadSteer (tag first count : Byte) (entries : List SteerEntry) :
    Statement (.loadSteer tag first count entries) := by
  intro _ _ _ h; cases h; exact ⟨rfl, fun _ => rfl⟩

theorem readSteer (tag bank first count : Byte) : Statement (.readSteer tag bank first count) := by
  intro _ _ _ h; cases h; exact ⟨rfl, fun _ => rfl⟩

theorem steerDefault (tag action : Byte) : Statement (.steerDefault tag action) := by
  intro _ _ _ h; cases h; exact ⟨rfl, fun _ => rfl⟩

theorem swapSteer (dest : Dest) : Statement (.swapSteer dest) := by
  intro _ _ _ h; cases h; exact ⟨rfl, fun e => absurd e (by decide)⟩

theorem startContext (tag ctx : Byte) : Statement (.startContext tag ctx) := by
  intro _ _ _ h; cases h; exact ⟨rfl, fun _ => rfl⟩

theorem stopContext (tag ctx : Byte) : Statement (.stopContext tag ctx) := by
  intro _ _ _ h; cases h; exact ⟨rfl, fun _ => rfl⟩

theorem setContext (tag ctx weight : Byte) (minimum : BitVec 32) (boost bias slew marker : Byte) (latency : BitVec 16) (logMode : Byte) :
    Statement (.setContext tag ctx weight minimum boost bias slew marker latency logMode) := by
  intro _ _ _ h; cases h; exact ⟨rfl, fun _ => rfl⟩

theorem setReservoir (tag ctx depth qMin qMax qStart : Byte) :
    Statement (.setReservoir tag ctx depth qMin qMax qStart) := by
  intro _ _ _ h; cases h; exact ⟨rfl, fun _ => rfl⟩

theorem loadCurve (tag ctx : Byte) (entries : List Byte) : Statement (.loadCurve tag ctx entries) := by
  intro _ _ _ h; cases h; exact ⟨rfl, fun _ => rfl⟩

theorem setBudget (tag : Byte) (reserve : BitVec 16) : Statement (.setBudget tag reserve) := by
  intro _ _ _ h; cases h; exact ⟨rfl, fun _ => rfl⟩

theorem loadGain (tag first count : Byte) (entries : List (BitVec 16)) :
    Statement (.loadGain tag first count entries) := by
  intro _ _ _ h; cases h; exact ⟨rfl, fun _ => rfl⟩

theorem readGain (tag first count : Byte) : Statement (.readGain tag first count) := by
  intro _ _ _ h; cases h; exact ⟨rfl, fun _ => rfl⟩

theorem setFader (tag input target step : Byte) : Statement (.setFader tag input target step) := by
  intro _ _ _ h; cases h; exact ⟨rfl, fun _ => rfl⟩

theorem setAfv (tag input link onIndex offIndex : Byte) : Statement (.setAfv tag input link onIndex offIndex) := by
  intro _ _ _ h; cases h; exact ⟨rfl, fun _ => rfl⟩

theorem setSends (tag input pgmL pgmR auxA auxB : Byte) : Statement (.setSends tag input pgmL pgmR auxA auxB) := by
  intro _ _ _ h; cases h; exact ⟨rfl, fun _ => rfl⟩

theorem setBus (tag bus master mute : Byte) (stream : BitVec 16) :
    Statement (.setBus tag bus master mute stream) := by
  intro _ _ _ h; cases h; exact ⟨rfl, fun _ => rfl⟩

theorem setAudioSend (tag value : Byte) : Statement (.setAudioSend tag value) := by
  intro _ _ _ h; cases h; exact ⟨rfl, fun _ => rfl⟩

theorem readMeters (tag : Byte) : Statement (.readMeters tag) := by
  intro _ _ _ h; cases h; exact ⟨rfl, fun _ => rfl⟩

theorem preset (dest : Dest) (unit ctx : Byte) : Statement (.preset dest unit ctx) := by
  intro _ _ _ h; cases h; exact ⟨rfl, fun e => absurd e (by decide)⟩

theorem take (dest : Dest) : Statement (.take dest) := by
  intro _ _ _ h; cases h; exact ⟨rfl, fun e => absurd e (by decide)⟩

theorem cutTo (dest : Dest) (unit ctx : Byte) : Statement (.cutTo dest unit ctx) := by
  intro _ _ _ h; cases h; exact ⟨rfl, fun e => absurd e (by decide)⟩

theorem setTally (tag ctx : Byte) (stream : BitVec 16) : Statement (.setTally tag ctx stream) := by
  intro _ _ _ h; cases h; exact ⟨rfl, fun _ => rfl⟩

theorem linkOpen (tag : Byte) : Statement (.linkOpen tag) := by
  intro _ _ _ h; cases h; exact ⟨rfl, fun _ => rfl⟩

theorem handover (tag : Byte) : Statement (.handover tag) := by
  intro _ _ _ h; cases h; exact ⟨rfl, fun _ => rfl⟩

theorem linkClose (tag : Byte) : Statement (.linkClose tag) := by
  intro _ _ _ h; cases h; exact ⟨rfl, fun _ => rfl⟩

theorem setLink (tag : Byte) (identity answerWindow retryGap silence ackWindow : BitVec 16) :
    Statement (.setLink tag identity answerWindow retryGap silence ackWindow) := by
  intro _ _ _ h; cases h; exact ⟨rfl, fun _ => rfl⟩

theorem readLog (tag : Byte) : Statement (.readLog tag) := by
  intro _ _ _ h; cases h; exact ⟨rfl, fun _ => rfl⟩

theorem markIn (tag ctx : Byte) (text : List Byte) (rating : Byte) : Statement (.markIn tag ctx text rating) := by
  intro _ _ _ h; cases h; exact ⟨rfl, fun _ => rfl⟩

theorem markOut (tag : Byte) : Statement (.markOut tag) := by
  intro _ _ _ h; cases h; exact ⟨rfl, fun _ => rfl⟩

theorem setClipMode (tag autoSend : Byte) (autoClip : Vector Byte 6) :
    Statement (.setClipMode tag autoSend autoClip) := by
  intro _ _ _ h; cases h; exact ⟨rfl, fun _ => rfl⟩

theorem label (tag index : Byte) (text : List Byte) (rating : Byte) : Statement (.label tag index text rating) := by
  intro _ _ _ h; cases h; exact ⟨rfl, fun _ => rfl⟩

theorem sendLabel (tag index : Byte) : Statement (.sendLabel tag index) := by
  intro _ _ _ h; cases h; exact ⟨rfl, fun _ => rfl⟩

theorem voidClip (tag index : Byte) : Statement (.voidClip tag index) := by
  intro _ _ _ h; cases h; exact ⟨rfl, fun _ => rfl⟩

theorem setFence (tag position : Byte) : Statement (.setFence tag position) := by
  intro _ _ _ h; cases h; exact ⟨rfl, fun _ => rfl⟩

theorem clearClips (tag : Byte) : Statement (.clearClips tag) := by
  intro _ _ _ h; cases h; exact ⟨rfl, fun _ => rfl⟩

theorem readClip (tag index : Byte) : Statement (.readClip tag index) := by
  intro _ _ _ h; cases h; exact ⟨rfl, fun _ => rfl⟩

theorem go (tag : Byte) : Statement (.go tag) := by
  intro _ _ _ h; cases h; exact ⟨rfl, fun _ => rfl⟩

theorem standby (tag : Byte) : Statement (.standby tag) := by
  intro _ _ _ h; cases h; exact ⟨rfl, fun _ => rfl⟩

theorem resetUnit (tag : Byte) : Statement (.resetUnit tag) := by
  intro _ _ _ h; cases h; exact ⟨rfl, fun _ => rfl⟩

theorem readStatus (tag block index : Byte) : Statement (.readStatus tag block index) := by
  intro _ _ _ h; cases h; exact ⟨rfl, fun _ => rfl⟩

theorem setNotices (tag : Byte) (classes : BitVec 16) : Statement (.setNotices tag classes) := by
  intro _ _ _ h; cases h; exact ⟨rfl, fun _ => rfl⟩

theorem ackAttention (tag : Byte) (classes : BitVec 16) : Statement (.ackAttention tag classes) := by
  intro _ _ _ h; cases h; exact ⟨rfl, fun _ => rfl⟩

end ControlCell

end Sys2Proof.Laws
end

