-- ==== Sys2Proof/Tests/Slice0.lean ====
section
/-! SUPPORT. Tests. First the well-formedness checks on terms they refuse; then the manual's worked figures; then, for
every statement that has hypotheses, a part and operands that meet them, clause by clause (witness_<Statement>). -/

namespace Sys2Proof.Tests

open Sys2Proof.Machine Sys2Proof.Safety Sys2Proof.Claims

-- One theorem after another: each evaluation by the kernel waits for those before it, on a thread of its own.
set_option Elab.async false

/-! ## The parts the tests start from -/

/-- A machine with this part and no command waiting. -/
def holding (c : Chip) : State := ⟨c, []⟩

/-- The part after a command or event. -/
def after (i : Instr) (c : Chip) : Chip := partAfter c (exec i)

/-- The part in RUN. -/
def inRun (c : Chip) : Chip := modPort (fun p => { p with mode := .run }) c

/-- A part right after power-on reset, put in RUN. -/
def runPart : Chip := inRun Chip.powerOn

/-- A context in a state. -/
def withCtx (k : Ctx) (st : CtxState) (c : Chip) : Chip := modCtx k (fun x => { x with state := st }) c

/-- A link state, with a silence timer. -/
def withLink (st : LinkState) (c : Chip) : Chip := modLink (fun l => { l with state := st, silence := some 500 }) c

/-- A report queue with n answers. -/
def reports (n : Nat) (c : Chip) : Chip :=
  modPort (fun p => { p with report := List.replicate n ⟨.report, .answer, 0, [], 0⟩ }) c

/-- A picture record. -/
def picture (k : Ctx) (n : PicNum) : Picture := ⟨k, n, .zero, 0, 0, false⟩

/-- A gathering record that takes slices from lane 2 on stream 512, the next with sequence 1. -/
def gathering (k : Ctx) (n : PicNum) : Gathering := ⟨picture k n, 2, 512, 1, true, [1, 2]⟩

/-- A queued picture of S coded bytes. -/
def queued (k : Ctx) (n : PicNum) (s : Nat) : Queued :=
  queuedRecord ⟨picture k n, [], 40, false⟩ (List.replicate s 9) 0 400

/-- A fragment's entry on the awaiting list. -/
def fragmentEntry (f : FrameNum) (k : Ctx) (n : PicNum) (j : Nat) : Entry := ⟨f, .video k n j, 1, some 120, []⟩

/-- A label's entry on the awaiting list. -/
def labelEntry (f : FrameNum) (i : Nat) : Entry := ⟨f, .label i 0, 1, some 120, []⟩

/-- A clip in a state. -/
def clip (st : ClipState) : Clip :=
  ⟨0, st, 0, 0, 0, .zero, some 3, some .zero, [], 0, 0, false, false, false, false, none, some false⟩

/-- One clip at index 0, with W at 1. -/
def withClip (x : Clip) (c : Chip) : Chip :=
  { c with clips := { c.clips with table := setAt c.clips.table 0 (some x), write := 1 } }

/-- The bytes of a cell. -/
def cellOf (kind : BitVec 4) (stream : Stream) (payload : List Byte) : Cell :=
  { unit := 0, kind := kind, stream := stream, sequence := 0, start := false, stop := false, payload := payload }

/-! ## Well-formedness: a term that each check refuses -/

theorem test_coding_of_63_bytes_is_refused : (Instr.codingCompletion (List.replicate 63 0)).wellFormed = false := by
  decide +kernel

theorem test_coding_of_64_bytes_is_taken : (Instr.codingCompletion (List.replicate 64 0)).wellFormed = true := by
  decide +kernel

theorem test_coding_of_4194305_bytes_is_refused :
    (Instr.codingCompletion (List.replicate 4194305 0)).wellFormed = false := by
  have : ∀ n, 4194304 < n → codedSizeOk (List.replicate n 0) = false := fun n h => by simp [codedSizeOk, h]
  exact this _ (by decide)

theorem test_load_steer_of_another_count_is_refused :
    (Instr.loadSteer 0 0 2 [⟨0, 0, 0, 0, 0⟩]).wellFormed = false := by decide

theorem test_load_gain_of_another_count_is_refused : (Instr.loadGain 0 0 0 [1]).wellFormed = false := by decide

theorem test_curve_of_32_entries_is_refused :
    (Instr.loadCurve 0 0 (List.replicate 32 1)).wellFormed = false := by decide

theorem test_text_of_256_characters_is_refused :
    (Instr.markIn 0 0 (List.replicate 256 65) 0).wellFormed = false ∧
      (Instr.label 0 0 (List.replicate 256 65) 0).wellFormed = false := by decide +kernel

/-! ## Figures of the manual -/

/-- R184: the check of the nine characters 123456789 by this polynomial, reflected, is CBF43926 (a value known of this
check, not of the manual). -/
theorem test_check_of_123456789 :
    crc32 [0x31, 0x32, 0x33, 0x34, 0x35, 0x36, 0x37, 0x38, 0x39] = 0xCBF43926#32 := by decide +kernel

/-- R187: N = 4 and the bytes of TAKE; with tag 7 the payload is read as TAKE. -/
theorem test_take_payload_is_read :
    decodeControl .unit [7, 4, 0x54, 0x41, 0x4B, 0x45] = some (.take (.unit 7)) := by decide

/-- R187, R188: SET_CONTEXT's parameters, most significant byte first. -/
theorem test_set_context_parameters_are_read :
    decodeParams .setContext .all 9 [2, 16, 0, 0, 0x0F, 0xA0, 2, 4, 3, 7, 0x01, 0x90, 1]
      = some (.setContext 9 2 16 4000 2 4 3 7 400 1) := by decide

/-- R188: a steering entry's 7 bytes: MASK, value 512, mask 4080, kind set VIDEO, CODE 0. -/
theorem test_steering_entry_is_read :
    readEntries [2, 0x02, 0x00, 0x0F, 0xF0, 1, 1] = some [⟨2, 512, 4080, 1, 1⟩] := by decide

/-- R80: every entry of the default table is the nearest whole number to 4,096 × 10^((n − 208) / 40), compared as
fortieth powers of twice the entry. -/
theorem test_gain_table_is_the_formula :
    ∀ n : Fin 256, n = 0 ∨ ((2 * (gainDefaults.getD n.val 0) - 1) ^ 40 * 10 ^ 208 ≤ 8192 ^ 40 * 10 ^ n.val ∧
      8192 ^ 40 * 10 ^ n.val < (2 * (gainDefaults.getD n.val 0) + 1) ^ 40 * 10 ^ 208) := by decide +kernel

/-- R60: B at the capacities and rates of its table. -/
theorem test_period_bytes :
    periodBytes 500 .r60 = 1041 ∧ periodBytes 5000 .r30 = 20833 ∧ periodBytes 20000 .r50 = 50000 ∧
      periodBytes 200000 .r25 = 1000000 := by decide

/-- R61: A before the cap at the four rates. -/
theorem test_audio_shares :
    [Rate.r25, .r30, .r50, .r60].map (audioShare true 1000000) = [11840, 9866, 5920, 4933] := by decide

/-- R66: n and E of pictures of 1,368, 1,369 and 4,194,304 bytes. -/
theorem test_send_sizes :
    sendSize 1368 = 1400 ∧ sendSize 1369 = 1433 ∧ fragmentCount 4194304 = 3067 ∧ sendSize 4194304 = 4292448 := by
  decide

/-- R84: floor rounds toward minus infinity: 2,053 × ±3 / 4,096. -/
theorem test_scale_rounds_down : scale 2053 3 = 1 ∧ scale 2053 (-3) = -2 := by decide

/-- Section 6.4, worked cases: the fader stages at 5,793 and 8,173 and the send stage at 2,053. -/
theorem test_fader_and_send_stages :
    scale 5793 (-3000000) = -4242920 ∧ saturate (scale 8173 5000000) = 8388607 ∧ scale 2053 2000000 = 1002441 := by
  decide

/-- Section 5.8: the rate state of the worked case. -/
def workedRate : RateState :=
  { RateState.powerOn with
      target := 40000, size := 160000, fill := 80000, q := 30,
      settings := { CtxSettings.defaults with slew := 3, bias := 4 },
      curve := setAt (setAt (setAt (setAt RateState.powerOn.curve 8 20) 9 22) 18 34) 19 37 }

/-- Section 5.8, first picture: accepted, F = 93,248 and q = 31. -/
theorem test_first_picture_is_accepted :
    judge workedRate (sendSize 52000) 0 = .accepted ∧
      (rateStep workedRate (sendSize 52000) .accepted true).fill = 93248 ∧
      (rateStep workedRate (sendSize 52000) .accepted true).q = 31 := by decide +kernel

/-- Section 5.8, second picture: shed RESERVOIR, F = 53,248 and q = 34. -/
theorem test_second_picture_is_shed :
    let r := rateStep workedRate (sendSize 52000) .accepted true
    judge r (sendSize 120000) 1 = .reservoir ∧
      (rateStep r (sendSize 120000) .reservoir true).fill = 53248 ∧
      (rateStep r (sendSize 120000) .reservoir true).q = 34 := by decide +kernel

/-- Section 5.4: the targets of three cameras at 20,000 kbit/s. -/
theorem test_three_cameras_are_divided :
    let c := modRate 0 (fun r => { r with settings := { r.settings with minimum := 4000 } })
      (modRate 1 (fun r => { r with settings := { r.settings with minimum := 4000 } })
        (modRate 2 (fun r => { r with settings := { r.settings with weight := 2, minimum := 4000 } })
          (withCtx 0 .running (withCtx 1 .running (withCtx 2 .running
            (modLink (fun l => { l with state := .up, capacity := 20000 })
              { Chip.powerOn with sel := { Selector.powerOn with programme := some 0 } }))))))
    (divide c).targets.toList = [22038, 13019, 8509, 0, 0, 0] ∧ (divide c).label = 512 := by decide +kernel

/-- Section 3.9: the plan of the worked example. -/
def workedPlan : Steering :=
  writeShadow 0 [⟨1, 300, 301, 2, 30⟩, ⟨2, 512, 4080, 1, 1⟩, ⟨2, 528, 4080, 1, 2⟩, ⟨0, 700, 799, 4, 48⟩,
    ⟨0, 512, 543, 0x87, 0⟩, ⟨1, 640, 641, 6, 3⟩, ⟨0, 900, 800, 1, 4⟩] { Steering.powerOn with activeBank := 1 }

/-- Section 3.9: which entry decides each of the seven cells. -/
theorem test_seven_cells_are_decided :
    let t := { workedPlan with activeBank := 0 }
    [decideCell t .video 519, decideCell t .audio 530, decideCell t .audio 301, decideCell t .data 750,
      decideCell t .video 560, decideCell t .video 301, decideCell t .data 641].map (fun o => o.map (fun x => x.1))
      = [some 1, some 4, some 0, some 3, none, none, some 5] := by decide +kernel

/-- R20: the last picture of the day at rate 25 is followed by 00:00:00:00. -/
theorem test_day_ends : countForward .r25 ⟨23, 59, 59, 24⟩ = .zero := by decide

/-- R21: SET_RATE to 25 keeps the seconds, and a rate of 24 is refused. -/
theorem test_set_rate :
    (after (.setRate 1 25) Chip.powerOn).time.rate = .r25 ∧ (after (.setRate 1 25) Chip.powerOn).time.length = 1920 ∧
      (after (.setRate 1 24) Chip.powerOn).time.rate = .r50 := by decide +kernel

/-- R177, R187: the answer of GO, tag 5, is placed on FO: its payload behind the 12 header bytes. -/
theorem test_go_is_answered :
    ((after (.go 5) Chip.powerOn).fo.map (fun bytes => (bytes.drop 12).take 7)) = [[5, 2, 0x47, 0x4F, 0, 0, 0]] := by
  decide +kernel

/-- R176: GO in RUN is answered REFUSED_STATE, code 4. -/
theorem test_go_in_run_is_refused :
    ((after (.go 5) runPart).fo.map (fun bytes => (bytes.drop 12).take 5)) = [[5, 2, 0x47, 0x4F, 4]] := by
  decide +kernel

/-- R7: US2 and US3 tied high give unit 2. -/
theorem test_straps : (after (.powerOnReset 0b1100) Chip.powerOn).unit = 2 := by decide +kernel

/-- Section 9.7, tick 1: with 20,000 bits of credit the AUDIO frame goes, and C0's fragment of 1,400 bytes waits. -/
theorem test_first_tick_of_selection :
    let c := modSched (fun s => { s with
        audioQueue := [⟨.zero, 0, List.replicate 1152 0⟩], videoQueue := setAt s.videoQueue 0 [queued 0 7 3000],
        allowance := setAt s.allowance 0 2900 })
      (modLink (fun l => { l with state := .up, credit := 20000 }) runPart)
    (selectTick c).ht.length = 1 ∧ (selectTick c).link.credit = 10528 := by decide +kernel

/-- R161, R162: MARK_IN and MARK_OUT on a RUNNING context: index 0, closed and, with no picture numbered, EMPTY. -/
theorem test_mark_in_and_out :
    let c := after (.markOut 2) (after (.markIn 1 0 [65] 9) (withCtx 0 .running runPart))
    (c.clips.table[(0 : Fin 128)].map (fun x => (x.state, x.empty, x.rating))) = some (.queued, true, 5) := by
  decide +kernel

/-- R114: LINK_OPEN hands one HAIL frame of 32 bytes and its payload to HT and starts the answer window. -/
theorem test_link_open_hails :
    (after (.linkOpen 1) runPart).ht.length = 1 ∧ (after (.linkOpen 1) runPart).link.answerWindow = some 200 := by
  decide +kernel

end Sys2Proof.Tests

namespace Sys2Proof.Tests

open Sys2Proof.Machine Sys2Proof.Safety Sys2Proof.Claims

-- One theorem after another: each evaluation by the kernel waits for those before it, on a thread of its own.
set_option Elab.async false

/-! ## Witnesses: commands, answers and notices -/

theorem witness_FortyEightIdleStepsAreOneMillisecond :
    ∀ n ∈ [0, 47], let s := holding (modTime (fun t => { t with subTick := n }) Chip.powerOn)
      s.pending = [] ∧ s.chip.time.subTick < 48 := by decide +kernel

/-- A part whose classes are all enabled, with n reports and a place held or not. -/
def noticing (n : Nat) (held : Bool) : Chip :=
  modPort (fun p => { p with enables := 0x7FFF, held := held }) (reports n Chip.powerOn)

theorem witness_AnswersAndNoticesWaitInOrder :
    5 + (nameBytes .go).length + (List.replicate 233 (0 : Byte)).length ≤ 240 ∧
    (¬∃ a ∈ [AttClass.takeDone], attHas Chip.powerOn.port.attention a = false ∧
      attHas Chip.powerOn.port.enables a = true) ∧
    (∀ c ∈ [noticing 15 false, noticing 14 true, noticing 16 false, noticing 15 true],
      ∃ a ∈ [AttClass.takeDone], attHas c.port.attention a = false ∧ attHas c.port.enables a = true) ∧
    ((noticing 15 false).port.report.length + 0 < 16 ∧ (noticing 14 true).port.report.length + 1 < 16 ∧
      16 ≤ (noticing 15 true).port.report.length + 1) := by decide +kernel

/-- A tally cell of a context. -/
def tallyCell (k : Ctx) : OutCell := ⟨.tally k, .tally, 2, [BitVec.ofNat 8 k.val, 2, 0, 0, 0, 0], 0⟩

/-- FO sending an answer. -/
def sending (c : Chip) : Chip := { c with out := { c.out with tx := some ⟨⟨.report, .answer, 0, [], 0⟩, [], true⟩ } }

/-- The output lane with these cells queued, and C1's tally cell held or not. -/
def lanePart (queue : List OutCell) (held : Bool) (c : Chip) : Chip :=
  { c with out := { c.out with queue := queue, hold := if held then [⟨1, tallyCell 1, 0⟩] else [] } }

/-- The report queue holds reports alone, with FO idle or sending, and with a tally cell held or not. -/
theorem witness_AnswersAndNoticesWaitInOrder_lane :
    (∀ n ∈ [14, 15, 16], ∀ h, SourcesOk (noticing n h)) ∧
    (∀ h, SourcesOk (lanePart [] h (noticing 15 false)) ∧ (lanePart [] h (noticing 15 false)).out.tx = none ∧
      (lanePart [] h (noticing 15 false)).out.queue = []) ∧
    SourcesOk (sending (lanePart [tallyCell 0] true (noticing 15 false))) ∧
    (sending (lanePart [tallyCell 0] true (noticing 15 false))).out.tx ≠ none ∧
    (lanePart [] false (noticing 15 false)).out.hold = [] ∧ (lanePart [] true (noticing 15 false)).out.hold ≠ [] := by
  unfold SourcesOk; decide +kernel

theorem witness_FullReportQueueDiscardsCommand :
    isAddressed (.go 1) = true ∧ isAddressed (.swapSteer (.unit 1)) = true ∧
      16 ≤ (holding (reports 16 Chip.powerOn)).chip.port.report.length := by decide +kernel

theorem witness_GoStandbyAndAttentionCommands :
    (HasRoom (holding (reports 15 Chip.powerOn)) ∧ Chip.powerOn.port.mode = .standby) ∧
    (HasRoom (holding (reports 15 runPart)) ∧ runPart.port.mode = .run) ∧
    (runPart.link.state = .down ∧ ∀ k : Ctx, runPart.ctx[k].state = .stopped) ∧
    (HasRoom (holding (withLink .held runPart)) ∧ (withLink .held runPart).link.state ≠ .down) ∧
    (HasRoom (holding (withCtx 5 .starting runPart)) ∧
      ∃ k : Ctx, (withCtx 5 .starting runPart).ctx[k].state ≠ .stopped) := by
  unfold HasRoom; decide +kernel

/-! ## Witnesses: the van fabric -/

theorem witness_CellsReadBackAndDamageIsCaught :
    let x := cellOf 1 2 (List.replicate 240 7)
    (x.payload.length ≤ 240 ∧ 255 < (cellBytes x).length ∧ 7 < 8) ∧
    (List.replicate 15 (0 : Byte)).length < 16 ∧
    240 < ((List.replicate 257 (241 : Byte)).getD 5 0).toNat ∧
    (List.replicate 17 (0 : Byte)).length ≠ 16 + ((List.replicate 17 (0 : Byte)).getD 5 0).toNat ∧
    ((List.replicate 16 (0 : Byte)).drop 12 ≠ le32 (crc32 ((List.replicate 16 (0 : Byte)).take 12))) := by
  decide +kernel

theorem witness_LaneReceiverSortsCells :
    (∀ x ∈ [cellOf 0 0 [], cellOf 9 2 [], cellOf 15 2 []], readCell (cellBytes x) = some x ∧
      (x.kind.toNat = 0 ∨ 9 ≤ x.kind.toNat)) ∧
    (∀ x ∈ [cellOf 6 0 [], cellOf 8 0 []], readCell (cellBytes x) = some x ∧ 6 ≤ x.kind.toNat ∧ x.kind.toNat ≤ 8) ∧
    (let x := cellOf 4 0 []; readCell (cellBytes x) = some x ∧ x.kind.toNat = 4 ∧ x.stream.toNat = 0) ∧
    (let x := cellOf 4 1 []; readCell (cellBytes x) = some x ∧ x.kind.toNat = 4 ∧ x.stream.toNat ≠ 0) ∧
    (let x := cellOf 5 1 []; readCell (cellBytes x) = some x ∧ x.kind.toNat = 5 ∧ x.stream.toNat = 1) ∧
    (let x := cellOf 5 0 []; readCell (cellBytes x) = some x ∧ x.kind.toNat = 5 ∧ x.stream.toNat ≠ 1) ∧
    (∀ x ∈ [cellOf 1 0 [], cellOf 3 1 []], readCell (cellBytes x) = some x ∧ 1 ≤ x.kind.toNat ∧ x.kind.toNat ≤ 3 ∧
      x.stream.toNat ≤ 1) ∧
    (let x := cellOf 1 2 []; readCell (cellBytes x) = some x ∧ x.kind = kindCode .video ∧ 2 ≤ x.stream.toNat) ∧
    (let x := cellOf 3 4095 []; readCell (cellBytes x) = some x ∧ x.kind = kindCode .data ∧ 2 ≤ x.stream.toNat) := by
  decide +kernel

theorem witness_CommandsEncodeAndDecode :
    (Instr.markIn 1 0 (List.replicate 255 65) 5).wellFormed = true ∧
      (∃ p, encodeControl (.markIn 1 0 (List.replicate 255 65) 5) = some p) ∧
      (Instr.take .all).wellFormed = true ∧ (∃ p, encodeControl (.take .all) = some p) :=
  ⟨by decide +kernel, ⟨_, rfl⟩, by decide, ⟨_, rfl⟩⟩

/-- The longest MARK_IN that one cell carries. -/
def longMark : Instr := .markIn 1 0 (List.replicate 228 65) 5

theorem witness_CommandCellRunsItsCommand :
    (longMark.wellFormed = true ∧ (encodeControl longMark).map List.length = some 240 ∧ longMark.dest = .unit 1 ∧
      ((cellOf 4 0 []).unit = BitVec.ofNat 4 (holding runPart).chip.unit.val)) ∧
    ((Instr.take .all).wellFormed = true ∧ (encodeControl (.take .all)).map List.length = some 6 ∧
      ({ cellOf 4 0 [] with unit := 15 } : Cell).unit = 15#4) := by decide +kernel

/-- A name of 255 bytes that is in no catalogue. -/
def longName : List Byte := List.replicate 255 65

theorem witness_OtherControlCellsAreCountedOrRefused :
    (([1] : List Byte).length < 2 ∧ (([1, 0] : List Byte).getD 1 0).toNat = 0 ∧
      ([1, 2, 65] : List Byte).length < 2 + (([1, 2, 65] : List Byte).getD 1 0).toNat) ∧
    (1 ≤ longName.length ∧ longName.length ≤ 255 ∧ ∀ m : CommandName, nameBytes m ≠ longName) ∧
    ((2 : BitVec 4).toNat ≠ Chip.powerOn.unit.val ∧ (2 : BitVec 4).toNat ≠ 15) ∧
    ((0 : BitVec 4).toNat = Chip.powerOn.unit.val ∧ (reports 15 Chip.powerOn).port.report.length < 16) ∧
    (decodeParams .take (.unit 1) 1 [0] = none ∧ decodeParams .take .all 1 [0] = none) ∧
    (∀ m : CommandName, nameBytes m = nameBytes .go → m ∉ [CommandName.preset, .take, .cutTo, .swapSteer]) ∧
    (∀ m : CommandName, nameBytes m = nameBytes .take → decodeParams m .all 1 [0] = none) := by
  refine ⟨by decide, ⟨by decide +kernel, by decide +kernel, ?_⟩, by decide, by decide +kernel, by decide, ?_, ?_⟩
  · intro m; cases m <;> decide +kernel
  · intro m; cases m <;> decide
  · intro m; cases m <;> decide

theorem witness_SendCompletionRefillsAndChooses :
    Chip.powerOn.out.tx = none ∧ (sending Chip.powerOn).out.tx = some ⟨⟨.report, .answer, 0, [], 0⟩, [], true⟩ ∧
      ((sending Chip.powerOn).out.queue = [] ∧ (sending Chip.powerOn).out.hold = [] ∧
        (sending Chip.powerOn).port.report = []) ∧
      (sending (reports 16 Chip.powerOn)).port.report ≠ [] := by decide +kernel

/-- R1, R11: behind three dropped cells of its bus an AUX cell carries the bus's count, which then rises by one. -/
theorem test_dropped_cells_take_no_number :
    let c := { Chip.powerOn with out := { OutputLane.powerOn with seqAuxA := 7, droppedA := some 3 } }
    let d := offerAux ⟨.auxA, .audio, 5, [], 0⟩ c
    d.fo.map (fun b => (readCell b).map (fun x => x.sequence)) = [some 7] ∧ d.out.seqAuxA = 8 := by decide +kernel

/-- Tally on stream 9 for C1 and C4. -/
def tallyPart (c : Chip) : Chip :=
  { c with sel := { c.sel with tallyStream := setAt (setAt c.sel.tallyStream 1 9) 4 9 } }

theorem witness_ResetUnitKeepsSettings :
    HasRoom (holding (reports 15 (sending (tallyPart runPart)))) ∧ HasRoom (holding (tallyPart runPart)) ∧
    HasRoom (holding runPart) ∧
    (∃ t, (sending (tallyPart runPart)).out.tx = some t) ∧
    (runPart.out.tx = none ∧ allCtx.filter (fun k => runPart.sel.tallyStream[k] ≠ 0#12) = []) ∧
    ((tallyPart runPart).out.tx = none ∧
      allCtx.filter (fun k => (tallyPart runPart).sel.tallyStream[k] ≠ 0#12) = [1, 4]) := by
  refine ⟨?_, ?_, ?_, ⟨_, rfl⟩, by decide +kernel, by decide +kernel⟩ <;> unfold HasRoom <;> decide +kernel

/-! ## Witnesses: steering -/

/-- An entry whose kind set or stream does not fit decides nothing, whatever its action. -/
theorem not_decides {e : SteerEntry} {k : CellKind} {s : Stream}
    (h : ¬(((k = .video ∧ e.kinds.getLsbD 0 = true) ∨ (k = .audio ∧ e.kinds.getLsbD 1 = true) ∨
        (k = .data ∧ e.kinds.getLsbD 2 = true)) ∧
      ((e.matchType.toNat = 0 ∧ e.first.toNat ≤ s.toNat ∧ s.toNat ≤ e.second.toNat) ∨
        (e.matchType.toNat = 1 ∧ (s.toNat = e.first.toNat ∨ s.toNat = e.second.toNat)) ∨
        (e.matchType.toNat = 2 ∧ s.toNat &&& e.second.toNat = e.first.toNat &&& e.second.toNat)))) :
    ∀ m, namesAction m → ¬Decides e k s m :=
  fun _ _ d => h ⟨d.1, d.2.1⟩

/-- A part in RUN with the plan of section 3.9. -/
def planned : Chip := { runPart with steer := { workedPlan with activeBank := 0 } }

/-- The hypotheses that the three clauses of RUN and the one of STANDBY share. -/
theorem witness_steering_cell :
    BanksOk planned ∧ planned.port.mode = .run ∧ Chip.powerOn.port.mode = .standby ∧
    (∀ x ∈ [cellOf 1 519 [], cellOf 1 527 [], cellOf 1 512 [], cellOf 1 560 []],
      readCell (cellBytes x) = some x ∧ x.kind = kindCode .video ∧ 2 ≤ x.stream.toNat) ∧
    (let x := cellOf 2 530 []; readCell (cellBytes x) = some x ∧ x.kind = kindCode .audio ∧ 2 ≤ x.stream.toNat) ∧
    CellKind.video ∈ [CellKind.video, .audio, .data] ∧ CellKind.audio ∈ [CellKind.video, .audio, .data] := by
  unfold BanksOk; decide +kernel

/-- Section 3.9, cell a: entry 1 decides it with CODE 0; the note flag is clear. -/
theorem witness_SteeringDecidesByFirstEntry :
    namesAction 1 ∧ Decides (activeOf planned.steer)[(1 : Fin 64)] .video 519 1 ∧
      (∀ j : Fin 64, j.val < 1 → ∀ m, namesAction m → ¬Decides (activeOf planned.steer)[j] .video 519 m) ∧
      (activeOf planned.steer)[(1 : Fin 64)].kinds.getLsbD 7 = false := by
  refine ⟨by unfold namesAction; decide, by unfold Decides; decide +kernel, fun j hj => not_decides ?_,
    by decide +kernel⟩
  revert j; decide +kernel

/-- Section 3.9, cell b: entry 4 decides it with DISCARD, and its note flag is set. -/
theorem witness_SteeringDecidesByFirstEntry_noted :
    namesAction 0 ∧ Decides (activeOf planned.steer)[(4 : Fin 64)] .audio 530 0 ∧
      (∀ j : Fin 64, j.val < 4 → ∀ m, namesAction m → ¬Decides (activeOf planned.steer)[j] .audio 530 m) ∧
      (activeOf planned.steer)[(4 : Fin 64)].kinds.getLsbD 7 = true := by
  refine ⟨by unfold namesAction; decide, by unfold Decides; decide +kernel, fun j hj => not_decides ?_,
    by decide +kernel⟩
  revert j; decide +kernel

/-- Section 3.9, cell e: no entry decides it; the default action is either of the two. -/
theorem witness_SteeringDecidesByFirstEntry_default :
    (∀ j : Fin 64, ∀ m, namesAction m → ¬Decides (activeOf planned.steer)[j] .video 560 m) ∧
      planned.steer.default = .discard ∧
      (modSteer (fun t => { t with default := .pass }) planned).steer.default = .pass := by
  refine ⟨fun j => not_decides ?_, by decide +kernel, by decide +kernel⟩
  revert j; decide +kernel

theorem witness_SteeringPlanIsLoadedReadAndDefaulted :
    HasRoom (holding (reports 15 runPart)) ∧
    (1 ≤ (8 : Byte).toNat ∧ (8 : Byte).toNat ≤ 8 ∧ (56 : Byte).toNat + (8 : Byte).toNat ≤ 64 ∧
      (List.replicate 8 SteerEntry.off).length = (8 : Byte).toNat) ∧
    (∀ x ∈ [(0, 0), (0, 9), (57, 8)], let first := num8 x.1; let count := num8 x.2
      ¬(1 ≤ count.toNat ∧ count.toNat ≤ 8 ∧ first.toNat + count.toNat ≤ 64)) ∧
    ([SteerEntry.off].length ≠ (2 : Byte).toNat) ∧ ((1 : Byte).toNat < 2 ∧ 2 ≤ (2 : Byte).toNat) ∧
    ((0 : Byte).toNat = 0 ∧ (1 : Byte).toNat = 1 ∧ 2 ≤ (2 : Byte).toNat) := by
  unfold HasRoom; decide +kernel

theorem witness_SwapSteerSetsPendingSwap : HasRoom (holding (reports 15 runPart)) := by
  unfold HasRoom; decide +kernel

/-! ## Witnesses: timebase -/

/-- A reference payload at 23:59:59 picture p with a rate code. -/
def refOf (p code : Byte) : Cell := cellOf 5 1 [23, 59, 59, p, code]

/-- The timebase in LOCKED. -/
def lockedPart : Chip := modTime (fun t => { t with state := .locked, length := 1440 }) Chip.powerOn

/-- The timebase n samples after its last boundary. -/
def elapsedPart (n : Nat) : Chip := modTime (fun t => { t with elapsed := n }) Chip.powerOn

theorem witness_ReferenceCellIsJudgedAndTaken :
    (∀ x ∈ [cellOf 5 1 [0, 0, 0, 0], refOf 49 3, refOf 50 3, refOf 0 4],
      readCell (cellBytes x) = some x ∧ x.kind = 5#4 ∧ x.stream = 1#12) ∧
    (cellOf 5 1 [0, 0, 0, 0]).payload.length ≠ 5 ∧
    (InRange .r50 ⟨23, 59, 59, 49⟩ ∧ ¬InRange .r50 ⟨23, 59, 59, 50⟩ ∧ ¬InRange .r50 ⟨24, 0, 0, 0⟩) ∧
    (Chip.powerOn.time.rate = .r50 ∧ (3 : Byte).toNat = 3 ∧ (4 : Byte).toNat ≠ 3) ∧
    lockedPart.time.state = .locked ∧
    ((elapsedPart 479).time.state = .freeRun ∧ 2 * (elapsedPart 479).time.elapsed < 48000 / rateHz .r50) ∧
    ((elapsedPart 480).time.state = .freeRun ∧ 48000 / rateHz .r50 ≤ 2 * (elapsedPart 480).time.elapsed) := by
  unfold InRange; decide +kernel

theorem witness_TimerExpiryCountsTheTimecodeForward :
    InRange .r25 ⟨23, 59, 59, 24⟩ ∧ InRange .r60 ⟨0, 0, 0, 0⟩ ∧ lockedPart.time.state = .locked ∧
      Chip.powerOn.time.state = .freeRun ∧ (holding Chip.powerOn).pending = [] ∧
      (∀ x ∈ [(1439, 46), (1393, 0), (1440, 46)],
        let t : Timebase := { lockedPart.time with elapsed := x.1, subTick := x.2 }
        t.state = .locked ∧ t.subTick + samplesToExpiry t < 48) ∧
      (∀ x ∈ [(959, 46), (913, 0), (961, 46)],
        let t : Timebase := { Chip.powerOn.time with elapsed := x.1, subTick := x.2 }
        t.state = .freeRun ∧ t.subTick + samplesToExpiry t < 48) ∧
      48 ≤ lockedPart.time.subTick + samplesToExpiry lockedPart.time := by
  unfold InRange; decide +kernel

theorem witness_SetRateRestartsTheTimebase :
    HasRoom (holding runPart) ∧ HasRoom (holding Chip.powerOn) ∧ runPart.port.mode = .run ∧
      Chip.powerOn.port.mode = .standby ∧ (∀ r : Rate, rateHz r ≠ (24 : Byte).toNat) ∧
      (50 : Byte).toNat = rateHz Chip.powerOn.time.rate ∧
      (rateHz .r60 = (60 : Byte).toNat ∧ Rate.r60 ≠ Chip.powerOn.time.rate) := by
  refine ⟨by unfold HasRoom; decide, by unfold HasRoom; decide, rfl, rfl, ?_, rfl, by decide⟩
  intro r; cases r <;> decide

theorem witness_BlockTickCountsTheMillisecond :
    (holding Chip.powerOn).pending = [] ∧ Chip.powerOn.port.mode = .standby ∧
    (∀ x ∈ [(911, 0), (958, 47)], let t : Timebase := { Chip.powerOn.time with elapsed := x.1, subTick := x.2 }
      t.elapsed + samplesToTick t < t.length) ∧
    (∀ x ∈ [(912, 0), (959, 47), (959, 0)], let t : Timebase := { Chip.powerOn.time with elapsed := x.1, subTick := x.2 }
      t.length ≤ t.elapsed + samplesToTick t) ∧
    (let t : Timebase := { lockedPart.time with elapsed := 1392 }
     t.state = .locked ∧ t.length ≤ t.elapsed + samplesToTick t) := by decide

/-! ## Witnesses: gatherers, engine and contexts -/

/-- A context RUNNING, with a gathering record of m bytes. -/
def gatherPart (m : Nat) : Chip :=
  modCtx 0 (fun x => { x with gathering := some { gathering 0 7 with memory := List.replicate m 0 } })
    (withCtx 0 .running runPart)

/-- The engine coding a picture of C0. -/
def codingPart (c : Chip) : Chip := { c with engine := { c.engine with op := some ⟨picture 0 6, [], 40, false⟩ } }

/-- A VIDEO cell with its start and end flags. -/
def slice (start stop : Bool) (n : Nat) : Cell :=
  { cellOf 1 512 (List.replicate n 0) with start := start, stop := stop, sequence := 1 }

theorem witness_GathererTakesVideoCells :
    Chip.powerOn.ctx[(0 : Ctx)].state ≠ .running ∧
    (let c := withCtx 0 .running runPart
     c.ctx[(0 : Ctx)].state = .running ∧ c.ctx[(0 : Ctx)].gathering = none ∧ c.engine.op = none ∧
       ∀ j : Ctx, c.ctx[j].ready = none) ∧
    ((slice false true 1).start = false ∧ (slice true false 1).start = true ∧ (slice true false 1).stop = false ∧
      (slice true true 1).start = true ∧ (slice true true 1).stop = true) := by decide +kernel

/-- The last slice that 4,194,304 bytes hold, and the first that they do not. -/
theorem witness_GathererTakesVideoCells_joining :
    (∀ m, (gatherPart m).ctx[(0 : Ctx)].state = .running ∧
      (gatherPart m).ctx[(0 : Ctx)].gathering = some { gathering 0 7 with memory := List.replicate m 0 }) ∧
    (List.replicate 4194064 (0 : Byte)).length + (slice false false 240).payload.length ≤ 4194304 ∧
    ¬(List.replicate 4194065 (0 : Byte)).length + (slice false true 240).payload.length ≤ 4194304 ∧
    ((slice true false 1).start = true ∧ (slice true true 1).start = true ∧ (slice true true 1).stop = true ∧
      (slice false false 1).stop = false ∧ (slice false true 1).stop = true) ∧
    (∀ m, (gatherPart m).engine.op = none ∧ (codingPart (gatherPart m)).engine.op.isSome = true) := by
  refine ⟨fun m => ⟨rfl, rfl⟩, ?_, ?_, by decide +kernel, fun _ => ⟨rfl, rfl⟩⟩
  · rw [List.length_replicate]; decide +kernel
  · rw [List.length_replicate]; decide +kernel

/-- A ready record of a context. -/
def readyPart (k : Ctx) (c : Chip) : Chip :=
  modCtx k (fun x => { x with ready := some ⟨picture k 6, []⟩ }) (withCtx k .running c)

theorem witness_ArbiterGrantsProgrammeThenRotation :
    (codingPart runPart).engine.op.isSome = true ∧ (∀ k : Ctx, runPart.ctx[k].ready = none) ∧
    (let c := { readyPart 0 (readyPart 5 runPart) with sel := { Selector.powerOn with programme := some 5 } }
     c.engine.op = none ∧ c.ctx[(5 : Ctx)].ready = some ⟨picture 5 6, []⟩ ∧ decide (c.sel.programme = some 5) = true) ∧
    (let c := readyPart 5 runPart
     c.engine.op = none ∧ c.ctx[(5 : Ctx)].ready = some ⟨picture 5 6, []⟩ ∧ c.sel.programme = none ∧
      ∀ j : Ctx, c.ctx[j].ready.isSome = true →
        ((5 : Ctx) - c.engine.pointer - 1).val ≤ (j - c.engine.pointer - 1).val) := by decide +kernel

theorem witness_StartContextStartsOrResumes :
    HasRoom (holding runPart) ∧ HasRoom (holding Chip.powerOn) ∧ Chip.powerOn.port.mode = .standby ∧
      runPart.port.mode = .run ∧ 5 < (6 : Byte).toNat ∧ (5 : Ctx).val = (5 : Byte).toNat ∧
      (∀ st : CtxState, (withCtx 5 st runPart).ctx[(5 : Ctx)].state = st) := by
  refine ⟨by unfold HasRoom; decide, by unfold HasRoom; decide, rfl, rfl, by decide, rfl, fun _ => rfl⟩

/-- The conditions of PicturesOk, each in a form that is evaluated. -/
theorem picturesOk_of {c : Chip}
    (h1 : ∀ k : Ctx, (c.ctx[k].state ≠ .running → c.ctx[k].gathering = none ∧ c.ctx[k].ready = none) ∧
      (c.ctx[k].state = .stopped ∨ c.ctx[k].state = .starting → c.sched.videoQueue[k] = []) ∧
      (c.ctx[k].state = .draining → c.sched.videoQueue[k] ≠ []) ∧ c.sched.videoQueue[k].length ≤ 8 ∧
      c.ctx[k].gathering.all (fun g => g.picture.ctx == k) = true ∧
      c.ctx[k].ready.all (fun g => g.picture.ctx == k) = true)
    (h2 : ∀ k : Ctx, c.ctx[k].state = .stopped ∨ c.ctx[k].state = .starting →
      c.rate[k].target = 0 ∧ c.rate[k].size = 0 ∧ c.rate[k].fill = 0)
    (h3 : c.engine.op.all (fun o => c.ctx[o.picture.ctx].state == .running) = true)
    (h4 : c.engine.op = none → ∀ k : Ctx, c.ctx[k].ready = none)
    (h5 : c.sel.programme.all (fun k => c.ctx[k].state == .running) = true) : PicturesOk c := by
  refine ⟨fun k => ?_, h2, ⟨fun o ho => ?_, h4⟩, fun k hk => ?_⟩
  · obtain ⟨a, b, d, e, f, g⟩ := h1 k
    refine ⟨a, b, d, e, fun x hx => ?_, fun x hx => ?_⟩
    · rw [hx] at f; simpa using f
    · rw [hx] at g; simpa using g
  · rw [ho] at h3; simpa using h3
  · rw [hk] at h5; simpa using h5

/-- C0 RUNNING with a picture coding, one ready, one gathering and one queued; C1 RUNNING with none; C2 DRAINING. -/
def busyPart : Chip :=
  modVideo 0 (fun _ => [queued 0 4 64]) (modVideo 2 (fun _ => [queued 2 4 64]) (withCtx 1 .running (withCtx 2 .draining
    (readyPart 0 (codingPart (gatherPart 2))))))

/-- R51, R53: the operation in the engine is C0's, which a stop abandons, and not C1's. -/
theorem witness_StopContextStopsOrDrains_engine :
    busyPart.engine.op.any (fun o => o.picture.ctx == 0) = true ∧
      busyPart.engine.op.any (fun o => o.picture.ctx == 1) = false := by decide +kernel

theorem witness_StopContextStopsOrDrains :
    HasRoom (holding busyPart) ∧ PicturesOk busyPart ∧ HasRoom (holding Chip.powerOn) ∧
      busyPart.port.mode = .run ∧ Chip.powerOn.port.mode = .standby ∧ 5 < (6 : Byte).toNat ∧
      (busyPart.ctx[(0 : Ctx)].state = .running ∧ busyPart.sched.videoQueue[(0 : Ctx)] ≠ []) ∧
      (busyPart.ctx[(1 : Ctx)].state = .running ∧ busyPart.sched.videoQueue[(1 : Ctx)] = []) ∧
      busyPart.ctx[(2 : Ctx)].state = .draining ∧ busyPart.ctx[(5 : Ctx)].state = .stopped := by
  refine ⟨by unfold HasRoom; decide +kernel, picturesOk_of (by decide +kernel) (by decide +kernel)
    (by decide +kernel) (by decide +kernel) (by decide +kernel), ?_⟩
  unfold HasRoom; decide +kernel

/-- The same with C0 the programme and C1 the preset or C0 both, on an output lane of n cells. -/
def stoppingPart (preset : Option Ctx) (n : Nat) : Chip :=
  { busyPart with
      sel := { Selector.powerOn with programme := some 0, preset := preset },
      out := { OutputLane.powerOn with queue := List.replicate n ⟨.report, .answer, 0, [], 0⟩ } }

/-- R106, R107: a stop of the programme context, of the preset context, of both in one and of neither. -/
theorem witness_StopContextStopsOrDrains_selection :
    (∀ x ∈ [(some 1, 20), (some 0, 0), (none, 32)], PicturesOk (stoppingPart x.1 x.2)) ∧
    (stoppingPart (some 0) 0).sel.programme = some 0 ∧ (stoppingPart (some 1) 20).sel.preset = some 1 ∧
    (stoppingPart none 32).sel.preset = none ∧ outCount (stoppingPart (some 1) 20).out ≤ 20 := by
  refine ⟨fun x hx => ?_, rfl, rfl, rfl, by decide +kernel⟩
  simp only [List.mem_cons, List.not_mem_nil, or_false] at hx
  rcases hx with rfl | rfl | rfl <;>
    exact picturesOk_of (by decide +kernel) (by decide +kernel) (by decide +kernel) (by decide +kernel)
      (by decide +kernel)

/-! ## Witnesses: budget and rate control -/

/-- C0 and C1 RUNNING, C0 the programme context, minimums that V cannot meet, in LOST. -/
def shortPart : Chip :=
  modRate 0 (fun r => { r with settings := { r.settings with minimum := 1000000 } })
    (withCtx 0 .running (withCtx 1 .running (modLink (fun l => { l with state := .lost, capacity := 200000 })
      { runPart with sel := { Selector.powerOn with programme := some 0 } })))

theorem witness_BoundaryDividesThePeriodsBytes :
    (RatesOk runPart ∧ LinkRangesOk runPart.link) ∧ (RatesOk shortPart ∧ LinkRangesOk shortPart.link) ∧
    ((boundaryWork shortPart).ctx[(0 : Ctx)].state = .running ∧
      (boundaryWork shortPart).ctx[(2 : Ctx)].state = .stopped) := by
  refine ⟨⟨?_, ?_⟩, ⟨?_, ?_⟩, by decide +kernel⟩
  · unfold RatesOk RateOk; decide +kernel
  · unfold LinkRangesOk; decide +kernel
  · unfold RatesOk RateOk; decide +kernel
  · unfold LinkRangesOk; decide +kernel

theorem witness_BoundaryAppliesWhatIsPending :
    let c := { modSteer (fun t => { t with pendingSwap := true }) runPart with
      sel := { Selector.powerOn with pendingOp := .swap true } }
    c.steer.pendingSwap = true ∧ decide (c.sel.pendingOp ≠ .none) = true := by decide +kernel

/-- R108: a pending preset alone, an operation alone, and neither. -/
theorem witness_BoundaryAppliesWhatIsPending_tally :
    let offers (s : Selector) : Bool := decide (s.pendingOp ≠ .none) || s.pendingPreset.isSome
    offers { Selector.powerOn with pendingPreset := some none } = true ∧
    offers { Selector.powerOn with pendingOp := .cut none } = true ∧ offers Selector.powerOn = false ∧
    outCount (stoppingPart none 20).out ≤ 20 := by decide +kernel

/-- C0 and C3 RUNNING, each with a gathering record that has or has not been fed, and C0's ready record or none. -/
def stalePart (fed ready : Bool) (c : Chip) : Chip :=
  let with_ (k : Ctx) (g : Option Ready) : Chip → Chip := fun c =>
    modCtx k (fun x => { x with gathering := some { gathering k 7 with fed := fed }, ready := g }) (withCtx k .running c)
  with_ 3 none (with_ 0 (if ready then some ⟨picture 0 6, []⟩ else none) c)

/-- R50: records fed and stale, the engine busy with an older record ready and with none, and the engine idle. -/
theorem witness_BoundaryAppliesWhatIsPending_gathering :
    ((stalePart true false runPart).ctx[(0 : Ctx)].state = .running ∧
      (stalePart true false runPart).ctx[(0 : Ctx)].gathering = some { gathering 0 7 with fed := true }) ∧
    (∀ c ∈ [stalePart false true (codingPart runPart), stalePart false false (codingPart runPart),
        stalePart false false runPart],
      Stale c 0 { gathering 0 7 with fed := false } ∧ Stale c 3 { gathering 3 7 with fed := false }) ∧
    (∀ c ∈ [stalePart false true (codingPart runPart), stalePart false false (codingPart runPart),
        stalePart false false runPart], PicturesOk c) ∧
    (stalePart false true (codingPart runPart)).engine.op.isSome = true ∧
    (stalePart false false runPart).engine.op = none ∧
    (∀ (j : Ctx) (h : Gathering), j.val < (0 : Ctx).val → ¬Stale (stalePart false false runPart) j h) ∧
    ∃ (j : Ctx) (h : Gathering), j.val < (3 : Ctx).val ∧ Stale (stalePart false false runPart) j h := by
  have st : ∀ c ∈ [stalePart false true (codingPart runPart), stalePart false false (codingPart runPart),
        stalePart false false runPart],
      Stale c 0 { gathering 0 7 with fed := false } ∧ Stale c 3 { gathering 3 7 with fed := false } := by
    unfold Stale; decide +kernel
  refine ⟨by decide +kernel, st, fun c hc => ?_, by decide +kernel, by decide +kernel,
    fun j h hj => absurd hj (Nat.not_lt_zero _), ⟨0, _, by decide, (st _ (by simp)).1⟩⟩
  simp only [List.mem_cons, List.not_mem_nil, or_false] at hc
  rcases hc with rfl | rfl | rfl <;>
    exact picturesOk_of (by decide +kernel) (by decide +kernel) (by decide +kernel) (by decide +kernel)
      (by decide +kernel)

/-- The clip log with C2's clip on top of the stack, AUTO or not, auto-clip ON for C2 or not, and W at w. -/
def autoPart (auto on : Bool) (w : Nat) : Chip :=
  let c := withClip { clip .opened with ctx := 2, auto := auto, outPicture := none, outTimecode := none, done := none } runPart
  { c with clips := { c.clips with stack := [0], write := w, autoClip := setAt c.clips.autoClip 2 on } }

/-- R164: an AUTO clip on top whose context is, and is not, the programme; a clip wanted and not, with room and none. -/
theorem witness_BoundaryAppliesWhatIsPending_clips :
    (∀ x, (autoPart true true 1).clips.table[(0 : Fin 128)] = some x → x.auto = true ∧ x.ctx = 2 ∧
      AutoOnTop (autoPart true true 1).clips 0 [] x (fun k => (some 3 : Option Ctx) ≠ some k)) ∧
    (∀ i rest x, ¬AutoOnTop (autoPart true true 1).clips i rest x (fun k => (some 2 : Option Ctx) ≠ some k)) ∧
    (∀ i rest x, ¬AutoOnTop (autoPart false true 1).clips i rest x (fun j => j = 2)) ∧
    (autoPart false true 1).clips.autoClip[(2 : Ctx)] = true ∧
    (autoPart false false 1).clips.autoClip[(2 : Ctx)] = false ∧
    (¬(128 ≤ (autoPart false true 1).clips.write ∨ 4 ≤ (autoPart false true 1).clips.stack.length) ∧
      128 ≤ (autoPart false true 128).clips.write) ∧
    ((∀ k g, ¬Stale (autoPart true true 1) k g) ∧ decide ((autoPart true true 1).sel.pendingOp ≠ .none) = false) := by
  have h : ∀ a on w, (autoPart a on w).clips.table[(0 : Fin 128)] =
      some { clip .opened with ctx := 2, auto := a, outPicture := none, outTimecode := none, done := none } := by
    intro a on w; cases a <;> cases on <;> rfl
  refine ⟨fun x hx => ?_, ?_, ?_, by decide +kernel, by decide +kernel, by decide +kernel, fun k g hs => ?_,
    by decide +kernel⟩
  · rw [h] at hx
    cases hx
    exact ⟨rfl, rfl, rfl, by rfl, rfl, by decide⟩
  · rintro i rest x ⟨hs, ht, -, hp⟩
    cases hs
    cases (show some _ = some x from ht)
    exact hp rfl
  · rintro i rest x ⟨hs, ht, ha, -⟩
    cases hs
    cases (show some _ = some x from ht)
    exact absurd ha (by decide)
  · have key : ∀ k : Ctx, (autoPart true true 1).ctx[k].gathering = none := by decide +kernel
    rw [Stale, key k] at hs
    cases hs.2.1

/-- The engine coding for C0, whose reservoir holds n bytes and whose video queue v records. -/
def ratedPart (n v : Nat) : Chip :=
  modVideo 0 (fun _ => List.replicate v (queued 0 4 64))
    (modRate 0 (fun r => { r with size := n }) (codingPart (withCtx 0 .running runPart)))

theorem witness_CodingCompletionIsJudged :
    runPart.engine.op = none ∧ (List.replicate 63 (0 : Byte)).length < 64 ∧
    (∀ n v, (ratedPart n v).engine.op = some ⟨picture 0 6, [], 40, false⟩) ∧
    (∀ x ∈ [(95, 0), (96, 7), (96, 8)], RatesOk (ratedPart x.1 x.2)) ∧
    (64 ≤ (List.replicate 64 (0 : Byte)).length ∧ (List.replicate 64 (0 : Byte)).length ≤ 4194304) ∧
    (let r := (ratedPart 95 0).rate[(0 : Ctx)]; r.size + r.target < r.fill + 96) ∧
    (let r := (ratedPart 96 8).rate[(0 : Ctx)]; r.fill + 96 ≤ r.size + r.target) ∧
    8 ≤ (ratedPart 96 8).sched.videoQueue[(0 : Ctx)].length ∧
    ¬8 ≤ (ratedPart 96 7).sched.videoQueue[(0 : Ctx)].length := by
  refine ⟨rfl, by decide, fun _ _ => rfl, ?_, by decide +kernel, by decide +kernel, by decide +kernel,
    by decide +kernel, by decide +kernel⟩
  unfold RatesOk RateOk; decide +kernel

theorem witness_RateSettingsAreClampedAndStored :
    HasRoom (holding runPart) ∧ 5 < (6 : Byte).toNat ∧ 2 < (3 : Byte).toNat ∧ (5 : Ctx).val = (5 : Byte).toNat ∧
    (LogMode.all = .all ∧ (2 : Byte).toNat = 2) ∧ (List.replicate 32 (1 : Byte)).length ≠ 33 ∧
    (List.replicate 33 (1 : Byte)).length = 33 ∧
    (withCtx 5 .draining runPart).ctx[(5 : Ctx)].state ≠ .stopped ∧ runPart.ctx[(5 : Ctx)].state = .stopped ∧
    within 1 96 (95 : Byte).toNat < within 1 96 (200 : Byte).toNat ∧
    within 1 96 (200 : Byte).toNat ≤ within 1 96 (96 : Byte).toNat := by
  unfold HasRoom; decide +kernel

/-! ## Witnesses: sound mixer -/

theorem witness_GainTableIsLoadedAndRead :
    HasRoom (holding runPart) ∧ HasRoom (holding Chip.powerOn) ∧ runPart.port.mode = .run ∧
    Chip.powerOn.port.mode = .standby ∧
    (1 ≤ (64 : Byte).toNat ∧ (64 : Byte).toNat ≤ 64 ∧ (192 : Byte).toNat + (64 : Byte).toNat ≤ 256 ∧
      (List.replicate 64 (1 : BitVec 16)).length = (64 : Byte).toNat) ∧
    (∀ x ∈ [(0, 0), (0, 65), (193, 64)], let first := num8 x.1; let count := num8 x.2
      ¬(1 ≤ count.toNat ∧ count.toNat ≤ 64 ∧ first.toNat + count.toNat ≤ 256)) ∧
    ([] : List (BitVec 16)).length ≠ (1 : Byte).toNat := by
  unfold HasRoom; decide +kernel

theorem witness_MixerSettingsAreStored :
    HasRoom (holding runPart) ∧ 15 < (16 : Byte).toNat ∧ (15 : InputNo).val = (15 : Byte).toNat ∧
    (5 < (6 : Byte).toNat ∧ (6 : Byte).toNat ≠ 255) ∧ (255 : Byte).toNat = 255 ∧ (5 : Ctx).val = (5 : Byte).toNat ∧
    3 < (4 : Byte).toNat ∧ 1 < (2 : Byte).toNat ∧ (1 : Byte).toNat ≤ 1 ∧
    ((1 : BusNo).val = (1 : Byte).toNat ∧ (1 : BusNo).val < 2) ∧
    ((2 : BusNo).val = (2 : Byte).toNat ∧ 2 ≤ (2 : BusNo).val ∧ (3 : BusNo).val = (3 : Byte).toNat) ∧
    (1 : BitVec 16).toNat = 1 ∧ (4096 : BitVec 16).toNat ≠ 1 := by
  unfold HasRoom; decide +kernel

/-- Input I15 ACTIVE after a run of underruns. -/
def activePart (blocks run : Nat) : Chip :=
  modInput 15 (fun x => { x with active := true, buffer := List.replicate blocks silence, underrunRun := run }) runPart

theorem witness_MetersAreReadAndInputsLost :
    HasRoom (holding runPart) ∧
    ((activePart 0 99).port.mode = .run ∧ (activePart 0 99).mixer.inputs[(15 : InputNo)].active = true ∧
      (activePart 0 99).mixer.inputs[(15 : InputNo)].buffer = [] ∧
      99 ≤ (activePart 0 99).mixer.inputs[(15 : InputNo)].underrunRun) ∧
    ¬99 ≤ (activePart 0 98).mixer.inputs[(15 : InputNo)].underrunRun ∧
    (activePart 1 99).mixer.inputs[(15 : InputNo)].buffer ≠ [] := by
  unfold HasRoom; decide +kernel

/-- R79: the hundredth underrun is counted within AUDIO_INPUT_LOST; with 98 underruns before it there is no such event. -/
theorem test_hundredth_underrun :
    ((after (.audioInputLost 15) (activePart 0 99)).mixer.inputs[(15 : InputNo)].underruns = 1 ∧
      (after (.audioInputLost 15) (activePart 0 99)).mixer.inputsLost = 1) ∧
    after (.audioInputLost 15) (activePart 0 98) = activePart 0 98 := by decide +kernel

theorem witness_BlockTickMovesFadersAndMeters :
    ∀ n ∈ [0, 911], let c := modTime (fun t => { t with elapsed := n }) (activePart 4 0)
      c.port.mode = .run ∧ c.time.elapsed + samplesToTick c.time < c.time.length := by decide +kernel

/-- I15 at full scale with its fader, its send to PGM-L and that bus's master at 255, the highest gain. -/
def loudPart (mute : Bool) : Chip :=
  let c := modInput 15 (fun x => { x with
    buffer := [List.replicate 48 0x7FFFFF], fader := ⟨255, 255, 0, 8⟩, sends := #v[255, 0, 0, 0] }) (activePart 1 0)
  { c with mixer := { c.mixer with buses := modAt c.mixer.buses 0 (fun y => { y with master := 255, mute := mute }) } }

/-- R79, R84 to R86: samples that saturate at each stage, none at a muted bus, and an input whose underruns are out. -/
theorem witness_BlockTickMovesFadersAndMeters_counts :
    faderSaturated (loudPart false).mixer 15 = 48 ∧ sendsSaturated (loudPart false).mixer 15 = 48 ∧
    busSaturated (loudPart false).mixer 0 = 48 ∧ busSaturated (loudPart true).mixer 0 = 0 ∧
    underrunsOut (activePart 0 99).mixer.inputs[(15 : InputNo)] = true ∧
    underrunsOut (activePart 0 98).mixer.inputs[(15 : InputNo)] = false := by decide +kernel

/-- The mixer with a block counter and its frame, and n cells on the output lane. -/
def mixPart (b n : Nat) (st : LinkState) : Chip :=
  withLink st { runPart with
    mixer := { Mixer.powerOn with blockCounter := b, build := some ⟨.zero, 0, List.replicate b (silence, silence)⟩ },
    out := { OutputLane.powerOn with queue := List.replicate n ⟨.report, .answer, 0, [], 0⟩ } }

theorem witness_MixerTickBuildsFramesAndAuxCells :
    (mixPart 2 0 .up).port.mode = .run ∧ (mixPart 2 0 .up).mixer.blockCounter < 3 ∧
    3 ≤ (mixPart 3 0 .up).mixer.blockCounter ∧
    ((mixPart 3 0 .lost).mixer.audioSend = true ∧
      ((mixPart 3 0 .lost).link.state = .up ∨ (mixPart 3 0 .lost).link.state = .lost)) ∧
    ¬((mixPart 3 0 .held).link.state = .up ∨ (mixPart 3 0 .held).link.state = .lost) ∧
    outCount (mixPart 2 28 .up).out ≤ 28 ∧ 32 ≤ outCount (mixPart 2 32 .up).out ∧ outCount (mixPart 2 31 .up).out < 32 ∧
    (∀ s ∈ [OutSource.auxA, .auxB], isAux s = true) := by decide +kernel

/-! ## Witnesses: programme selection and tally -/

theorem witness_PresetTakeAndCutSetWhatIsPending :
    HasRoom (holding Chip.powerOn) ∧
    (choiceInRange 0 5 ∧ NamesHere Chip.powerOn 0 5 (some 5)) ∧ (choiceInRange 3 5 ∧ NamesHere Chip.powerOn 3 5 none) ∧
    (choiceInRange 0 255 ∧ NamesHere Chip.powerOn 0 255 none) ∧
    ¬choiceInRange 4 0 ∧ ¬choiceInRange 0 6 ∧ ¬choiceInRange 0 254 := by
  unfold HasRoom choiceInRange NamesHere; decide +kernel

theorem witness_TallyStreamsAndSets :
    HasRoom (holding runPart) ∧ 5 < (6 : Byte).toNat ∧ (1 : BitVec 16).toNat = 1 ∧
    ((5 : Ctx).val = (5 : Byte).toNat ∧ (4096 : BitVec 16).toNat ≠ 1) ∧ outCount (mixPart 0 26 .up).out ≤ 26 ∧
    isTally (tallyCell 5).source = true ∧ outCount (mixPart 0 31 .up).out < 32 ∧ 32 ≤ outCount (mixPart 0 32 .up).out := by
  unfold HasRoom; decide +kernel

/-! ## Witnesses: home link -/

theorem witness_LinkOpenAndSetLink :
    HasRoom (holding runPart) ∧ HasRoom (holding (withLink .held runPart)) ∧ HasRoom (holding (withLink .lost runPart)) ∧
    HasRoom (holding Chip.powerOn) ∧
    (runPart.port.mode = .run ∧ runPart.link.state = .down ∧ (withLink .held runPart).link.state = .held) ∧
    ((withLink .lost runPart).link.state ≠ .down ∧ (withLink .lost runPart).link.state ≠ .held) ∧
    Chip.powerOn.port.mode = .standby := by
  unfold HasRoom; decide +kernel

/-- A link in HAILING at an attempt. -/
def hailingPart (attempt : Nat) (window gap : Option Nat) : Chip :=
  modLink (fun l => { l with state := .hailing, attempt := attempt, answerWindow := window, retryGap := gap }) runPart

/-- A link in DRAINING. -/
def drainPart : Chip := modLink (fun l => { l with drainLimit := some 240 }) (withLink .draining runPart)

theorem witness_LinkTimersExpire :
    ((hailingPart 2 (some 0) none).link.answerWindow.isSome = true ∧ (hailingPart 2 (some 0) none).link.attempt < 3) ∧
    ((hailingPart 3 (some 0) none).link.answerWindow.isSome = true ∧
      3 ≤ (hailingPart 3 (some 0) none).link.attempt) ∧
    (hailingPart 2 none (some 0)).link.answerWindow = none ∧
    (hailingPart 2 none (some 0)).link.retryGap.isSome = true ∧ runPart.link.retryGap = none ∧
    ((withLink .up runPart).link.silence.isSome = true ∧ (withLink .up runPart).link.state = .up) ∧
    (drainPart.link.silence.isSome = true ∧ drainPart.link.state = .draining ∧
      drainPart.link.drainLimit.isSome = true) ∧
    (runPart.link.silence = none ∧ runPart.link.drainLimit = none) ∧
    ((withLink .lost runPart).link.state ≠ .up ∧ (withLink .lost runPart).link.state ≠ .draining) := by
  decide +kernel

/-- R23: timers that go on at a tick, and those that end at it. -/
theorem witness_LinkTimersExpire_tick :
    (∀ n, (hailingPart 2 (some 2) none).link.answerWindow = some n → 1 < n) ∧
    (∀ n, (hailingPart 2 (some 2) none).link.retryGap = some n → 1 < n) ∧
    (∀ n, (withLink .up runPart).link.silence = some n → 1 < n) ∧ (∀ n, drainPart.link.drainLimit = some n → 1 < n) ∧
    ¬(∀ n, (hailingPart 3 (some 1) none).link.answerWindow = some n → 1 < n) ∧
    ¬(∀ n, (hailingPart 2 none (some 1)).link.retryGap = some n → 1 < n) ∧
    (modLink countLinkTimers (modLink (fun l => { l with silence := some 1, drainLimit := some 1 }) drainPart)).link.silence
      = some 0 ∧
    (modLink countLinkTimers (modLink (fun l => { l with silence := some 1, drainLimit := some 1 }) drainPart)).link.drainLimit
      = some 0 := by
  refine ⟨?_, ?_, ?_, ?_, fun h => absurd (h 1 rfl) (by decide), fun h => absurd (h 1 rfl) (by decide), rfl, rfl⟩
  · rintro n h; cases h; decide
  · rintro n h; cases h
  · rintro n h; cases h; decide
  · rintro n h; cases h; decide

/-- A link state with one label on the awaiting list. -/
def awaitingPart (st : LinkState) : Chip :=
  modSched (fun s => { s with awaiting := [labelEntry 9 0] }) (withLink st runPart)

/-- Entries left in both lists: a label's of an AWAITING clip, and in the resend queue two fragments' of C0's picture 7. -/
def leftPart : Chip :=
  withClip (clip .awaiting) (modSched (fun s => { s with
      awaiting := [labelEntry 11 0], resend := [fragmentEntry 9 0 7 0, fragmentEntry 10 0 7 1],
      videoQueue := setAt s.videoQueue 0 [{ queued 0 7 2000 with sent := 2, outstanding := 2 }] })
    (withLink .draining runPart))

theorem witness_HandoverCloseAndTheDrainsEnd_left :
    HasRoom (holding leftPart) ∧ leftPart.port.mode = .run ∧ leftPart.link.state ≠ .down ∧
    ((leftPart.clips.table[0]?).join = some (clip .awaiting) ∧ (labelEntry 11 0).origin = .label 0 0) ∧
    (QueuedAs leftPart 0 7 { queued 0 7 2000 with sent := 2, outstanding := 2 } ∧
      (fragmentEntry 9 0 7 0).origin = .video 0 7 0) ∧
    ∀ q, ¬QueuedAs leftPart 0 8 q := by
  refine ⟨by unfold HasRoom; decide +kernel, by decide +kernel, by decide +kernel, by decide +kernel,
    by unfold QueuedAs; decide +kernel, fun q h => ?_⟩
  have none : leftPart.sched.videoQueue[(0 : Ctx)].find? (fun r => r.picture.number == 8) = none := by decide +kernel
  rw [QueuedAs, none] at h; cases h

/-- R123, R150: the second of two fragments lost resolves the picture LOST, and the label's clip is CLOSED. -/
theorem test_end_of_drain_settles_what_is_left :
    (drainEnd leftPart).acct.outcomes[(0 : Ctx)].lost = 1 ∧ (drainEnd leftPart).sched.entriesLost = 3 ∧
    (clipAt (drainEnd leftPart).clips 0).map (fun x => (x.state, x.labelLost, x.gap)) = some (.closed, true, false) := by
  decide +kernel

theorem witness_HandoverCloseAndTheDrainsEnd :
    HasRoom (holding (awaitingPart .up)) ∧ HasRoom (holding (withLink .lost runPart)) ∧ HasRoom (holding runPart) ∧
    HasRoom (holding Chip.powerOn) ∧
    ((awaitingPart .up).port.mode = .run ∧ (awaitingPart .up).link.state = .up ∧
      (awaitingPart .up).sched.awaiting ≠ []) ∧
    ((withLink .lost runPart).link.state = .lost ∧ (withLink .lost runPart).sched.awaiting = [] ∧
      (withLink .lost runPart).sched.resend = []) ∧
    (runPart.link.state = .down ∧ (withLink .held runPart).link.state ≠ .down ∧ Chip.powerOn.port.mode = .standby) := by
  unfold HasRoom; decide +kernel

theorem witness_ReturnMessagesAreJudgedAndTaken :
    (List.replicate 9 (0 : Byte)).length < 10 ∧
    (let bytes := List.replicate 11 (0 : Byte)
     (bytes.getD 4 0).toNat * 256 + (bytes.getD 5 0).toNat ≠ bytes.length) ∧
    (let bytes : List Byte := [1, 0, 0, 0, 0, 10, 0, 0, 0, 0]
     bytes.drop (bytes.length - 4) ≠ le32 (crc32 (bytes.take (bytes.length - 4)))) ∧
    ([0, 0, 1, 244] : List Byte).length = 4 ∧
    (let body : List Byte := 16 :: List.replicate 48 0
     1 ≤ (body.getD 0 0).toNat ∧ (body.getD 0 0).toNat ≤ 16 ∧ body.length = 1 + 3 * (body.getD 0 0).toNat) ∧
    (let body : List Byte := 17 :: List.replicate 51 0
     ¬((body.getD 0 0).toNat ≤ 16) ∧ body.length ≤ 60000) ∧
    ((0 : Byte).toNat = runPart.unit.val ∧ (0 : BitVec 16) = runPart.link.settings.identity ∧
      (1 : Byte).toNat ≠ runPart.unit.val) ∧
    runPart.link.state = .down ∧ (hailingPart 1 (some 200) none).link.state = .hailing ∧
    (withLink .lost runPart).link.state ≠ .hailing := by decide +kernel

/-! ## Witnesses: frame scheduler -/

/-- C0's picture 7 with two fragments outstanding, frames 9 and 10 awaited, and one late or not. -/
def ackPart (late : Bool) (sends : Nat) : Chip :=
  modSched (fun s => { s with
      awaiting := [{ fragmentEntry 9 0 7 0 with sendCount := sends }, fragmentEntry 10 0 7 1, labelEntry 11 0],
      videoQueue := setAt s.videoQueue 0 [{ queued 0 7 3000 with sent := 2, outstanding := 2, late := late }] })
    (withLink .up runPart)

/-- The part with an AWAITING clip at index 0, whose pictures are done or not. -/
def ackClipPart (done : Bool) : Chip := withClip { clip .awaiting with done := some done } (ackPart false 1)

/-- The same in DRAINING with frames 9 and 10 in the resend queue. -/
def resentPart : Chip :=
  modSched (fun s => { s with awaiting := [labelEntry 11 0], resend := [fragmentEntry 9 0 7 0, fragmentEntry 10 0 7 1] })
    (withLink .draining (ackPart false 2))

theorem witness_AcknowledgedFramesSettleOrExpire :
    (∀ e ∈ (ackPart false 1).sched.awaiting ++ (ackPart false 1).sched.resend, e.frame ≠ 12) ∧
    Leaves 11 (labelEntry 11 0) (ackPart false 1).sched.awaiting [fragmentEntry 9 0 7 0, fragmentEntry 10 0 7 1] ∧
    ((∀ x ∈ resentPart.sched.awaiting, x.frame ≠ 10) ∧
      Leaves 10 (fragmentEntry 10 0 7 1) resentPart.sched.resend [fragmentEntry 9 0 7 0]) := by
  refine ⟨by decide +kernel, ⟨[fragmentEntry 9 0 7 0, fragmentEntry 10 0 7 1], [], rfl, rfl, rfl, by decide +kernel⟩,
    by decide +kernel, ⟨[fragmentEntry 9 0 7 0], [], rfl, rfl, rfl, by decide +kernel⟩⟩

/-- An expiry that is useful, for a label and for a fragment, and one that is not: a second sending, a late picture. -/
theorem witness_AcknowledgedFramesSettleOrExpire_useful :
    ((labelEntry 11 0).sendCount = 1 ∧ (labelEntry 11 0).origin = .label 0 0) ∧
    ((fragmentEntry 9 0 7 0).sendCount = 1 ∧ (fragmentEntry 9 0 7 0).origin = .video 0 7 0) ∧
    (∀ x ∈ [(false, 1), (false, 2), (true, 1)], QueuedAs (ackPart x.1 x.2) 0 7
      { queued 0 7 3000 with sent := 2, outstanding := 2, late := x.1 }) ∧
    (∀ x ∈ [(false, 1), (false, 2), (true, 1)], ∃ rest, Leaves 9 { fragmentEntry 9 0 7 0 with sendCount := x.2 }
      (ackPart x.1 x.2).sched.awaiting rest) ∧
    (∀ done, (((ackClipPart done).clips.table[0]?).join) = some { clip .awaiting with done := some done }) := by
  refine ⟨by decide, by decide, by unfold QueuedAs; decide +kernel, fun x _ => ⟨_, [], _, rfl, rfl, rfl, by simp⟩,
    by decide +kernel⟩

/-- C0's picture 7 of three fragments, two sent: o outstanding, of which m are in the resend queue. -/
def deadlinePart (o m : Nat) (late : Bool) : Chip :=
  modSched (fun s => { s with resend := List.replicate m (fragmentEntry 9 0 7 0) })
    (modVideo 0 (fun _ => [{ queued 0 7 3000 with sent := 2, outstanding := o, late := late }])
      (withCtx 0 .draining runPart))

theorem witness_PictureDeadlineWithdrawsTheUnsent :
    (∀ q, ¬QueuedAs runPart 0 7 q) ∧
    (∀ x ∈ [(1, 0), (1, 1), (2, 1), (2, 2), (0, 0)], ∀ late, QueuedAs (deadlinePart x.1 x.2 late) 0 7
      { queued 0 7 3000 with sent := 2, outstanding := x.1, late := late }) ∧
    (∀ m ∈ [0, 1, 2], (deadlinePart 2 m false).sched.resend.countP (fun e => match e.origin with
      | .video k' p' _ => decide (k' = 0 ∧ p' = 7)
      | .label _ _ => false) = m) ∧
    1 ≤ 0 + ((queued 0 7 3000).fragments - 2 - 0) ∧ (deadlinePart 2 2 false).link.state ≠ .draining := by
  refine ⟨fun q h => ?_, by unfold QueuedAs; decide +kernel, by decide +kernel, by decide +kernel, by decide +kernel⟩
  have key : runPart.sched.videoQueue[(0 : Ctx)] = [] := by decide
  rw [QueuedAs, key] at h
  cases h

/-- Queues that hold one frame of a class each. -/
def classPart (a r l : Bool) (programme : Option Ctx) : Chip :=
  modSched (fun s => { s with
      audioQueue := if a then [⟨.zero, 0, []⟩] else [], resend := if r then [fragmentEntry 9 0 7 0] else [],
      labelQueue := if l then [⟨0, 0, 0, []⟩] else [], videoQueue := setAt s.videoQueue 2 [queued 2 7 1368],
      allowance := setAt s.allowance 2 1400 })
    { withLink .up runPart with sel := { Selector.powerOn with programme := programme } }

/-- With the allowance at the frame's 1,400 bytes C2's fragment is eligible, and no other context has one. -/
theorem eligible_C2 (p : Option Ctx) :
    Eligible (classPart false false false p) 2 (queued 2 7 1368) ∧
      ∀ k q, Eligible (classPart false false false p) k q → k = 2 := by
  have key : ∀ (p : Option Ctx) (k : Ctx), k ≠ 2 →
      (classPart false false false p).sched.videoQueue[k] = [] := by decide +kernel
  refine ⟨⟨⟨[], [], rfl, by simp⟩, by decide +kernel, by revert p; decide +kernel⟩, fun k q h => ?_⟩
  by_contra hk
  obtain ⟨⟨b, a, hq, -⟩, -, -⟩ := h
  rw [key p k hk] at hq
  simp at hq

theorem witness_SearchTakesClassesInOrder :
    (drainPart.link.state = .draining ∧ (classPart true true true none).link.state ≠ .draining) ∧
    (classPart true true true none).sched.audioQueue = [⟨.zero, 0, []⟩] ∧
    ((classPart false true true none).sched.audioQueue = [] ∧
      (classPart false true true none).sched.resend = [fragmentEntry 9 0 7 0]) ∧
    ((classPart false false true none).sched.resend = [] ∧
      (classPart false false true none).sched.labelQueue = [⟨0, 0, 0, []⟩]) ∧
    48 ≤ (modSched (fun s => { s with awaiting := List.replicate 48 (labelEntry 9 0) }) runPart).sched.awaiting.length +
      runPart.sched.resend.length ∧
    ¬48 ≤ (classPart false false true none).sched.awaiting.length + 0 := by decide +kernel

/-- The video clauses: C2 found as the programme context, and by rotation. -/
theorem witness_SearchTakesClassesInOrder_video :
    ((classPart false false false (some 2)).sel.programme = some 2 ∧
      Eligible (classPart false false false (some 2)) 2 (queued 2 7 1368)) ∧
    ((classPart false false false none).sel.programme ≠ some 2 ∧
      Eligible (classPart false false false none) 2 (queued 2 7 1368) ∧
      (∀ p, (classPart false false false none).sel.programme = some p →
        ∀ r, ¬Eligible (classPart false false false none) p r) ∧
      (∀ j r, Eligible (classPart false false false none) j r →
        ((2 : Ctx) - (classPart false false false none).sched.pointer - 1).val
          ≤ (j - (classPart false false false none).sched.pointer - 1).val)) ∧
    (∀ k q, ¬Eligible runPart k q) := by
  refine ⟨⟨rfl, (eligible_C2 _).1⟩, ⟨by decide, (eligible_C2 _).1,
    fun p h => (nomatch (show (none : Option Ctx) = some p from h)), fun j r h => ?_⟩,
    fun k q h => ?_⟩
  · rw [(eligible_C2 _).2 j r h]
  · obtain ⟨⟨b, a, hq, -⟩, -, -⟩ := h
    have key : ∀ k : Ctx, runPart.sched.videoQueue[k] = [] := by decide
    rw [key k] at hq
    simp at hq

theorem witness_SelectionSpendsTheCredit :
    runPart.link.state = .down ∧ drainPart.link.state = .draining := by decide

theorem witness_HomeFramesCarryTheirPayload :
    ({ clip .queued with text := List.replicate 32 65 } : Clip).text.length ≤ 32 ∧ (clip .queued).text.length ≤ 32 := by
  decide

/-! ## Witnesses: delivery accounting -/

/-- A log of n entries. -/
def logPart (n : Nat) : Chip :=
  { runPart with acct := { Accounting.powerOn with log := List.replicate n (.label true 0 0 0 .zero 0 1) } }

theorem witness_ResolutionIsCountedLoggedAndHandedOver :
    ((logPart 31).rate[(0 : Ctx)].settings.logMode = .trouble ∧ PicOutcome.lost ≠ .delivered ∧
      (logPart 31).acct.log.length < 32) ∧ 32 ≤ (logPart 32).acct.log.length ∧
    ¬((logPart 31).rate[(0 : Ctx)].settings.logMode = .all) ∧
    (runPart.sched.videoQueue[(0 : Ctx)] = [] ∧ runPart.engine.op = none ∧ runPart.ctx[(0 : Ctx)].ready = none ∧
      runPart.ctx[(0 : Ctx)].gathering = none) ∧
    (serialBefore (4 : PicNum) 6 = true ∧ serialBefore (4 : PicNum) 7 = true) ∧
    ((busyPart.sched.videoQueue[(0 : Ctx)].map (fun r => r.picture.number)) = [4]) ∧
    ((withClip (clip .labelled) runPart).clips.table[(0 : Fin 128)] = some (clip .labelled) ∧
      runPart.clips.table[(127 : Fin 128)] = none) := by decide +kernel

/-- R168: an EMPTY clip whose numbers the test of its span would take for a picture half the range away is not marked,
and the same clip without the flag is. -/
theorem test_empty_clip_is_not_marked :
    let x : Clip := { clip .closed with inPicture := 8, outPicture := some 7, empty := true, done := some true }
    newGap 0 (8 + 32767) x = false ∧ newGap 0 (8 + 32767) { x with empty := false } = true := by decide +kernel

/-- R188: a version and a lane take two bytes in an answer, as any other value up to 65,535. -/
theorem test_version_and_lane_take_two_bytes :
    ((clipBytes 0 (some { clip .closed with version := 9 })).drop 21).take 3 = [0, 0, 9] ∧
    noteBytes ⟨63, 4095, 7, .zero⟩ = [63, 15, 255, 0, 7, 0, 0, 0, 0] ∧
    gatheringBytes (gathering 0 5) = [0, 5, 0, 0, 2, 2, 0] := by decide +kernel

/-- The blocks and indices of READ_STATUS that are in range. -/
def InBlocks (block index : Byte) : Prop :=
  block.toNat ≤ 15 ∧ (block.toNat = 0 → index.toNat ≤ 7) ∧ (block.toNat = 4 ∨ block.toNat = 7 → index.toNat ≤ 5) ∧
    (block.toNat = 8 → index.toNat ≤ 15)

theorem witness_ReadingTheLogClipsAndStatus :
    HasRoom (holding runPart) ∧ runPart.acct.log = [] ∧ HasRoom (holding (logPart 32)) ∧ (logPart 32).acct.log ≠ [] ∧
    127 < (128 : Byte).toNat ∧ (127 : Fin 128).val = (127 : Byte).toNat ∧ runPart.clips.table[(127 : Fin 128)] = none ∧
    (withClip (clip .closed) runPart).clips.table[(0 : Fin 128)] = some (clip .closed) ∧
    (∀ x ∈ [(0, 7), (4, 5), (7, 5), (8, 15), (2, 255), (15, 0)], InBlocks (num8 x.1) (num8 x.2)) ∧
    (∀ x ∈ [(0, 8), (4, 6), (7, 6), (8, 16), (16, 0)], ¬InBlocks (num8 x.1) (num8 x.2)) := by
  unfold HasRoom InBlocks; decide +kernel

/-! ## Witnesses: clip log -/

/-- W at w, n indices on the mark stack. -/
def markedPart (w n : Nat) : Chip :=
  { withCtx 5 .running runPart with clips := { ClipLog.powerOn with write := w, stack := List.range n } }

theorem witness_MarkInOpensAndMarkOutCloses :
    (HasRoom (holding Chip.powerOn) ∧ Chip.powerOn.port.mode = .standby) ∧
    (HasRoom (holding (markedPart 127 3)) ∧ (markedPart 127 3).port.mode = .run ∧
      ¬(128 ≤ (markedPart 127 3).clips.write ∨ 4 ≤ (markedPart 127 3).clips.stack.length) ∧
      (markedPart 127 3).ctx[(5 : Ctx)].state = .running ∧ (markedPart 127 3).ctx[(0 : Ctx)].state ≠ .running) ∧
    (128 ≤ (markedPart 128 0).clips.write ∧ 4 ≤ (markedPart 4 4).clips.stack.length) ∧
    (5 < (6 : Byte).toNat ∧ 32 < (List.replicate 33 (65 : Byte)).length ∧
      (List.replicate 32 (65 : Byte)).length ≤ 32 ∧ (5 : Ctx).val = (5 : Byte).toNat) ∧
    (runPart.clips.stack = [] ∧
      (let c := { withClip (clip .opened) runPart with
          clips := { (withClip (clip .opened) runPart).clips with stack := [0] } }
       c.clips.stack = (0 : Fin 128).val :: [] ∧ c.clips.table[(0 : Fin 128)] = some (clip .opened))) := by
  unfold HasRoom; decide +kernel

/-- A delivered clip at index 0, W at 1. -/
def settledPart : Chip := withClip { clip .delivered with done := some true } runPart

theorem witness_ClipModeFenceAndClear :
    HasRoom (holding settledPart) ∧ (1 : Byte).toNat ≤ 1 ∧ 1 < (2 : Byte).toNat ∧
    (∀ k : Ctx, (#v[1, 1, 1, 1, 1, 0] : Vector Byte 6)[k].toNat ≤ 1) ∧
    (∃ k : Ctx, 1 < (#v[1, 1, 1, 1, 1, 2] : Vector Byte 6)[k].toNat) ∧ 128 < (129 : Byte).toNat ∧
    (settledPart.clips.fence ≤ (1 : Byte).toNat ∧ (1 : Byte).toNat ≤ settledPart.clips.write ∧
      (1 : Byte).toNat ≤ 128 ∧ settledPart.clips.write < (2 : Byte).toNat) ∧
    ((withClip (clip .awaiting) runPart).clips.table[(0 : Fin 128)] = some (clip .awaiting)) := by
  unfold HasRoom; decide +kernel

/-- The quantified hypotheses of SET_FENCE and CLEAR_CLIPS. -/
theorem witness_ClipModeFenceAndClear_settled :
    (∀ i : Fin 128, i.val < (1 : Byte).toNat →
      ∃ x, settledPart.clips.table[i] = some x ∧ (x.state = .delivered ∨ x.state = .void)) ∧
    (¬∃ i : Fin 128, ∃ x, settledPart.clips.table[i] = some x ∧
      (x.state = .opened ∨ x.state = .queued ∨ x.state = .awaiting)) := by
  have h0 : settledPart.clips.table[(0 : Fin 128)] = some { clip .delivered with done := some true } := by
    decide +kernel
  have h1 : ∀ i : Fin 128, i = 0 ∨ settledPart.clips.table[i] = none := by decide +kernel
  constructor
  · intro i hi
    obtain rfl : i = 0 := Fin.ext (by simpa using hi)
    exact ⟨_, h0, .inl rfl⟩
  · rintro ⟨i, x, hx, hs⟩
    rcases h1 i with rfl | h
    · rw [h0] at hx; cases hx; simp [clip] at hs
    · rw [h] at hx; cases hx

theorem witness_LabelIsTakenByTheClipsState :
    HasRoom (holding runPart) ∧ 127 < (128 : Byte).toNat ∧ 32 < (List.replicate 33 (65 : Byte)).length ∧
    (0 : Fin 128).val = (0 : Byte).toNat ∧ (List.replicate 32 (65 : Byte)).length ≤ 32 ∧
    (let c := { settledPart with clips := { settledPart.clips with fence := 1 } }; (0 : Fin 128).val < c.clips.fence) ∧
    (runPart.clips.fence ≤ (0 : Fin 128).val ∧ runPart.clips.table[(0 : Fin 128)] = none) ∧
    (∀ st ∈ [ClipState.opened, .closed, .queued, .awaiting, .labelled, .delivered, .void],
      (withClip (clip st) runPart).clips.table[(0 : Fin 128)] = some (clip st)) ∧
    (let x := { clip .labelled with version := 255 }
     ((x.labelLost && decide (x.state = .closed ∨ x.state = .queued)) || decide (x.state = .labelled ∨
       x.state = .delivered)) = true ∧ x.version = 255) ∧
    (clip .delivered).version ≠ 255 := by
  unfold HasRoom; decide +kernel

theorem witness_SendLabelAndVoidClip :
    HasRoom (holding runPart) ∧ 127 < (128 : Byte).toNat ∧ (0 : Fin 128).val = (0 : Byte).toNat ∧
    (runPart.clips.fence ≤ (0 : Fin 128).val ∧ runPart.clips.table[(0 : Fin 128)] = none) ∧
    (let c := { settledPart with clips := { settledPart.clips with fence := 1 } }; (0 : Fin 128).val < c.clips.fence) ∧
    (∀ st ∈ [ClipState.opened, .closed, .queued, .awaiting, .labelled, .delivered, .void],
      (withClip (clip st) runPart).clips.table[(0 : Fin 128)] = some (clip st)) := by
  unfold HasRoom; decide +kernel

/-! ## Witnesses: what every step keeps -/

/-- The part after GO has been taken: in RUN, with its answer on FO, and a delivered clip below the fence. -/
def keptPart : Chip :=
  { after (.go 5) Chip.powerOn with
      clips := { ClipLog.powerOn with
        table := setAt ClipLog.powerOn.table 0 (some { clip .delivered with done := some true }), write := 1, fence := 1 } }

/-- A step of it with STANDBY at the front of its queue. -/
def keptState : State := ⟨keptPart, [.standby 6]⟩

theorem witness_a_step_is_taken : ∃ t, step keptState = .next t := ⟨_, rfl⟩

theorem witness_StepsKeepTimeRatesAndMixer :
    (∃ t, step keptState = .next t) ∧ TimeOk keptState.chip ∧ BanksOk keptState.chip ∧ BudgetOk keptState.chip ∧
      RatesOk keptState.chip ∧ MixerOk keptState.chip := by
  refine ⟨⟨_, rfl⟩, by unfold TimeOk; decide +kernel, by unfold BanksOk; decide +kernel,
    by unfold BudgetOk; decide +kernel, by unfold RatesOk RateOk; decide +kernel, ?_⟩
  have hl : ∀ i : InputNo, keptState.chip.mixer.inputs[i].link = none := by decide +kernel
  have hi : ∀ i : InputNo, let x := keptState.chip.mixer.inputs[i]
      x.buffer.length ≤ 4 ∧ (x.active = false → x.buffer = [] ∧ x.underrunRun = 0) ∧ x.underrunRun < 100 ∧
        FaderOk x.fader ∧ (∀ n ∈ x.sends.toList, n ≤ 255) := by unfold FaderOk; decide +kernel
  refine ⟨fun i => ⟨(hi i).1, (hi i).2.1, (hi i).2.2.1, (hi i).2.2.2.1, (hi i).2.2.2.2, fun l h => ?_⟩,
    by decide +kernel, by decide +kernel, rfl⟩
  rw [hl i] at h; cases h

theorem witness_StepsKeepTheOutputLane :
    (∃ t, step keptState = .next t) ∧ OutOk keptState.chip ∧ NoPlaceHeld keptState.chip ∧ CellsFit keptState.chip ∧
      SourcesOk keptState.chip ∧ SentCellsRead keptState.chip := by
  refine ⟨⟨_, rfl⟩, by unfold OutOk; decide +kernel, by unfold NoPlaceHeld; decide +kernel,
    by unfold CellsFit; decide +kernel, by unfold SourcesOk; decide +kernel, fun bytes h => ?_⟩
  have key : ∀ b ∈ keptState.chip.fo,
      (readCell b).any (fun x => x.unit == BitVec.ofNat 4 keptState.chip.unit.val) = true := by decide +kernel
  have := key bytes h
  cases hr : readCell bytes with
  | none => rw [hr] at this; cases this
  | some x => rw [hr] at this; exact ⟨x, rfl, by simpa using this⟩

theorem witness_StepsKeepContextsAndProgramme :
    (∃ t, step ⟨busyPart, [.stopContext 1 0]⟩ = .next t) ∧ PicturesOk busyPart ∧ StandbyOk busyPart :=
  ⟨⟨_, rfl⟩, picturesOk_of (by decide +kernel) (by decide +kernel) (by decide +kernel) (by decide +kernel)
    (by decide +kernel), by unfold StandbyOk; decide +kernel⟩

theorem witness_StepsKeepLinkAndScheduler :
    (∃ t, step ⟨awaitingPart .up, [.handover 1]⟩ = .next t) ∧ LinkOk (awaitingPart .up) ∧ SchedOk (awaitingPart .up) := by
  refine ⟨⟨_, rfl⟩, ⟨?_, by unfold LinkRangesOk; decide +kernel, by unfold ListsOk; decide +kernel⟩,
    by unfold SchedOk; decide +kernel⟩
  show (awaitingPart .up).link.phase = none ∧ _
  decide +kernel

/-- The table of keptPart: the one clip, and FREE entries. -/
theorem kept_table : ∀ i : Fin 128, keptPart.clips.table[i] =
    if i = 0 then some { clip .delivered with done := some true } else none := by decide +kernel

theorem kept_clips : ClipsOk keptPart := by
  refine ⟨⟨by decide, by decide, fun i => ?_, by decide, by decide, by decide +kernel, fun i x h hs => ?_,
    fun i hi => ?_⟩, fun i x h => ?_⟩
  · rw [kept_table]
    show _ ↔ i.val < 1
    split
    · rename_i h; subst h; exact iff_of_true rfl (by decide)
    · rename_i h; exact iff_of_false (by decide) (fun hi => h (Fin.ext (by simpa using hi)))
  · rw [kept_table] at h
    split at h
    · cases h; simp [clip] at hs
    · cases h
  · rw [kept_table]
    have : i.val < 1 := hi
    rw [if_pos (Fin.ext (by simpa using this))]
    decide
  · rw [kept_table] at h
    split at h
    · cases h; unfold ClipOk; decide
    · cases h

theorem witness_StepsKeepClipsAndLabels :
    (∃ t, step keptState = .next t) ∧ ClipsOk keptState.chip ∧ LabelsOk keptState.chip := by
  have none_of : ∀ st : ClipState, st ≠ .delivered → ∀ i : Fin 128,
      ¬∃ x, keptPart.clips.table[i] = some x ∧ x.state = st := by
    rintro st hst i ⟨x, hx, hs⟩
    rw [kept_table] at hx
    split at hx
    · cases hx; exact hst (by simpa [clip] using hs.symm)
    · cases hx
  refine ⟨⟨_, rfl⟩, kept_clips, by decide +kernel, fun i => ?_, by decide +kernel, by decide +kernel, fun i => ?_,
    by decide +kernel⟩
  · refine iff_of_false ?_ (none_of _ (by decide) i)
    have : keptState.chip.sched.labelQueue = [] := by decide +kernel
    simp [this]
  · refine iff_of_false ?_ (none_of _ (by decide) i)
    have : keptState.chip.sched.awaiting ++ keptState.chip.sched.resend = [] := by decide +kernel
    simp [this]

theorem witness_FencedClipsNeverChange :
    (∃ t, step keptState = .next t) ∧ ClipsOk keptState.chip ∧ (0 : Fin 128).val < keptState.chip.clips.fence :=
  ⟨⟨_, rfl⟩, kept_clips, by decide⟩

theorem witness_StandbySendsNothingHome :
    (∃ t, step ⟨Chip.powerOn, [.linkOpen 1]⟩ = .next t) ∧ Chip.powerOn.port.mode = .standby ∧ StandbyOk Chip.powerOn ∧
      LinkTimersOk Chip.powerOn.link := by
  refine ⟨⟨_, rfl⟩, rfl, by unfold StandbyOk; decide, ?_⟩
  show Chip.powerOn.link.phase = none ∧ _
  decide

/-- A part with credit, and a frame of a class to send or none. -/
def creditPart (credit : Nat) (c : Chip) : Chip := modLink (fun l => { l with credit := credit }) c

/-- No link that sends; nothing found; a fragment's frame of 1,400 bytes found that is a bit short of its credit, and
one that is covered; and one frame of each other class, covered. -/
theorem witness_SelectionSendsWhatItFinds :
    ¬(runPart.link.state = .up ∨ runPart.link.state = .lost ∨ runPart.link.state = .draining) ∧
    findFrame runPart = none ∧
    (let c := classPart false false false (some 2)
     (c.link.state = .up ∧ findFrame (creditPart 11199 c) = some (.video 2 (queued 2 7 1368) false) ∧
       findFrame (creditPart 11200 c) = some (.video 2 (queued 2 7 1368) false)) ∧
     (creditPart 11199 c).link.credit < 8 * (frameOf (creditPart 11199 c) (.video 2 (queued 2 7 1368) false)).length ∧
     8 * (frameOf (creditPart 11200 c) (.video 2 (queued 2 7 1368) false)).length ≤ (creditPart 11200 c).link.credit) ∧
    (∀ x ∈ [(true, true, true), (false, true, true), (false, false, true)],
      let c := creditPart 256 (classPart x.1 x.2.1 x.2.2 none)
      c.link.state = .up ∧
        (findFrame c).any (fun f => decide (8 * (frameOf c f).length ≤ c.link.credit)) = true) := by decide +kernel

/-- R23: of windows at 0, 1 and 2 the first two end at the tick; a deadline of 0 has not passed at 0, has at 1 and at the
last number of its half of the range, and has not one further. -/
theorem witness_SelectionSendsWhatItFinds_tick :
    ([0, 1, 2].map (fun n => { labelEntry 9 0 with timer := some n })).filter
      (fun e : Entry => e.timer.any (fun n => decide (n ≤ 1)))
        = [{ labelEntry 9 0 with timer := some 0 }, { labelEntry 9 0 with timer := some 1 }] ∧
    ([0, 1, 2147483647, 2147483648].map (fun ms : Millis =>
      let past := (ms - (0 : Millis)).toNat
      decide (0 < past ∧ past < 2 ^ 31))) = [false, true, true, false] := by decide +kernel

end Sys2Proof.Tests
end

section
/-! Cells on the wire (R2, R184, R186). -/

namespace Sys2Proof.VanFabric

open Sys2Proof.Machine Sys2Proof.Safety Sys2Proof.Claims

/-! ## The CRC is injective in its register and in the byte taken (R184) -/

/-- The bit that `crcBit` shifts out reappears as its top bit, since the reversed polynomial has its top bit set. -/
theorem crcBit_top (x : BitVec 32) : (crcBit x).getLsbD 31 = x.getLsbD 0 := by
  unfold crcBit
  split
  · rename_i h
    rw [h, BitVec.getLsbD_xor, BitVec.getLsbD_ushiftRight]
    simp
  · rename_i h
    rw [Bool.eq_false_iff.mpr h, BitVec.getLsbD_ushiftRight]
    simp

theorem crcBit_injective {x y : BitVec 32} (h : crcBit x = crcBit y) : x = y := by
  have bit0 : x.getLsbD 0 = y.getLsbD 0 := by rw [← crcBit_top x, ← crcBit_top y, h]
  have shifted : x >>> 1 = y >>> 1 := by
    unfold crcBit at h
    rw [bit0] at h
    split at h
    · exact (BitVec.xor_left_inj _).mp h
    · exact h
  apply BitVec.eq_of_getLsbD_eq
  intro i hi
  cases i with
  | zero => exact bit0
  | succ i =>
    have := congrArg (fun z => z.getLsbD i) shifted
    simpa [BitVec.getLsbD_ushiftRight, Nat.add_comm] using this

theorem crcByte_injective {x y : BitVec 32} {b d : Byte} (h : crcByte x b = crcByte y d) :
    x ^^^ b.zeroExtend 32 = y ^^^ d.zeroExtend 32 := by
  unfold crcByte at h
  iterate 8 replace h := crcBit_injective h
  exact h

theorem crcFold_injective (bs : List Byte) {x y : BitVec 32} (h : bs.foldl crcByte x = bs.foldl crcByte y) : x = y := by
  induction bs generalizing x y with
  | nil => exact h
  | cons b bs ih => exact (BitVec.xor_left_inj _).mp (crcByte_injective (ih h))

/-- With one byte replaced by another the register ends at another value. -/
theorem crcFold_set_ne {bs : List Byte} {n : Nat} (hn : n < bs.length) {v : Byte} (hv : v ≠ bs[n]) (x : BitVec 32) :
    (bs.set n v).foldl crcByte x ≠ bs.foldl crcByte x := by
  induction bs generalizing n x with
  | nil => simp at hn
  | cons b bs ih =>
    cases n with
    | succ n => exact ih (by simpa using hn) (by simpa using hv) _
    | zero =>
      intro h
      have same : v.zeroExtend 32 = b.zeroExtend 32 :=
        (BitVec.xor_right_inj _).mp (crcByte_injective (crcFold_injective bs h))
      apply hv
      have := congrArg (BitVec.truncate 8) same
      simpa using this

theorem crc32_set_ne {bs : List Byte} {n : Nat} (hn : n < bs.length) {v : Byte} (hv : v ≠ bs[n]) :
    crc32 (bs.set n v) ≠ crc32 bs := by
  intro h
  exact crcFold_set_ne hn hv _ (BitVec.not_inj.mp h)

theorem le32_injective {x y : BitVec 32} (h : le32 x = le32 y) : x = y := by
  simp only [le32, List.cons.injEq, and_true] at h
  obtain ⟨h0, h1, h2, h3⟩ := h
  apply BitVec.eq_of_getLsbD_eq
  intro i hi
  have byte : ∀ s, x.extractLsb' s 8 = y.extractLsb' s 8 → s ≤ i → i < s + 8 → x.getLsbD i = y.getLsbD i := by
    intro s hs lo hi'
    have := congrArg (fun z => z.getLsbD (i - s)) hs
    simpa [BitVec.getLsbD_extractLsb', show i - s < 8 by omega, show s + (i - s) = i by omega] using this
  by_cases c1 : i < 8
  · exact byte 0 h0 (by omega) (by omega)
  by_cases c2 : i < 16
  · exact byte 8 h1 (by omega) (by omega)
  by_cases c3 : i < 24
  · exact byte 16 h2 (by omega) (by omega)
  · exact byte 24 h3 (by omega) (by omega)

@[simp] theorem le32_length (x : BitVec 32) : (le32 x).length = 4 := rfl

/-! ## Reading a cell (R2) -/

/-- R2: the four tests by which collected bytes are discarded. -/
theorem readCell_none {bs : List Byte} {length : Nat} (hl : (bs.getD 5 0).toNat = length)
    (h : bs.length < 16 ∨ 240 < length ∨ bs.length ≠ 16 + length ∨
      bs.drop (12 + length) ≠ le32 (crc32 (bs.take (12 + length)))) : readCell bs = none := by
  subst hl
  unfold readCell
  split
  · rename_i b0 b1 b2 b3 b4 b5 b6 b7 b8 b9 b10 b11 rest
    simp only [List.getD_eq_getElem?_getD, List.getElem?_cons_succ, List.getElem?_cons_zero, Option.getD_some] at h
    split
    · rfl
    · split
      · rfl
      · split
        · rfl
        · rename_i fits number check
          rw [show 12 + b5.toNat = b5.toNat + 12 by omega] at h check
          simp only [List.drop_succ_cons] at h
          exfalso
          rcases h with h | h | h | h
          · omega
          · exact fits h
          · exact number h
          · exact check h
  · rfl

/-- The header and payload of a cell: the bytes its check covers. -/
def checkedBytes (x : Cell) : List Byte :=
  cellHeader x.unit x.kind x.stream x.sequence (flag8 x.start ||| (flag8 x.stop <<< 1)) (num8 x.payload.length)
    ++ x.payload

theorem cellBytes_eq (x : Cell) : cellBytes x = checkedBytes x ++ le32 (crc32 (checkedBytes x)) := rfl

theorem checkedBytes_length (x : Cell) : (checkedBytes x).length = 12 + x.payload.length := by
  simp [checkedBytes, cellHeader, zeros]
  omega

theorem cellBytes_length (x : Cell) : (cellBytes x).length = 16 + x.payload.length := by
  rw [cellBytes_eq, List.length_append, checkedBytes_length, le32_length]
  omega

theorem num8_toNat {n : Nat} (h : n ≤ 240) : (num8 n).toNat = n := by
  simp [num8]
  omega

/-- R186: every field of a cell is read back. -/
theorem readCell_cellBytes {x : Cell} (h : x.payload.length ≤ 240) : readCell (cellBytes x) = some x := by
  have hn := num8_toNat h
  have take : (cellBytes x).take (12 + x.payload.length) = checkedBytes x := by
    rw [cellBytes_eq, ← checkedBytes_length, List.take_left]
  have number : (cellBytes x).length = 16 + (num8 x.payload.length).toNat := by rw [hn, cellBytes_length]
  have shape : cellBytes x = (x.unit ++ x.kind) :: (x.stream.zeroExtend 16).extractLsb' 8 8
      :: (x.stream.zeroExtend 16).extractLsb' 0 8 :: x.sequence :: (flag8 x.start ||| (flag8 x.stop <<< 1))
      :: num8 x.payload.length :: 0 :: 0 :: 0 :: 0 :: 0 :: 0 :: (x.payload ++ le32 (crc32 (checkedBytes x))) := rfl
  rw [shape] at take number ⊢
  unfold readCell
  simp only [hn, take, number, show ¬240 < x.payload.length by omega, if_false, ne_eq, not_true, List.drop_left,
    List.take_left, u16_of_be16]
  obtain ⟨unit, kind, stream, sequence, start, stop, payload⟩ := x
  simp only [Option.some.injEq, Cell.mk.injEq, true_and, and_true]
  refine ⟨?_, ?_, ?_, ?_, ?_⟩
  · exact BitVec.extractLsb'_append_eq_left
  · exact BitVec.extractLsb'_append_eq_right
  · apply BitVec.eq_of_toNat_eq
    simp
    omega
  · cases start <;> cases stop <;> rfl
  · cases start <;> cases stop <;> rfl

/-! ## One inverted bit -/

theorem xor_bit_ne (v : Byte) {b : Nat} (hb : b < 8) : v ^^^ (1#8 <<< b) ≠ v := by
  intro h
  have bit := congrArg (fun z => z.getLsbD b) h
  simp [hb] at bit

/-- R184: with one byte replaced by another, a cell cannot be read. -/
theorem readCell_damaged {x : Cell} (h : x.payload.length ≤ 240) {n : Nat} (hn : n < (cellBytes x).length) {v : Byte}
    (hv : v ≠ (cellBytes x)[n]) : readCell ((cellBytes x).set n v) = none := by
  have len5 : (cellBytes x)[5]'(by rw [cellBytes_length]; omega) = num8 x.payload.length := rfl
  by_cases h5 : n = 5
  · subst h5
    refine readCell_none rfl (.inr (.inr (.inl ?_)))
    rw [len5] at hv
    rw [List.length_set, cellBytes_length, List.getD_eq_getElem _ _ (by simpa using hn), List.getElem_set_self]
    intro e
    refine hv (BitVec.eq_of_toNat_eq ?_)
    rw [num8_toNat h]
    omega
  · have hl : (((cellBytes x).set n v).getD 5 0).toNat = x.payload.length := by
      rw [List.getD_eq_getElem _ _ (by rw [List.length_set, cellBytes_length]; omega), List.getElem_set_ne h5, len5,
        num8_toNat h]
    refine readCell_none hl (.inr (.inr (.inr ?_)))
    rw [← checkedBytes_length]
    simp only [cellBytes_eq] at hn hv ⊢
    by_cases covered : n < (checkedBytes x).length
    · rw [List.getElem_append_left covered] at hv
      rw [List.set_append_left _ _ covered, ← List.length_set (as := checkedBytes x) (i := n) (a := v),
        List.drop_left, List.take_left]
      exact fun e => crc32_set_ne covered hv (le32_injective e).symm
    · have beyond : (checkedBytes x).length ≤ n := Nat.le_of_not_lt covered
      rw [List.getElem_append_right beyond] at hv
      rw [List.set_append_right _ _ beyond, List.drop_left, List.take_left]
      intro e
      have := congrArg (fun l => l[n - (checkedBytes x).length]?) e
      rw [List.length_append, le32_length] at hn
      simp only [List.getElem?_set_self (show n - (checkedBytes x).length < (le32 (crc32 (checkedBytes x))).length by
        rw [le32_length]; omega)] at this
      rw [List.getElem?_eq_getElem (by rw [le32_length]; omega)] at this
      exact hv (Option.some.inj this)

/-- Settles O7: a written cell passes the four tests of R2, one inverted bit makes it fail one of them, and bytes that
fail one are counted. -/
theorem cellsReadBackAndDamageIsCaught : Obligations.CellsReadBackAndDamageIsCaught := by
  unfold Obligations.CellsReadBackAndDamageIsCaught
  refine ⟨fun x fits => ⟨readCell_cellBytes fits, fun n hn b hb => ?_⟩, fun n bytes s => ?_⟩
  · refine readCell_damaged fits hn ?_
    rw [List.getD_eq_getElem _ _ hn]
    exact xor_bit_ne _ hb
  · intro length bad
    have discarded : readCell bytes = none := readCell_none rfl bad
    show Host.Outcome.next _ = _
    simp only [laneBytes, discarded, modLane]

end Sys2Proof.VanFabric

end


section
/-! The output lane's operations (R8 to R11): what each does to the queue, the cell in transmission and FO. -/

namespace Sys2Proof.VanFabric

open Sys2Proof.Machine Sys2Proof.Safety Sys2Proof.Claims

/-! ## The choice of the next cell (R11) -/

/-- R11: the classes in the order in which they are served. -/
def classRank (x : OutCell) : Nat := if isAux x.source then 0 else if isTally x.source then 1 else 2

theorem classRank_of_isAux {x : OutCell} (h : isAux x.source = true) : classRank x = 0 := by simp [classRank, h]

theorem classRank_pos {x : OutCell} (h : isAux x.source = false) : 0 < classRank x := by
  simp only [classRank, h, Bool.false_eq_true, if_false]
  split <;> omega

theorem classRank_of_isTally {x : OutCell} (h : isTally x.source = true) : classRank x ≤ 1 := by
  simp only [classRank, h, if_true]
  split <;> omega

theorem classRank_eq_two {x : OutCell} (ha : isAux x.source = false) (ht : isTally x.source = false) :
    classRank x = 2 := by simp [classRank, ha, ht]

/-- R11: the cell chosen is the oldest of the highest-ranking class present. -/
theorem chooseCell_spec {q : List OutCell} {x : OutCell} {rest : List OutCell} (h : chooseCell q = some (x, rest)) :
    ∃ before after, q = before ++ x :: after ∧ rest = before ++ after ∧
      (∀ y ∈ before, classRank x < classRank y) ∧ ∀ y ∈ after, classRank x ≤ classRank y := by
  unfold chooseCell at h
  split at h
  · rename_i r hr
    cases h
    obtain ⟨before, after, hq, hrest, hx, hbefore⟩ := takeFirst_some hr
    refine ⟨before, after, hq, hrest, fun y hy => ?_, fun y _ => ?_⟩
    · rw [classRank_of_isAux hx]
      exact classRank_pos (hbefore y hy)
    · rw [classRank_of_isAux hx]
      exact Nat.zero_le _
  · rename_i noAux
    have notAux := takeFirst_none.mp noAux
    split at h
    · rename_i r hr
      cases h
      obtain ⟨before, after, hq, hrest, hx, hbefore⟩ := takeFirst_some hr
      have rank := classRank_of_isTally hx
      refine ⟨before, after, hq, hrest, fun y hy => ?_, fun y hy => ?_⟩
      · rw [classRank_eq_two (notAux y (by simp [hq, hy])) (hbefore y hy)]
        omega
      · have := classRank_pos (notAux y (by simp [hq, hy]))
        omega
    · rename_i noTally
      have notTally := takeFirst_none.mp noTally
      have two : ∀ y ∈ q, classRank y = 2 := fun y hy => classRank_eq_two (notAux y hy) (notTally y hy)
      obtain ⟨before, after, hq, hrest, -, hbefore⟩ := takeFirst_some h
      refine ⟨before, after, hq, hrest, fun y hy => ?_, fun y hy => ?_⟩
      · exact absurd (hbefore y hy) (by simp)
      · rw [two x (by simp [hq]), two y (by simp [hq, hy])]

/-! ## The start of a transmission (R11) -/

/-- The part once a cell has begun its transmission, with the rest of the queue behind it. -/
def begun (x : OutCell) (rest : List OutCell) (c : Chip) : Chip :=
  { c with out := { setSeq c.out (seqOf c.out x.source + 1) x.source with
                      queue := rest, tx := some ⟨x, sentBytes c x, true⟩ },
           fo := c.fo ++ [sentBytes c x] }

theorem begun_begins (x : OutCell) (rest : List OutCell) (c : Chip) : Begins x rest c (begun x rest c) := by
  have seq : ∀ z, seqOf (begun x rest c).out z = if z = x.source then seqOf c.out x.source + 1 else seqOf c.out z :=
    fun z => (by cases z <;> rfl : seqOf (begun x rest c).out z
      = seqOf (setSeq c.out (seqOf c.out x.source + 1) x.source) z).trans (seqOf_setSeq _ _ _ _)
  refine ⟨rfl, rfl, rfl, ?_, fun z hz => ?_⟩
  · rw [seq, if_pos rfl]
  · rw [seq, if_neg hz]

/-- Of the output lane a start of transmission changes the queue, the cell in transmission and the counts alone. -/
theorem begun_eq (x : OutCell) (rest : List OutCell) (c : Chip) :
    begun x rest c = { c with
      out := { c.out with
        queue := rest, tx := some ⟨x, sentBytes c x, true⟩, seqReport := (begun x rest c).out.seqReport,
        seqAuxA := (begun x rest c).out.seqAuxA, seqAuxB := (begun x rest c).out.seqAuxB,
        seqTally := (begun x rest c).out.seqTally },
      fo := c.fo ++ [sentBytes c x] } := by
  unfold begun
  cases x.source <;> rfl

@[simp] theorem begun_hold (x : OutCell) (rest : List OutCell) (c : Chip) :
    (begun x rest c).out.hold = c.out.hold := by rw [begun_eq]

/-- Everything `startFo` can do: nothing, with a cell in transmission or the queue empty; or else it begins the oldest
cell of the highest-ranking class. -/
theorem startFo_cases (c : Chip) :
    (startFo c = c ∧ (c.out.tx = none → c.out.queue = [])) ∨
      ∃ before x after, c.out.tx = none ∧ c.out.queue = before ++ x :: after ∧
        (∀ y ∈ before, classRank x < classRank y) ∧ (∀ y ∈ after, classRank x ≤ classRank y) ∧
        startFo c = begun x (before ++ after) c := by
  unfold startFo
  split
  · rename_i t ht
    exact .inl ⟨rfl, fun idle => by rw [ht] at idle; cases idle⟩
  · rename_i idle
    split
    · rename_i nothing
      exact .inl ⟨rfl, fun _ => chooseCell_none.mp nothing⟩
    · rename_i x rest chosen
      obtain ⟨before, after, hq, rfl, hbefore, hafter⟩ := chooseCell_spec chosen
      exact .inr ⟨before, x, after, idle, hq, hbefore, hafter, rfl⟩

theorem startFo_busy {c : Chip} (h : c.out.tx ≠ none) : startFo c = c := by
  obtain ⟨same, -⟩ | ⟨_, _, _, idle, -⟩ := startFo_cases c
  · exact same
  · exact absurd idle h

theorem startFo_empty {c : Chip} (h : c.out.queue = []) : startFo c = c := by
  obtain ⟨same, -⟩ | ⟨_, _, _, -, hq, -⟩ := startFo_cases c
  · exact same
  · rw [h] at hq
    simp at hq

/-- With FO idle and one cell queued, that cell begins. -/
theorem startFo_single {c : Chip} {x : OutCell} (idle : c.out.tx = none) (h : c.out.queue = [x]) :
    startFo c = begun x [] c := by
  obtain ⟨-, empty⟩ | ⟨before, y, after, -, hq, -, -, e⟩ := startFo_cases c
  · rw [empty idle] at h
    cases h
  · rw [h] at hq
    cases before with
    | nil => simp only [List.nil_append, List.cons.injEq] at hq; obtain ⟨rfl, rfl⟩ := hq; exact e
    | cons z zs => simp at hq

/-! ## The number of queued cells -/

theorem outCount_idle {o : OutputLane} (h : o.tx = none) : outCount o = o.queue.length := by
  simp [outCount, h]

theorem outCount_sending {o : OutputLane} {t : TxCell} (h : o.tx = some t) :
    outCount o = o.queue.length + if t.inQueue then 1 else 0 := by
  simp [outCount, h]

theorem outHasRoom_iff {o : OutputLane} : outHasRoom o = true ↔ outCount o < 32 := by simp [outHasRoom]

theorem outHasRoom_false {o : OutputLane} : outHasRoom o = false ↔ 32 ≤ outCount o := by simp [outHasRoom]

@[simp] theorem startFo_hold (c : Chip) : (startFo c).out.hold = c.out.hold := by
  obtain ⟨e, -⟩ | ⟨before, x, after, -, -, -, -, e⟩ := startFo_cases c
  · rw [e]
  · rw [e, begun_hold]

@[simp] theorem startFo_outCount (c : Chip) : outCount (startFo c).out = outCount c.out := by
  obtain ⟨e, -⟩ | ⟨before, x, after, idle, hq, -, -, e⟩ := startFo_cases c
  · rw [e]
  · rw [e, outCount_idle idle, hq, outCount_sending (t := ⟨x, sentBytes c x, true⟩) rfl]
    simp [begun]
    omega

/-- R11: FO is idle after it only with nothing queued. -/
theorem startFo_idle {c : Chip} (h : (startFo c).out.tx = none) : (startFo c).out.queue = [] := by
  obtain ⟨e, empty⟩ | ⟨before, x, after, -, -, -, -, e⟩ := startFo_cases c
  · rw [e] at h ⊢
    exact empty h
  · rw [e] at h
    cases h

theorem mem_startFo_queue {c : Chip} {y : OutCell} (h : y ∈ (startFo c).out.queue) : y ∈ c.out.queue := by
  obtain ⟨e, -⟩ | ⟨before, x, after, -, hq, -, -, e⟩ := startFo_cases c
  · rwa [e] at h
  · rw [e] at h
    rw [hq]
    exact List.mem_append.mpr ((List.mem_append.mp h).imp_right (List.mem_cons_of_mem _))

/-- What `startFo` puts on FO are the bytes of a queued cell. -/
theorem mem_startFo_fo {c : Chip} {bytes : List Byte} (h : bytes ∈ (startFo c).fo) :
    bytes ∈ c.fo ∨ ∃ x ∈ c.out.queue, bytes = sentBytes c x := by
  obtain ⟨e, -⟩ | ⟨before, x, after, -, hq, -, -, e⟩ := startFo_cases c
  · exact .inl (by rwa [e] at h)
  · rw [e] at h
    refine (List.mem_append.mp h).imp_right fun hx => ⟨x, by simp [hq], List.mem_singleton.mp hx⟩

/-! ## A cell that joins the queue -/

/-- The part with a cell at the end of the output queue, before a transmission is begun. -/
def enqueued (x : OutCell) (c : Chip) : Chip := { c with out := { c.out with queue := c.out.queue ++ [x] } }

theorem joinOut_eq (x : OutCell) (c : Chip) : joinOut x c = startFo (enqueued x c) := rfl

@[simp] theorem outCount_enqueued (x : OutCell) (c : Chip) : outCount (enqueued x c).out = outCount c.out + 1 := by
  simp [enqueued, outCount]
  omega

@[simp] theorem joinOut_outCount (x : OutCell) (c : Chip) : outCount (joinOut x c).out = outCount c.out + 1 := by
  rw [joinOut_eq, startFo_outCount, outCount_enqueued]

@[simp] theorem joinOut_hold (x : OutCell) (c : Chip) : (joinOut x c).out.hold = c.out.hold := by
  rw [joinOut_eq, startFo_hold]
  rfl

/-! ## A report placed (R10) -/

/-- The part with another report queue. -/
def withReports (l : List OutCell) (c : Chip) : Chip := { c with port := { c.port with report := l } }

/-- Everything the placing of a report can do: it waits behind the others, or, where the output queue has room and no
tally cell is held, the oldest report moves to the output queue. -/
theorem placeReport_cases (x : OutCell) (c : Chip) :
    ((32 ≤ outCount c.out ∨ c.out.hold ≠ []) ∧ placeReport x c = withReports (c.port.report ++ [x]) c) ∨
      ∃ y rest, outCount c.out < 32 ∧ c.out.hold = [] ∧ c.port.report ++ [x] = y :: rest ∧
        placeReport x c = joinOut y (withReports rest c) := by
  unfold placeReport moveReport
  split
  · rename_i room
    simp only [Bool.and_eq_true, outHasRoom_iff, List.isEmpty_iff] at room
    split
    · rename_i empty
      simp at empty
    · rename_i y rest waiting
      exact .inr ⟨y, rest, room.1, room.2, waiting, rfl⟩
  · rename_i full
    simp only [Bool.and_eq_true, outHasRoom_iff, List.isEmpty_iff, not_and_or, not_lt] at full
    exact .inl ⟨full, rfl⟩

/-! ## A place freed at a send completion (R11) -/

/-- Everything the refilling of the output queue can do: the earliest held tally cell joins, with none held the oldest
report does, and with neither, or with the queue full, nothing does. -/
theorem refillOut_cases (c : Chip) :
    ((32 ≤ outCount c.out ∨ (c.out.hold = [] ∧ c.port.report = [])) ∧ refillOut c = c) ∨
      (∃ h rest, outCount c.out < 32 ∧ c.out.hold = h :: rest ∧
        refillOut c = enqueued h.cell { c with out := { c.out with hold := rest } }) ∨
      ∃ x rest, outCount c.out < 32 ∧ c.out.hold = [] ∧ c.port.report = x :: rest ∧
        refillOut c = enqueued x (withReports rest c) := by
  unfold refillOut
  split
  · rename_i room
    rw [outHasRoom_iff] at room
    split
    · rename_i h rest held
      exact .inr (.inl ⟨h, rest, room, held, rfl⟩)
    · rename_i noHold
      split
      · rename_i x rest waiting
        exact .inr (.inr ⟨x, rest, room, noHold, waiting, rfl⟩)
      · rename_i empty
        exact .inl ⟨.inr ⟨noHold, empty⟩, rfl⟩
  · rename_i full
    rw [outHasRoom_iff, not_lt] at full
    exact .inl ⟨.inl full, rfl⟩

end Sys2Proof.VanFabric

end


section
/-! What the moves of the output lane keep: its bounds, the sizes of its cells, and their sources. -/

namespace Sys2Proof.VanFabric

open Sys2Proof.Machine Sys2Proof.Safety Sys2Proof.Claims

/-! ## Bytes on FO (R2, R184) -/

/-- R2: the bytes of a waiting cell within 240 payload bytes pass a receiver's check, with the part's number in them. -/
theorem sentBytes_read (c : Chip) {x : OutCell} (h : x.payload.length ≤ 240) :
    ∃ y, readCell (sentBytes c x) = some y ∧ y.unit = BitVec.ofNat 4 c.unit.val :=
  ⟨_, readCell_cellBytes h, rfl⟩

/-! ## What the invariants read of the part -/

/-- The part with the same unit number, the same cells waiting and in transmission, the same record of FO, and a place
held for an answer or not as before: what the invariants of the output lane read. -/
structure SameLane (c d : Chip) : Prop where
  unit : d.unit = c.unit
  queue : d.out.queue = c.out.queue
  tx : d.out.tx = c.out.tx
  hold : d.out.hold = c.out.hold
  fo : d.fo = c.fo
  report : d.port.report = c.port.report
  held : d.port.held = c.port.held

/-- R2, R184: the cells that wait fit, and those put on FO read. -/
def WiresOk (c : Chip) : Prop := CellsFit c ∧ SentCellsRead c

theorem SameLane.outCount {c d : Chip} (e : SameLane c d) : Machine.outCount d.out = Machine.outCount c.out := by
  simp only [Machine.outCount, e.queue, e.tx]

theorem SameLane.outOk {c d : Chip} (e : SameLane c d) (h : OutOk c) : OutOk d := by
  unfold OutOk reportTaken
  rw [e.outCount, e.queue, e.tx, e.hold, e.report, e.held]
  exact h

theorem SameLane.wiresOk {c d : Chip} (e : SameLane c d) (h : WiresOk c) : WiresOk d := by
  unfold WiresOk CellsFit SentCellsRead
  rw [e.queue, e.hold, e.report, e.fo, e.unit]
  exact h

theorem SameLane.sourcesOk {c d : Chip} (e : SameLane c d) (h : SourcesOk c) : SourcesOk d := by
  unfold SourcesOk
  rw [e.queue, e.hold, e.report]
  exact h

/-! ## A cell that joins the queue, and a report placed (R10, R11) -/

theorem wiresOk_startFo {c : Chip} (h : WiresOk c) : WiresOk (startFo c) := by
  obtain ⟨⟨queue, hold, report⟩, sent⟩ := h
  refine ⟨⟨fun y hy => queue y (mem_startFo_queue hy), ?_, ?_⟩, fun bytes hb => ?_⟩
  · rwa [startFo_hold]
  · rwa [startFo_port]
  · rw [startFo_unit]
    obtain hb | ⟨y, hy, rfl⟩ := mem_startFo_fo hb
    · exact sent bytes hb
    · exact sentBytes_read c (queue y hy)

theorem sourcesOk_startFo {c : Chip} (h : SourcesOk c) : SourcesOk (startFo c) := by
  obtain ⟨report, hold, queue⟩ := h
  refine ⟨?_, ?_, fun y hy => queue y (mem_startFo_queue hy)⟩
  · rwa [startFo_port]
  · rwa [startFo_hold]

/-- R11: FO is idle after a start of transmission only with an empty queue, so the other bounds are enough before. -/
theorem outOk_startFo {c : Chip} (count : outCount c.out ≤ 32) (hold : c.out.hold ≠ [] → outCount c.out = 32)
    (report : c.port.report ≠ [] → outCount c.out = 32) (nodup : (c.out.hold.map (·.ctx)).Nodup)
    (taken : reportTaken c.port ≤ 16) : OutOk (startFo c) := by
  unfold OutOk
  rw [startFo_outCount, startFo_hold, startFo_port]
  exact ⟨count, startFo_idle, hold, report, nodup, taken⟩

theorem wiresOk_enqueued {x : OutCell} {c : Chip} (h : WiresOk c) (hx : x.payload.length ≤ 240) :
    WiresOk (enqueued x c) := by
  obtain ⟨⟨queue, hold, report⟩, sent⟩ := h
  refine ⟨⟨fun y hy => ?_, hold, report⟩, sent⟩
  obtain hy | hy := List.mem_append.mp hy
  · exact queue y hy
  · rwa [List.mem_singleton.mp hy]

theorem sourcesOk_enqueued {x : OutCell} {c : Chip} (h : SourcesOk c) (hx : isAux x.source = true ∨ x.gap = 0) :
    SourcesOk (enqueued x c) := by
  obtain ⟨report, hold, queue⟩ := h
  refine ⟨report, hold, fun y hy => ?_⟩
  obtain hy | hy := List.mem_append.mp hy
  · exact queue y hy
  · rwa [List.mem_singleton.mp hy]

theorem wiresOk_joinOut {x : OutCell} {c : Chip} (h : WiresOk c) (hx : x.payload.length ≤ 240) :
    WiresOk (joinOut x c) := wiresOk_startFo (wiresOk_enqueued h hx)

theorem sourcesOk_joinOut {x : OutCell} {c : Chip} (h : SourcesOk c) (hx : isAux x.source = true ∨ x.gap = 0) :
    SourcesOk (joinOut x c) := sourcesOk_startFo (sourcesOk_enqueued h hx)

/-- R10, R11: nothing is held and no report waits while the output queue has room. -/
theorem nothing_waits_behind_room {c : Chip} (h : OutOk c) (room : outCount c.out < 32) :
    c.out.hold = [] ∧ c.port.report = [] := by
  obtain ⟨-, -, hold, report, -, -⟩ := h
  constructor
  · by_contra held
    have := hold held
    omega
  · by_contra waiting
    have := report waiting
    omega

theorem outOk_joinOut {x : OutCell} {c : Chip} (h : OutOk c) (room : outCount c.out < 32) : OutOk (joinOut x c) := by
  obtain ⟨noHold, noReport⟩ := nothing_waits_behind_room h room
  obtain ⟨-, -, -, -, nodup, taken⟩ := h
  rw [joinOut_eq]
  refine outOk_startFo ?_ (absurd noHold) (absurd noReport) nodup taken
  rw [outCount_enqueued]
  omega

theorem wiresOk_placeReport {x : OutCell} {c : Chip} (h : WiresOk c) (hx : x.payload.length ≤ 240) :
    WiresOk (placeReport x c) := by
  obtain ⟨⟨queue, hold, report⟩, sent⟩ := h
  have fits : ∀ y ∈ c.port.report ++ [x], y.payload.length ≤ 240 := by
    simpa [or_imp, forall_and] using And.intro report hx
  obtain ⟨-, e⟩ | ⟨y, rest, -, -, waiting, e⟩ := placeReport_cases x c
  · rw [e]
    exact ⟨⟨queue, hold, fits⟩, sent⟩
  · rw [e]
    rw [waiting] at fits
    exact wiresOk_joinOut ⟨⟨queue, hold, fun z hz => fits z (List.mem_cons_of_mem _ hz)⟩, sent⟩
      (fits y List.mem_cons_self)

theorem sourcesOk_placeReport {x : OutCell} {c : Chip} (h : SourcesOk c) (hx : x.source = .report ∧ x.gap = 0) :
    SourcesOk (placeReport x c) := by
  obtain ⟨report, hold, queue⟩ := h
  have reports : ∀ y ∈ c.port.report ++ [x], y.source = .report ∧ y.gap = 0 := by
    intro y hy
    obtain hy | hy := List.mem_append.mp hy
    · exact report y hy
    · rwa [List.mem_singleton.mp hy]
  obtain ⟨-, e⟩ | ⟨y, rest, -, -, waiting, e⟩ := placeReport_cases x c
  · rw [e]
    exact ⟨reports, hold, queue⟩
  · rw [e]
    rw [waiting] at reports
    exact sourcesOk_joinOut ⟨fun z hz => reports z (List.mem_cons_of_mem _ hz), hold, queue⟩
      (.inr (reports y List.mem_cons_self).2)

theorem outOk_placeReport {x : OutCell} {c : Chip} (h : OutOk c) (place : reportTaken c.port < 16) :
    OutOk (placeReport x c) := by
  obtain ⟨count, idle, hold, report, nodup, taken⟩ := h
  obtain ⟨full, e⟩ | ⟨y, rest, room, noHold, waiting, e⟩ := placeReport_cases x c
  · rw [e]
    have at32 : outCount c.out = 32 := by
      obtain full | held := full
      · omega
      · exact hold held
    refine ⟨count, idle, hold, fun _ => at32, nodup, ?_⟩
    have : (c.port.report ++ [x]).length = c.port.report.length + 1 := by simp
    have place' : c.port.report.length + (if c.port.held then 1 else 0) < 16 := place
    show (c.port.report ++ [x]).length + (if c.port.held then 1 else 0) ≤ 16
    omega
  · rw [e]
    have noReport := (nothing_waits_behind_room ⟨count, idle, hold, report, nodup, taken⟩ room).2
    rw [noReport, List.nil_append, List.cons.injEq] at waiting
    obtain ⟨-, rfl⟩ := waiting
    have same : withReports [] c = c := by
      unfold withReports
      rw [← noReport]
    rw [same]
    exact outOk_joinOut ⟨count, idle, hold, report, nodup, taken⟩ room

@[simp] theorem placeReport_held (x : OutCell) (c : Chip) : (placeReport x c).port.held = c.port.held := by
  obtain ⟨-, e⟩ | ⟨y, rest, -, -, -, e⟩ := placeReport_cases x c
  · rw [e]
    rfl
  · rw [e, joinOut_port]
    rfl

/-! ## A notice (R179) -/

theorem noticeCell_payload (c : Chip) : (noticeCell c).payload.length ≤ 240 := by simp [noticeCell]

/-- The part with one more notice queued counted, or one more dropped: neither is read by the output lane. -/
theorem queueNotice_cases (c : Chip) :
    (16 ≤ reportTaken c.port ∧
      queueNotice c = { c with port := { c.port with noticesDropped := bump c.port.noticesDropped } }) ∨
    (reportTaken c.port < 16 ∧ queueNotice c = placeReport (noticeCell c)
      { c with port := { c.port with noticesQueued := bump c.port.noticesQueued } }) := by
  unfold queueNotice
  split
  · exact .inr ⟨‹_›, rfl⟩
  · exact .inl ⟨Nat.le_of_not_lt ‹_›, rfl⟩

@[simp] theorem queueNotice_held (c : Chip) : (queueNotice c).port.held = c.port.held := by
  obtain ⟨-, e⟩ | ⟨-, e⟩ := queueNotice_cases c
  · rw [e]
  · rw [e, placeReport_held]

theorem wiresOk_queueNotice {c : Chip} (h : WiresOk c) : WiresOk (queueNotice c) := by
  obtain ⟨-, e⟩ | ⟨-, e⟩ := queueNotice_cases c
  · rw [e]
    exact h
  · rw [e]
    exact wiresOk_placeReport h (noticeCell_payload c)

theorem sourcesOk_queueNotice {c : Chip} (h : SourcesOk c) : SourcesOk (queueNotice c) := by
  obtain ⟨-, e⟩ | ⟨-, e⟩ := queueNotice_cases c
  · rw [e]
    exact h
  · rw [e]
    exact sourcesOk_placeReport h ⟨rfl, rfl⟩

theorem outOk_queueNotice {c : Chip} (h : OutOk c) : OutOk (queueNotice c) := by
  obtain ⟨-, e⟩ | ⟨place, e⟩ := queueNotice_cases c
  · rw [e]
    exact h
  · rw [e]
    exact outOk_placeReport h place

/-! ## An answer (R177) -/

theorem answerPayload_length (tag : Byte) (name : List Byte) (r : Reply) (attention : BitVec 16) :
    (answerPayload tag name r attention).length ≤ 240 := by
  unfold answerPayload
  extract_lets p
  split
  · assumption
  · rw [List.length_take]
    exact Nat.min_le_left _ _

theorem wiresOk_placeAnswer (tag : Byte) (name : List Byte) (r : Reply) {c : Chip} (h : WiresOk c) :
    WiresOk (placeAnswer tag name r c) :=
  wiresOk_placeReport h (answerPayload_length tag name r c.port.attention)

theorem sourcesOk_placeAnswer (tag : Byte) (name : List Byte) (r : Reply) {c : Chip} (h : SourcesOk c) :
    SourcesOk (placeAnswer tag name r c) :=
  sourcesOk_placeReport h ⟨rfl, rfl⟩

/-- R175: the answer takes the place that was held for it. -/
theorem outOk_placeAnswer (tag : Byte) (name : List Byte) (r : Reply) {c : Chip} (h : OutOk c)
    (held : c.port.held = true) : OutOk (placeAnswer tag name r c) := by
  obtain ⟨count, idle, hold, report, nodup, taken⟩ := h
  have place : c.port.report.length < 16 := by
    simpa [reportTaken, held] using taken
  exact outOk_placeReport ⟨count, idle, hold, report, nodup, Nat.le_of_lt place⟩ place

theorem noPlaceHeld_placeAnswer (tag : Byte) (name : List Byte) (r : Reply) (c : Chip) :
    NoPlaceHeld (placeAnswer tag name r c) := placeReport_held _ _

/-! ## An AUX cell (R8, R96) -/

/-- Everything the offer of an AUX cell can do: it is dropped, which only counters and records of the lane show, or it
joins the queue, with the number of cells dropped before it. -/
theorem offerAux_cases (x : OutCell) (c : Chip) :
    (32 ≤ outCount c.out ∧ SameLane c (offerAux x c)) ∨
      ∃ gap c', outCount c.out < 32 ∧ SameLane c c' ∧ offerAux x c = joinOut { x with gap := gap } c' := by
  cases room : outHasRoom c.out
  · rw [offerAux_full x room]
    exact .inl ⟨outHasRoom_false.mp room,
      ⟨rfl, setDropped_queue _ _ _, setDropped_tx _ _ _, setDropped_hold _ _ _, rfl, rfl, rfl⟩⟩
  · exact .inr ⟨_, { c with out := setDropped c.out (some 0) x.source }, outHasRoom_iff.mp room,
      ⟨rfl, setDropped_queue _ _ _, setDropped_tx _ _ _, setDropped_hold _ _ _, rfl, rfl, rfl⟩, offerAux_room x room⟩

theorem outOk_offerAux (x : OutCell) {c : Chip} (h : OutOk c) : OutOk (offerAux x c) := by
  obtain ⟨-, same⟩ | ⟨gap, c', room, same, e⟩ := offerAux_cases x c
  · exact same.outOk h
  · rw [e]
    exact outOk_joinOut (same.outOk h) (same.outCount ▸ room)

theorem wiresOk_offerAux {x : OutCell} {c : Chip} (h : WiresOk c) (hx : x.payload.length ≤ 240) :
    WiresOk (offerAux x c) := by
  obtain ⟨-, same⟩ | ⟨gap, c', -, same, e⟩ := offerAux_cases x c
  · exact same.wiresOk h
  · rw [e]
    exact wiresOk_joinOut (same.wiresOk h) hx

theorem sourcesOk_offerAux {x : OutCell} {c : Chip} (h : SourcesOk c) (hx : isAux x.source = true) :
    SourcesOk (offerAux x c) := by
  obtain ⟨-, same⟩ | ⟨gap, c', -, same, e⟩ := offerAux_cases x c
  · exact same.sourcesOk h
  · rw [e]
    exact sourcesOk_joinOut (same.sourcesOk h) (.inl hx)

@[simp] theorem offerAux_port (x : OutCell) (c : Chip) : (offerAux x c).port = c.port := by rw [offerAux_frame]

/-! ## A tally cell (R9) -/

theorem offerTally_room (k : Ctx) (x : OutCell) {c : Chip} (h : outCount c.out < 32) :
    offerTally k x c = joinOut x c := by
  rw [offerTally, if_pos (outHasRoom_iff.mpr h)]

theorem offerTally_full (k : Ctx) (x : OutCell) {c : Chip} (h : 32 ≤ outCount c.out) :
    offerTally k x c = { c with out := { c.out with
      hold := c.out.hold.filter (fun h => !(h.ctx == k)) ++ [⟨k, x, c.time.ms⟩],
      tallyReplaced := bumpIf (c.out.hold.any (fun h => h.ctx == k)) c.out.tallyReplaced } } := by
  rw [offerTally, if_neg (by rw [outHasRoom_iff]; omega)]

theorem outOk_offerTally (k : Ctx) (x : OutCell) {c : Chip} (h : OutOk c) : OutOk (offerTally k x c) := by
  by_cases room : outCount c.out < 32
  · rw [offerTally_room k x room]
    exact outOk_joinOut h room
  · have full := Nat.le_of_not_lt room
    obtain ⟨count, idle, hold, report, nodup, taken⟩ := h
    have at32 : outCount c.out = 32 := by omega
    rw [offerTally_full k x full]
    refine ⟨count, idle, fun _ => at32, report, ?_, taken⟩
    have others : (c.out.hold.filter (fun h => !(h.ctx == k))).map (·.ctx)
        = (c.out.hold.map (·.ctx)).filter (· != k) := by
      rw [List.filter_map]
      rfl
    simp only [List.map_append, List.map_cons, List.map_nil, others]
    exact List.nodup_append.mpr ⟨nodup.filter _, List.nodup_singleton k, by simp⟩

theorem wiresOk_offerTally (k : Ctx) {x : OutCell} {c : Chip} (h : WiresOk c) (hx : x.payload.length ≤ 240) :
    WiresOk (offerTally k x c) := by
  by_cases room : outCount c.out < 32
  · rw [offerTally_room k x room]
    exact wiresOk_joinOut h hx
  · rw [offerTally_full k x (Nat.le_of_not_lt room)]
    obtain ⟨⟨queue, hold, report⟩, sent⟩ := h
    refine ⟨⟨queue, fun y hy => ?_, report⟩, sent⟩
    obtain hy | hy := List.mem_append.mp hy
    · exact hold y (List.mem_of_mem_filter hy)
    · rwa [List.mem_singleton.mp hy]

theorem sourcesOk_offerTally {k : Ctx} {x : OutCell} {c : Chip} (h : SourcesOk c)
    (hx : x.source = .tally k ∧ x.gap = 0) : SourcesOk (offerTally k x c) := by
  by_cases room : outCount c.out < 32
  · rw [offerTally_room k x room]
    exact sourcesOk_joinOut h (.inr hx.2)
  · rw [offerTally_full k x (Nat.le_of_not_lt room)]
    obtain ⟨report, hold, queue⟩ := h
    refine ⟨report, fun y hy => ?_, queue⟩
    obtain hy | hy := List.mem_append.mp hy
    · exact hold y (List.mem_of_mem_filter hy)
    · rwa [List.mem_singleton.mp hy]

@[simp] theorem offerTally_port (k : Ctx) (x : OutCell) (c : Chip) : (offerTally k x c).port = c.port := by
  rw [offerTally_frame]

/-! ## A unit reset (R12, R182) -/

/-- R12, R182: the output lane, the tally hold and the report queue are emptied, a cell under way takes no place, and
the place held for the reset's answer is still held. -/
theorem outOk_resetBlocks (c : Chip) : OutOk (resetBlocks c) := by
  have count : outCount (resetBlocks c).out = 0 := by
    cases h : c.out.tx <;> simp [outCount, resetBlocks, resetOut, OutputLane.powerOn, h]
  refine ⟨by omega, fun _ => rfl, fun h => absurd rfl h, fun h => absurd rfl h, List.nodup_nil, ?_⟩
  show 0 + (if c.port.held then 1 else 0) ≤ 16
  split <;> omega

theorem wiresOk_resetBlocks {c : Chip} (h : WiresOk c) : WiresOk (resetBlocks c) :=
  ⟨⟨List.forall_mem_nil _, List.forall_mem_nil _, List.forall_mem_nil _⟩, h.2⟩

theorem sourcesOk_resetBlocks (c : Chip) : SourcesOk (resetBlocks c) :=
  ⟨List.forall_mem_nil _, List.forall_mem_nil _, List.forall_mem_nil _⟩

/-! ## A send completion (R11) -/

/-- The part with FO idle after a cell's transmission, and the cell counted as sent. -/
def completed (t : TxCell) (c : Chip) : Chip := { c with out := { countSent t.cell.source c.out with tx := none } }

theorem foSent_idle {c : Chip} (h : c.out.tx = none) : foSent c = c := by
  rw [foSent, h]

theorem foSent_sending {c : Chip} {t : TxCell} (h : c.out.tx = some t) :
    foSent c = startFo (refillOut (completed t c)) := by
  rw [foSent, h]
  rfl

/-- A completion changes counters and the cell in transmission alone. -/
theorem completed_eq (t : TxCell) (c : Chip) :
    completed t c = { c with out := { c.out with
      tx := none, auxSent := bumpIf (isAux t.cell.source) c.out.auxSent,
      tallySent := bumpIf (isTally t.cell.source) c.out.tallySent,
      reportsSent := bumpIf (isReport t.cell.source) c.out.reportsSent } } := by
  unfold completed
  cases t.cell.source <;> rfl

theorem outCount_completed (t : TxCell) (c : Chip) : outCount (completed t c).out = c.out.queue.length := by
  rw [completed_eq]
  rfl

theorem wiresOk_completed (t : TxCell) {c : Chip} (h : WiresOk c) : WiresOk (completed t c) := by
  rw [completed_eq]
  exact h

theorem sourcesOk_completed (t : TxCell) {c : Chip} (h : SourcesOk c) : SourcesOk (completed t c) := by
  rw [completed_eq]
  exact h

theorem wiresOk_refillOut {c : Chip} (h : WiresOk c) : WiresOk (refillOut c) := by
  obtain ⟨-, e⟩ | ⟨y, rest, -, held, e⟩ | ⟨x, rest, -, -, waiting, e⟩ := refillOut_cases c
  · rwa [e]
  · rw [e]
    obtain ⟨⟨queue, hold, report⟩, sent⟩ := h
    rw [held] at hold
    exact wiresOk_enqueued ⟨⟨queue, fun z hz => hold z (List.mem_cons_of_mem _ hz), report⟩, sent⟩
      (hold y List.mem_cons_self)
  · rw [e]
    obtain ⟨⟨queue, hold, report⟩, sent⟩ := h
    rw [waiting] at report
    exact wiresOk_enqueued ⟨⟨queue, hold, fun z hz => report z (List.mem_cons_of_mem _ hz)⟩, sent⟩
      (report x List.mem_cons_self)

theorem sourcesOk_refillOut {c : Chip} (h : SourcesOk c) : SourcesOk (refillOut c) := by
  obtain ⟨-, e⟩ | ⟨y, rest, -, held, e⟩ | ⟨x, rest, -, -, waiting, e⟩ := refillOut_cases c
  · rwa [e]
  · rw [e]
    obtain ⟨report, hold, queue⟩ := h
    rw [held] at hold
    exact sourcesOk_enqueued ⟨report, fun z hz => hold z (List.mem_cons_of_mem _ hz), queue⟩
      (.inr (hold y List.mem_cons_self).2)
  · rw [e]
    obtain ⟨report, hold, queue⟩ := h
    rw [waiting] at report
    exact sourcesOk_enqueued ⟨fun z hz => report z (List.mem_cons_of_mem _ hz), hold, queue⟩
      (.inr (report x List.mem_cons_self).2)

theorem wiresOk_foSent {c : Chip} (h : WiresOk c) : WiresOk (foSent c) := by
  cases tx : c.out.tx with
  | none => rwa [foSent_idle tx]
  | some t =>
    rw [foSent_sending tx]
    exact wiresOk_startFo (wiresOk_refillOut (wiresOk_completed t h))

theorem sourcesOk_foSent {c : Chip} (h : SourcesOk c) : SourcesOk (foSent c) := by
  cases tx : c.out.tx with
  | none => rwa [foSent_idle tx]
  | some t =>
    rw [foSent_sending tx]
    exact sourcesOk_startFo (sourcesOk_refillOut (sourcesOk_completed t h))

/-- R11: with at most one place free where something waits behind the queue, the refill leaves none. -/
theorem outOk_startFo_refillOut {c : Chip} (count : outCount c.out ≤ 32) (hold : c.out.hold ≠ [] → 31 ≤ outCount c.out)
    (report : c.port.report ≠ [] → 31 ≤ outCount c.out) (nodup : (c.out.hold.map (·.ctx)).Nodup)
    (taken : reportTaken c.port ≤ 16) : OutOk (startFo (refillOut c)) := by
  obtain ⟨why, e⟩ | ⟨y, rest, room, held, e⟩ | ⟨x, rest, room, noHold, waiting, e⟩ := refillOut_cases c
  · rw [e]
    have full : c.out.hold ≠ [] ∨ c.port.report ≠ [] → outCount c.out = 32 := by
      obtain full | ⟨noHold, noReport⟩ := why
      · omega
      · rintro (h | h)
        · exact absurd noHold h
        · exact absurd noReport h
    exact outOk_startFo count (fun h => full (.inl h)) (fun h => full (.inr h)) nodup taken
  · have := hold (by simp [held])
    have full : outCount (refillOut c).out = 32 := by
      rw [e, outCount_enqueued]
      show outCount c.out + 1 = 32
      omega
    rw [held, List.map_cons] at nodup
    refine outOk_startFo full.le (fun _ => full) (fun _ => full) ?_ ?_
    · rw [e]
      exact nodup.of_cons
    · rw [e]
      exact taken
  · have := report (by simp [waiting])
    have full : outCount (refillOut c).out = 32 := by
      rw [e, outCount_enqueued]
      show outCount c.out + 1 = 32
      omega
    refine outOk_startFo full.le (fun _ => full) (fun _ => full) ?_ ?_
    · rw [e]
      exact nodup
    · have fewer : reportTaken (withReports rest c).port ≤ reportTaken c.port := by
        exact Nat.add_le_add_right (by simp [withReports, waiting]) _
      rw [e]
      exact fewer.trans taken

/-- R11: a completion frees at most one place. -/
theorem outOk_foSent {c : Chip} (h : OutOk c) : OutOk (foSent c) := by
  cases tx : c.out.tx with
  | none => rwa [foSent_idle tx]
  | some t =>
    obtain ⟨count, -, hold, report, nodup, taken⟩ := h
    have left : outCount c.out ≤ outCount (completed t c).out + 1 ∧ outCount (completed t c).out ≤ outCount c.out := by
      rw [outCount_completed, outCount_sending tx]
      split <;> omega
    obtain ⟨most, fewer⟩ := left
    have sameHold : (completed t c).out.hold = c.out.hold := by rw [completed_eq]
    rw [foSent_sending tx]
    refine outOk_startFo_refillOut (fewer.trans count) ?_ (fun h => ?_) (sameHold ▸ nodup) taken
    · rw [sameHold]
      intro h
      have := hold h
      omega
    · have := report h
      omega

@[simp] theorem foSent_held (c : Chip) : (foSent c).port.held = c.port.held := by
  cases tx : c.out.tx with
  | none => rw [foSent_idle tx]
  | some t =>
    rw [foSent_sending tx, startFo_port]
    obtain ⟨-, e⟩ | ⟨y, rest, -, -, e⟩ | ⟨x, rest, -, -, -, e⟩ := refillOut_cases (completed t c)
    all_goals
      rw [e]
      rfl

end Sys2Proof.VanFabric

end


section
/-! Everything a step can do to the output lane, as a chain of a few moves: first the moves and what they keep, then the
chain of each operation of the blocks. -/

namespace Sys2Proof.VanFabric

open Sys2Proof.Machine Sys2Proof.Safety Sys2Proof.Claims

-- One theorem after another: side by side, each waits for the others on a thread of its own.
set_option Elab.async false

/-! ## The moves of the output lane -/

/-- One move at the output lane: nothing it reads of the part changes; a notice is queued or dropped (R179); an AUX cell
(R8) or a tally cell (R9) that fits is offered; or every block is reset (R182). -/
inductive LaneMove (c : Chip) : Chip → Prop where
  | quiet {d : Chip} (same : SameLane c d) : LaneMove c d
  | notice : LaneMove c (queueNotice c)
  | aux (x : OutCell) (source : isAux x.source = true) (fits : x.payload.length ≤ 240) : LaneMove c (offerAux x c)
  | tally (k : Ctx) (x : OutCell) (source : x.source = .tally k ∧ x.gap = 0) (fits : x.payload.length ≤ 240) :
      LaneMove c (offerTally k x c)
  | reset : LaneMove c (resetBlocks c)

/-- A chain of moves. -/
def LaneReach : Chip → Chip → Prop := Relation.ReflTransGen LaneMove

/-- A condition kept by each move is kept by a chain of them. -/
theorem LaneReach.keeps {P : Chip → Prop} (h : ∀ c d, LaneMove c d → P c → P d) {c d : Chip} (m : LaneReach c d)
    (hc : P c) : P d := by
  induction m with
  | refl => exact hc
  | tail _ move ih => exact h _ _ move ih

theorem LaneMove.held {c d : Chip} (m : LaneMove c d) : d.port.held = c.port.held := by
  cases m with
  | quiet same => exact same.held
  | notice => exact queueNotice_held c
  | aux => rw [offerAux_port]
  | tally => rw [offerTally_port]
  | reset => rfl

theorem LaneReach.held {c d : Chip} (m : LaneReach c d) : d.port.held = c.port.held :=
  m.keeps (P := fun e => e.port.held = c.port.held) (fun _ _ move e => move.held.trans e) rfl

theorem LaneReach.outOk {c d : Chip} (m : LaneReach c d) (h : OutOk c) : OutOk d := by
  refine m.keeps (fun c d move h => ?_) h
  cases move with
  | quiet same => exact same.outOk h
  | notice => exact outOk_queueNotice h
  | aux x => exact outOk_offerAux x h
  | tally k x => exact outOk_offerTally k x h
  | reset => exact outOk_resetBlocks c

theorem LaneReach.wiresOk {c d : Chip} (m : LaneReach c d) (h : WiresOk c) : WiresOk d := by
  refine m.keeps (fun c d move h => ?_) h
  cases move with
  | quiet same => exact same.wiresOk h
  | notice => exact wiresOk_queueNotice h
  | aux x _ fits => exact wiresOk_offerAux h fits
  | tally k x _ fits => exact wiresOk_offerTally k h fits
  | reset => exact wiresOk_resetBlocks h

theorem LaneReach.sourcesOk {c d : Chip} (m : LaneReach c d) (h : SourcesOk c) : SourcesOk d := by
  refine m.keeps (fun c d move h => ?_) h
  cases move with
  | quiet same => exact same.sourcesOk h
  | notice => exact sourcesOk_queueNotice h
  | aux x source => exact sourcesOk_offerAux h source
  | tally k x source => exact sourcesOk_offerTally h source
  | reset => exact sourcesOk_resetBlocks c

/-! ## Chains lengthened by one operation -/

theorem SameLane.of_eq {c d : Chip} (unit : d.unit = c.unit) (out : d.out = c.out) (fo : d.fo = c.fo)
    (port : d.port = c.port) : SameLane c d := by
  constructor <;> simp only [unit, out, fo, port]

variable {c d : Chip}

theorem laneReach_refl (c : Chip) : LaneReach c c := Relation.ReflTransGen.refl

/-- A chain may end with any change that the lane does not read. -/
theorem laneReach_quiet {d' : Chip} (h : LaneReach c d)
    (same : SameLane d d' := by exact ⟨rfl, rfl, rfl, rfl, rfl, rfl, rfl⟩) : LaneReach c d' :=
  h.tail (.quiet same)

theorem laneReach_foldl {α : Type} {f : Chip → α → Chip} (hf : ∀ d a, LaneReach c d → LaneReach c (f d a)) (l : List α)
    (h : LaneReach c d) : LaneReach c (l.foldl f d) := by
  induction l generalizing d with
  | nil => exact h
  | cons a l ih => exact ih (hf d a h)

theorem laneReach_setAttention (as : List AttClass) (h : LaneReach c d) : LaneReach c (setAttention as d) := by
  unfold setAttention
  dsimp only
  split
  · exact laneReach_quiet h
  · exact Relation.ReflTransGen.tail (laneReach_quiet h) .notice

theorem laneReach_setAttentionIf (b : Bool) (as : List AttClass) (h : LaneReach c d) :
    LaneReach c (setAttentionIf b as d) := by
  unfold setAttentionIf
  split
  · exact laneReach_setAttention as h
  · exact h

/-! ## The clip log (chapter 11) -/

theorem laneReach_offerLabel (i : Nat) (x : Clip) (h : LaneReach c d) : LaneReach c (offerLabel i x d) :=
  laneReach_quiet h (.of_eq (offerLabel_unit ..) (offerLabel_out ..) (offerLabel_fo ..) (offerLabel_port ..))

theorem laneReach_autoOffer (i : Nat) (x : Clip) (h : LaneReach c d) : LaneReach c (autoOffer i x d) := by
  unfold autoOffer
  split
  · exact laneReach_setAttentionIf _ _ (laneReach_offerLabel i x h)
  · exact h

theorem laneReach_closeClip (i : Nat) (x : Clip) (h : LaneReach c d) : LaneReach c (closeClip i x d) :=
  laneReach_autoOffer _ _ (laneReach_quiet h)

theorem laneReach_autoClose (p : Option Ctx) (h : LaneReach c d) : LaneReach c (autoClose p d) := by
  unfold autoClose
  split
  · split
    · exact laneReach_closeClip _ _ (laneReach_quiet h)
    · exact h
  · exact h

theorem laneReach_autoOpen (p : Option Ctx) (h : LaneReach c d) : LaneReach c (autoOpen p d) := by
  unfold autoOpen
  split
  · exact h
  · split
    · split
      · exact laneReach_setAttention _ (laneReach_quiet h)
      · exact laneReach_quiet h
    · exact h

theorem laneReach_autoClips (p : Option Ctx) (h : LaneReach c d) : LaneReach c (autoClips p d) :=
  laneReach_autoOpen p (laneReach_autoClose p h)

theorem laneReach_labelSent (i : Nat) (h : LaneReach c d) : LaneReach c (labelSent i d) := by
  unfold labelSent
  split
  · split
    · exact laneReach_quiet h
    · exact h
  · exact h

theorem laneReach_countDelivered (n : Nat) (h : LaneReach c d) : LaneReach c (countDelivered n d) :=
  laneReach_setAttentionIf _ _ (laneReach_quiet h)

theorem laneReach_labelDelivered (i : Nat) (h : LaneReach c d) : LaneReach c (labelDelivered i d) := by
  unfold labelDelivered
  split
  · split
    · split
      · exact laneReach_countDelivered 1 (laneReach_quiet h)
      · exact laneReach_quiet h
    · exact h
  · exact h

theorem laneReach_labelLost (i : Nat) (h : LaneReach c d) : LaneReach c (labelLost i d) := by
  unfold labelLost
  split
  · split
    · exact laneReach_setAttention _ (laneReach_quiet h)
    · exact h
  · exact h

theorem laneReach_clipsTakePicture (k : Ctx) (p : PicNum) (bad : Bool) (lw : PicNum) (h : LaneReach c d) :
    LaneReach c (clipsTakePicture k p bad lw d) := by
  cases bad
  · exact laneReach_countDelivered _ (laneReach_quiet h)
  · exact laneReach_countDelivered _ (laneReach_quiet h)

theorem laneReach_markIn (ctx : Byte) (text : List Byte) (rating : Byte) (h : LaneReach c d) :
    LaneReach c (markIn ctx text rating d).1 := by
  unfold markIn
  repeat' split
  all_goals exact laneReach_quiet h

theorem laneReach_markOut (h : LaneReach c d) : LaneReach c (markOut d).1 := by
  unfold markOut
  split
  · exact h
  · split
    · exact h
    · exact laneReach_closeClip _ _ (laneReach_quiet h)

theorem laneReach_setClipMode (autoSend : Byte) (autoClip : Vector Byte 6) (h : LaneReach c d) :
    LaneReach c (setClipMode autoSend autoClip d).1 := by
  unfold setClipMode
  split
  all_goals exact laneReach_quiet h

theorem laneReach_labelClip (i : Nat) (x : Clip) (text : List Byte) (rating : Byte) (h : LaneReach c d) :
    LaneReach c (labelClip i x text rating d).1 := by
  unfold labelClip
  extract_lets y ok
  split
  case h_5 | h_6 =>
    split
    · exact h
    · exact laneReach_autoOffer _ _ (laneReach_quiet h)
  all_goals
    repeat' split
    all_goals exact laneReach_quiet h

theorem laneReach_label (index : Byte) (text : List Byte) (rating : Byte) (h : LaneReach c d) :
    LaneReach c (label index text rating d).1 := by
  unfold label
  split
  · exact h
  split
  · exact h
  split
  · exact h
  split
  · exact h
  · exact laneReach_labelClip _ _ _ _ h

theorem laneReach_sendLabel (index : Byte) (h : LaneReach c d) : LaneReach c (sendLabel index d).1 := by
  unfold sendLabel
  split
  · exact h
  split
  · exact h
  split
  · exact h
  split
  · exact laneReach_offerLabel _ _ h
  all_goals exact h

theorem laneReach_voidClip (index : Byte) (h : LaneReach c d) : LaneReach c (voidClip index d).1 := by
  unfold voidClip
  repeat' split
  all_goals exact laneReach_quiet h

theorem laneReach_setFence (position : Byte) (h : LaneReach c d) : LaneReach c (setFence position d).1 := by
  unfold setFence
  dsimp only
  repeat' split
  all_goals exact laneReach_quiet h

theorem laneReach_clearClips (h : LaneReach c d) : LaneReach c (clearClips d).1 := by
  unfold clearClips
  split
  all_goals exact laneReach_quiet h

theorem laneReach_readClip (index : Byte) (h : LaneReach c d) : LaneReach c (readClip index d).1 := by
  unfold readClip
  split
  all_goals exact h

/-! ## Delivery accounting (chapter 10) -/

theorem laneReach_writeLog (e : LogEntry) (h : LaneReach c d) : LaneReach c (writeLog e d) := by
  unfold writeLog
  split
  · exact laneReach_quiet h
  · exact laneReach_setAttention _ (laneReach_quiet h)

theorem laneReach_resolve (p : Picture) (q : Option Nat) (sends : Nat) (o : PicOutcome) (h : LaneReach c d) :
    LaneReach c (resolve p q sends o d) := by
  unfold resolve
  extract_lets k acct d₁ d₂ d₃
  have h₁ : LaneReach c d₁ := laneReach_quiet h
  have h₂ : LaneReach c d₂ := laneReach_quiet (laneReach_setAttention _ h₁)
  have h₃ : LaneReach c d₃ := laneReach_clipsTakePicture _ _ _ _ h₂
  split
  · exact laneReach_writeLog _ h₃
  · exact h₃

theorem laneReach_endDrainedContext (k : Ctx) (h : LaneReach c d) : LaneReach c (endDrainedContext k d) :=
  laneReach_quiet h (.of_eq (endDrainedContext_unit ..) (endDrainedContext_out ..) (endDrainedContext_fo ..)
    (endDrainedContext_port ..))

theorem laneReach_judgeQueued (k : Ctx) (n : PicNum) (h : LaneReach c d) : LaneReach c (judgeQueued k n d) := by
  unfold judgeQueued
  split
  · exact h
  · split
    · exact laneReach_endDrainedContext _ (laneReach_resolve _ _ _ _ (laneReach_quiet h))
    · exact h

theorem laneReach_changeQueued (k : Ctx) (n : PicNum) (f : Queued → Queued) (h : LaneReach c d) :
    LaneReach c (changeQueued k n f d) :=
  laneReach_judgeQueued k n (laneReach_quiet h)

theorem laneReach_readLog (h : LaneReach c d) : LaneReach c (readLog d).1 := by
  unfold readLog
  split
  all_goals exact laneReach_quiet h

/-! ## Rate control (chapter 5) -/

theorem laneReach_setContext (ctx weight : Byte) (minimum : BitVec 32) (boost bias slew marker : Byte)
    (latency : BitVec 16) (logMode : Byte) (h : LaneReach c d) :
    LaneReach c (setContext ctx weight minimum boost bias slew marker latency logMode d).1 := by
  unfold setContext
  split
  all_goals exact laneReach_quiet h

theorem laneReach_setReservoir (ctx depth qMin qMax qStart : Byte) (h : LaneReach c d) :
    LaneReach c (setReservoir ctx depth qMin qMax qStart d).1 := by
  unfold setReservoir
  dsimp only
  repeat' split
  all_goals exact laneReach_quiet h

theorem laneReach_loadCurve (ctx : Byte) (entries : List Byte) (h : LaneReach c d) :
    LaneReach c (loadCurve ctx entries d).1 := by
  unfold loadCurve
  repeat' split
  all_goals exact laneReach_quiet h

/-! ## The engine and the gatherers (chapter 4) -/

theorem laneReach_arbitrate (h : LaneReach c d) : LaneReach c (arbitrate d) :=
  laneReach_quiet h (.of_eq (arbitrate_unit _) (arbitrate_out _) (arbitrate_fo _) (arbitrate_port _))

theorem laneReach_takeCoded (o : Coding) (coded : List Byte) (h : LaneReach c d) :
    LaneReach c (takeCoded o coded d) := by
  unfold takeCoded
  extract_lets k e v
  refine laneReach_quiet (d := settleVerdict o coded v d) ?_
  cases v
  · exact laneReach_resolve _ _ _ _ h
  · exact laneReach_resolve _ _ _ _ h
  · exact laneReach_quiet h

theorem laneReach_codingDone (coded : List Byte) (h : LaneReach c d) : LaneReach c (codingDone coded d) := by
  unfold codingDone
  split
  · exact h
  · split
    · exact laneReach_arbitrate (laneReach_takeCoded _ _ (laneReach_quiet h))
    · exact h

theorem laneReach_abandonFor (k : Ctx) (h : LaneReach c d) : LaneReach c (abandonFor k d) := by
  unfold abandonFor
  split
  · exact h
  · split
    · exact laneReach_resolve _ _ _ _ (laneReach_quiet h)
    · exact h

theorem laneReach_completePicture (k : Ctx) (g : Gathering) (h : LaneReach c d) :
    LaneReach c (completePicture k g d) := by
  unfold completePicture
  refine laneReach_arbitrate ?_
  split
  · exact laneReach_quiet h
  · exact laneReach_resolve _ _ _ _ (laneReach_quiet h)

theorem laneReach_endDamaged (k : Ctx) (g : Gathering) (h : LaneReach c d) : LaneReach c (endDamaged k g d) :=
  laneReach_completePicture _ _ (laneReach_quiet h)

theorem laneReach_startPicture (k : Ctx) (lane : LaneNo) (cell : Cell) (h : LaneReach c d) :
    LaneReach c (startPicture k lane cell d) := by
  unfold startPicture
  extract_lets d₁ g d₂
  have h₁ : LaneReach c d₁ := by
    unfold d₁
    split
    · exact laneReach_endDamaged _ _ h
    · exact h
  have h₂ : LaneReach c d₂ := laneReach_quiet h₁
  split
  · exact laneReach_completePicture _ _ h₂
  · exact h₂

theorem laneReach_joinPicture (k : Ctx) (g : Gathering) (lane : LaneNo) (cell : Cell) (h : LaneReach c d) :
    LaneReach c (joinPicture k g lane cell d) := by
  unfold joinPicture
  extract_lets x d₁ d₂ d₃
  split
  · exact laneReach_completePicture _ _ (laneReach_quiet h)
  · split
    · exact laneReach_completePicture _ _ (laneReach_quiet h)
    · exact laneReach_quiet h

theorem laneReach_gatherCell (k : Ctx) (lane : LaneNo) (cell : Cell) (h : LaneReach c d) :
    LaneReach c (gatherCell k lane cell d) := by
  unfold gatherCell
  split
  · split
    · exact laneReach_startPicture _ _ _ h
    · split
      · exact laneReach_joinPicture _ _ _ _ h
      · exact laneReach_quiet h
  · exact laneReach_quiet h

theorem laneReach_staleCheck (k : Ctx) (h : LaneReach c d) : LaneReach c (staleCheck k d) := by
  unfold staleCheck
  split
  · exact h
  · split
    · exact laneReach_quiet h
    · exact laneReach_endDamaged _ _ (laneReach_quiet h)

theorem laneReach_gatherBoundary (h : LaneReach c d) : LaneReach c (gatherBoundary d) := by
  refine laneReach_foldl (fun d k h => ?_) _ h
  unfold gatherBoundaryAt
  split
  · exact laneReach_staleCheck k h
  all_goals exact laneReach_quiet h

end Sys2Proof.VanFabric

end


section
/-! Everything a step can do to the output lane, continued: the mixer, the selector, the link, the scheduler, steering,
the timebase and the commands. -/

namespace Sys2Proof.VanFabric

open Sys2Proof.Machine Sys2Proof.Safety Sys2Proof.Claims

-- One theorem after another: side by side, each waits for the others on a thread of its own.
set_option Elab.async false

variable {c d : Chip}

/-! ## The mixer (chapter 6) -/

theorem laneReach_loseInput (i : InputNo) (h : LaneReach c d) : LaneReach c (loseInput i d) :=
  laneReach_setAttention _ (laneReach_quiet h)

theorem laneReach_takeBlock (i : InputNo) (h : LaneReach c d) : LaneReach c (takeBlock i d).1 := by
  unfold takeBlock
  dsimp only
  split
  · exact laneReach_quiet h
  · split
    · dsimp only
      split
      · exact laneReach_loseInput i (laneReach_quiet h)
      · exact laneReach_quiet h
    · exact h

theorem laneReach_takeBlocks (h : LaneReach c d) : LaneReach c (takeBlocks d).1 := by
  have fold : ∀ (l : List InputNo) (acc : Chip × List (List Sample)), LaneReach c acc.1 →
      LaneReach c (l.foldl (fun acc i =>
        let t := takeBlock i acc.1
        (t.1, acc.2 ++ [t.2])) acc).1 := by
    intro l
    induction l with
    | nil => exact fun _ h => h
    | cons i l ih => exact fun acc h => ih _ (laneReach_takeBlock i h)
  exact fold allInputs (d, []) h

theorem sampleBytes_length (xs : List Sample) : (sampleBytes xs).length = 3 * xs.length := by
  induction xs with
  | nil => rfl
  | cons x xs ih =>
    rw [sampleBytes, List.flatMap_cons, List.length_append, be24_length, List.length_cons]
    rw [sampleBytes] at ih
    omega

/-- R86: a bus puts out 48 samples a block. -/
theorem busOut_length (m : Mixer) (bus : BusNo) (blocks : List (List Sample)) : (busOut m bus blocks).length = 48 := by
  unfold busOut
  split
  · simp
  · simp [stage, busSum, sumBlocks]

theorem laneReach_offerAuxBus {source : OutSource} (aux : isAux source = true) (stream : Stream) {out : List Int}
    (block : out.length = 48) (h : LaneReach c d) : LaneReach c (offerAuxBus source stream out d) := by
  unfold offerAuxBus
  split
  · exact h
  · refine h.tail (.aux _ aux ?_)
    simp [auxCell, sampleBytes_length, toSamples, block]

theorem laneReach_buildFrame (left right : List Sample) (h : LaneReach c d) :
    LaneReach c (buildFrame left right d) := by
  unfold buildFrame queueOrDiscard
  dsimp only
  split
  · exact laneReach_quiet h
  · split
    all_goals exact laneReach_quiet h

theorem sameLane_mixer (m : Mixer) (c : Chip) : SameLane c { c with mixer := m } :=
  ⟨rfl, rfl, rfl, rfl, rfl, rfl, rfl⟩

theorem laneReach_mixerTick (h : LaneReach c d) : LaneReach c (mixerTick d) := by
  unfold mixerTick
  split
  · exact h
  · have counted : ∀ m, LaneReach c { (takeBlocks d).1 with mixer := m } := fun m =>
      laneReach_quiet (laneReach_takeBlocks h) (sameLane_mixer m _)
    exact laneReach_buildFrame _ _ (laneReach_offerAuxBus rfl _ (busOut_length ..)
      (laneReach_offerAuxBus rfl _ (busOut_length ..) (laneReach_setAttentionIf _ _ (counted _))))

theorem laneReach_audioInputLost (i : InputNo) (h : LaneReach c d) : LaneReach c (audioInputLost i d) := by
  unfold audioInputLost
  split
  · exact laneReach_takeBlock i h
  · exact h

theorem laneReach_loadGain (first count : Byte) (entries : List (BitVec 16)) (h : LaneReach c d) :
    LaneReach c (loadGain first count entries d).1 := by
  unfold loadGain
  repeat' split
  all_goals exact laneReach_quiet h

theorem laneReach_readGain (first count : Byte) (h : LaneReach c d) : LaneReach c (readGain first count d).1 := by
  unfold readGain
  split
  all_goals exact h

theorem laneReach_setFader (input target step : Byte) (h : LaneReach c d) :
    LaneReach c (setFader input target step d).1 := by
  unfold setFader
  split
  all_goals exact laneReach_quiet h

theorem laneReach_setAfv (input link onIndex offIndex : Byte) (h : LaneReach c d) :
    LaneReach c (setAfv input link onIndex offIndex d).1 := by
  unfold setAfv
  split
  all_goals exact laneReach_quiet h

theorem laneReach_setSends (input pgmL pgmR auxA auxB : Byte) (h : LaneReach c d) :
    LaneReach c (setSends input pgmL pgmR auxA auxB d).1 := by
  unfold setSends
  split
  all_goals exact laneReach_quiet h

theorem laneReach_setBus (bus master mute : Byte) (stream : BitVec 16) (h : LaneReach c d) :
    LaneReach c (setBus bus master mute stream d).1 := by
  unfold setBus
  repeat' split
  all_goals exact laneReach_quiet h

theorem laneReach_setAudioSend (value : Byte) (h : LaneReach c d) : LaneReach c (setAudioSend value d).1 := by
  unfold setAudioSend
  split
  all_goals exact laneReach_quiet h

/-! ## The selector (chapter 7) -/

theorem tallyCell_payload (k : Ctx) (state : Byte) (c : Chip) : (tallyCell k state c).payload.length ≤ 240 := by
  simp [tallyCell, timecodeBytes]

theorem laneReach_offerTallyCell (k : Ctx) (state : Byte) (e : Chip) (h : LaneReach c d) :
    LaneReach c (offerTally k (tallyCell k state e) d) :=
  h.tail (.tally k _ ⟨rfl, rfl⟩ (tallyCell_payload k state e))

theorem laneReach_offerTallyOf (k : Ctx) (h : LaneReach c d) : LaneReach c (offerTallyOf k d) := by
  unfold offerTallyOf
  split
  · exact h
  · exact laneReach_offerTallyCell _ _ _ (laneReach_quiet h)

theorem laneReach_offerTallySet (h : LaneReach c d) : LaneReach c (offerTallySet d) :=
  laneReach_foldl (fun _ k => laneReach_offerTallyOf k) _ h

theorem laneReach_offerTallyOff (h : LaneReach c d) : LaneReach c (offerTallyOff d) := by
  refine laneReach_foldl (fun d k h => ?_) _ h
  split
  · exact h
  · exact laneReach_offerTallyCell _ _ _ h

theorem laneReach_applyOp (h : LaneReach c d) : LaneReach c (applyOp d) :=
  laneReach_setAttention _ (laneReach_quiet h)

theorem laneReach_applyPreset (h : LaneReach c d) : LaneReach c (applyPreset d) := by
  unfold applyPreset
  split
  · exact laneReach_quiet h
  · exact h

theorem laneReach_selectorBoundary (h : LaneReach c d) : LaneReach c (selectorBoundary d) := by
  unfold selectorBoundary
  extract_lets op pre d₁ d₂
  have h₁ : LaneReach c d₁ := by
    refine laneReach_applyPreset ?_
    split
    · exact laneReach_applyOp h
    · exact h
  have h₂ : LaneReach c d₂ := by
    unfold d₂
    split
    · exact laneReach_autoClips _ (laneReach_quiet h₁)
    · exact h₁
  split
  · exact laneReach_offerTallySet h₂
  · exact h₂

theorem laneReach_setTally (ctx : Byte) (stream : BitVec 16) (h : LaneReach c d) :
    LaneReach c (setTally ctx stream d).1 := by
  unfold setTally
  split
  · exact h
  · dsimp only
    split
    · exact h
    · exact laneReach_offerTallyOf _ (laneReach_quiet h)

theorem laneReach_stopProgramme (k : Ctx) (h : LaneReach c d) : LaneReach c (stopProgramme k d) := by
  unfold stopProgramme
  split
  · have lost : LaneReach c (setAttention [.takeDegraded] { d with
        sel := { d.sel with programme := none, programmeStops := bump d.sel.programmeStops } }) :=
      laneReach_setAttention _ (laneReach_quiet h)
    exact laneReach_quiet lost
  · exact h

theorem laneReach_stopPreset (k : Ctx) (h : LaneReach c d) : LaneReach c (stopPreset k d) := by
  unfold stopPreset
  split
  · exact laneReach_quiet h
  · exact h

theorem laneReach_stopAtSelector (k : Ctx) (h : LaneReach c d) : LaneReach c (stopAtSelector k d) := by
  have h' : LaneReach c (stopPreset k (stopProgramme k d)) := laneReach_stopPreset k (laneReach_stopProgramme k h)
  unfold stopAtSelector
  dsimp only
  split
  · exact laneReach_offerTallySet h'
  · exact h'

theorem laneReach_startContext (ctx : Byte) (h : LaneReach c d) : LaneReach c (startContext ctx d).1 := by
  unfold startContext
  repeat' split
  all_goals exact laneReach_quiet h

theorem laneReach_shedReady (k : Ctx) (h : LaneReach c d) : LaneReach c (shedReady k d) := by
  unfold shedReady
  split
  · exact laneReach_resolve _ _ _ _ (laneReach_quiet h)
  · exact h

theorem laneReach_shedGathering (k : Ctx) (h : LaneReach c d) : LaneReach c (shedGathering k d) := by
  unfold shedGathering
  split
  · exact laneReach_resolve _ _ _ _ (laneReach_quiet h)
  · exact h

theorem laneReach_stopRunning (k : Ctx) (h : LaneReach c d) : LaneReach c (stopRunning k d) := by
  have shed := laneReach_shedGathering k (laneReach_shedReady k (laneReach_abandonFor k h))
  unfold stopRunning drainOrStop
  split
  all_goals exact laneReach_quiet shed

theorem laneReach_stopContext (ctx : Byte) (h : LaneReach c d) : LaneReach c (stopContext ctx d).1 := by
  unfold stopContext
  split
  · exact h
  split
  · exact h
  split
  · exact laneReach_arbitrate (laneReach_stopAtSelector _ (laneReach_quiet h))
  · exact laneReach_arbitrate (laneReach_stopAtSelector _ (laneReach_stopRunning _ h))
  all_goals exact h

/-! ## Settlement (section 9.5) -/

theorem laneReach_settle (delivered : Bool) (e : Entry) (h : LaneReach c d) : LaneReach c (settle delivered e d) := by
  unfold settle
  extract_lets d'
  have h' : LaneReach c d' := laneReach_quiet h
  split
  · exact laneReach_changeQueued _ _ _ h'
  · unfold settleLabel logLabel
    refine laneReach_writeLog _ ?_
    split
    · exact laneReach_labelDelivered _ h'
    · exact laneReach_labelLost _ h'

theorem laneReach_declareAllLost (h : LaneReach c d) : LaneReach c (declareAllLost d) :=
  laneReach_foldl (fun _ e => laneReach_settle false e) _ (laneReach_quiet h)

/-! ## The home link (chapter 8) -/

theorem laneReach_enterLink (st : LinkState) (also : List AttClass) (h : LaneReach c d) :
    LaneReach c (enterLink st also d) :=
  laneReach_setAttention _ (laneReach_quiet h)

theorem laneReach_windowExpiry (h : LaneReach c d) : LaneReach c (windowExpiry d) := by
  unfold windowExpiry
  split
  · exact h
  · split
    · exact laneReach_quiet h
    · exact laneReach_enterLink _ _ (laneReach_quiet h)

theorem laneReach_gapExpiry (h : LaneReach c d) : LaneReach c (gapExpiry d) := by
  unfold gapExpiry
  split
  all_goals exact laneReach_quiet h

theorem laneReach_openLink (v : Nat) (h : LaneReach c d) : LaneReach c (openLink v d) := by
  have opened : LaneReach c (enterLink .up [] (modLink (fun l => { storeCapacity v l with
      answerWindow := none, retryGap := none, phase := none, attempt := 0, credit := 0 }) d)) :=
    laneReach_enterLink _ _ (laneReach_quiet h)
  exact laneReach_quiet opened

theorem laneReach_drainEnd (h : LaneReach c d) : LaneReach c (drainEnd d) := by
  unfold drainEnd
  extract_lets complete d'
  have h' : LaneReach c d' := laneReach_quiet h
  exact laneReach_enterLink _ _ (laneReach_quiet (laneReach_declareAllLost h'))

theorem laneReach_checkDrain (h : LaneReach c d) : LaneReach c (checkDrain d) := by
  unfold checkDrain
  split
  · exact laneReach_drainEnd h
  · exact h

theorem laneReach_drainExpiry (h : LaneReach c d) : LaneReach c (drainExpiry d) := by
  unfold drainExpiry
  split
  · exact h
  · split
    · exact laneReach_drainEnd h
    · exact h

theorem laneReach_silenceRunsOut (h : LaneReach c d) : LaneReach c (silenceRunsOut d) := by
  unfold silenceRunsOut
  split
  · exact h
  · dsimp only
    split
    · exact laneReach_enterLink _ _ (laneReach_quiet h)
    · exact laneReach_drainEnd (laneReach_quiet h)
    all_goals exact h

theorem laneReach_linkOpen (h : LaneReach c d) : LaneReach c (linkOpen d).1 := by
  unfold linkOpen
  split
  · exact h
  split
  · have entered : LaneReach c (enterLink .hailing [] (modLink (fun l => { l with attempt := 1 }) d)) :=
      laneReach_enterLink _ _ (laneReach_quiet h)
    exact laneReach_quiet entered
  · exact h

theorem laneReach_handover (h : LaneReach c d) : LaneReach c (handover d).1 := by
  unfold handover
  split
  · exact h
  split
  · exact laneReach_checkDrain (laneReach_enterLink _ _ (laneReach_quiet h))
  · exact h

theorem laneReach_closeLink (h : LaneReach c d) : LaneReach c (closeLink d) := by
  have lost : LaneReach c (declareAllLost (modLink (fun l => { l with
      answerWindow := none, retryGap := none, silence := none, drainLimit := none, phase := none, attempt := 0 }) d)) :=
    laneReach_declareAllLost (laneReach_quiet h)
  exact laneReach_enterLink _ _ (laneReach_quiet lost)

theorem laneReach_linkClose (h : LaneReach c d) : LaneReach c (linkClose d).1 := by
  unfold linkClose
  split
  · exact h
  split
  · exact h
  · exact laneReach_closeLink h

theorem laneReach_linkTick (silenceFirst : Bool) (h : LaneReach c d) : LaneReach c (linkTick silenceFirst d) := by
  have silence : ∀ {d}, LaneReach c d → LaneReach c (takeSilence d) := fun h => by
    unfold takeSilence
    split
    · exact laneReach_silenceRunsOut h
    · exact h
  have drain : ∀ {d}, LaneReach c d → LaneReach c (takeDrain d) := fun h => by
    unfold takeDrain
    split
    · exact laneReach_drainExpiry h
    · exact h
  unfold linkTick
  extract_lets d₁ window gap d₂ d₃
  have h₁ : LaneReach c d₁ := laneReach_quiet h
  have h₂ : LaneReach c d₂ := by
    unfold d₂
    split
    · exact laneReach_windowExpiry h₁
    · exact h₁
  have h₃ : LaneReach c d₃ := by
    unfold d₃
    split
    · exact laneReach_gapExpiry h₂
    · exact h₂
  split
  · exact drain (silence h₃)
  · exact silence (drain h₃)

/-! ## The frame scheduler (chapter 9) -/

theorem laneReach_ackFrame (n : FrameNum) (h : LaneReach c d) : LaneReach c (ackFrame n d) := by
  unfold ackFrame
  split
  · exact laneReach_checkDrain (laneReach_settle _ _ (laneReach_quiet h))
  · split
    · exact laneReach_checkDrain (laneReach_settle _ _ (laneReach_quiet h))
    · exact laneReach_quiet h

theorem laneReach_ackFrames (ns : List FrameNum) (h : LaneReach c d) : LaneReach c (ackFrames ns d) :=
  laneReach_foldl (fun _ n => laneReach_ackFrame n) _ h

theorem laneReach_ackExpiry (n : FrameNum) (h : LaneReach c d) : LaneReach c (ackExpiry n d) := by
  unfold ackExpiry
  split
  · unfold expire
    split
    · exact laneReach_quiet h
    · exact laneReach_checkDrain (laneReach_settle _ _ (laneReach_quiet h))
  · exact h

theorem laneReach_expireWindows (h : LaneReach c d) : LaneReach c (expireWindows d) :=
  laneReach_foldl (fun _ (e : Entry) => laneReach_ackExpiry e.frame) _ (laneReach_quiet h)

theorem laneReach_loseResend (e : Entry) (h : LaneReach c d) : LaneReach c (loseResend e d) := by
  unfold loseResend
  split
  · exact laneReach_checkDrain (laneReach_settle _ _ (laneReach_quiet h))
  · exact h

theorem laneReach_deadlinePasses (k : Ctx) (n : PicNum) (h : LaneReach c d) : LaneReach c (deadlinePasses k n d) := by
  unfold deadlinePasses
  split
  · split
    · exact h
    · exact laneReach_foldl (fun _ e => laneReach_loseResend e) _ (laneReach_changeQueued _ _ _ (laneReach_quiet h))
  · exact h

theorem laneReach_applyDeadlines (h : LaneReach c d) : LaneReach c (applyDeadlines d) :=
  laneReach_foldl
    (fun _ k h => laneReach_foldl (fun _ (q : Queued) => laneReach_deadlinePasses k q.picture.number) _ h) _ h

theorem laneReach_sendFound (f : Found) (h : LaneReach c d) : LaneReach c (sendFound f d) := by
  cases f with
  | audio a => exact laneReach_quiet h
  | pass x => exact laneReach_quiet h
  | label l => exact laneReach_labelSent _ (laneReach_quiet h)
  | video k q rotated => exact laneReach_changeQueued _ _ _ (laneReach_quiet h)
  | resend e =>
    show LaneReach c (resendEntry e d)
    unfold resendEntry noteResend
    split
    · exact laneReach_changeQueued _ _ _ (laneReach_quiet h)
    · exact laneReach_quiet h

theorem laneReach_selectFrames (fuel : Nat) (h : LaneReach c d) : LaneReach c (selectFrames fuel d) := by
  induction fuel generalizing d with
  | zero => exact h
  | succ fuel ih =>
    unfold selectFrames
    split
    · exact h
    · split
      · exact ih (laneReach_sendFound _ h)
      · exact h

theorem laneReach_schedulerTick (h : LaneReach c d) : LaneReach c (schedulerTick d) := by
  have earned : LaneReach c (earnCredit d) := by
    unfold earnCredit
    split
    · exact laneReach_quiet h
    · exact h
  have due := laneReach_applyDeadlines (laneReach_expireWindows earned)
  unfold schedulerTick selectTick
  split
  · exact laneReach_selectFrames _ due
  · exact due

/-! ## Steering (chapter 3) -/

theorem laneReach_carryOut (a : SteerAction) (lane : LaneNo) (k : CellKind) (cell : Cell) (h : LaneReach c d) :
    LaneReach c (carryOut a lane k cell d) := by
  cases a with
  | discard => exact laneReach_quiet h
  | pass => exact laneReach_quiet h
  | code x =>
    unfold carryOut
    dsimp only
    split
    · exact laneReach_gatherCell _ _ _ (laneReach_quiet h)
    · exact laneReach_quiet h
  | mix i =>
    unfold carryOut
    dsimp only
    split
    all_goals exact laneReach_quiet h

theorem laneReach_steerCell (lane : LaneNo) (k : CellKind) (cell : Cell) (h : LaneReach c d) :
    LaneReach c (steerCell lane k cell d) := by
  unfold steerCell
  split
  · exact h
  unfold evaluateCell
  split
  · rename_i i a _
    have carried := laneReach_carryOut a lane k cell h
    dsimp only
    split
    · exact laneReach_setAttention _ (laneReach_quiet carried)
    · exact carried
  · unfold defaultAction
    dsimp only
    split
    all_goals exact laneReach_quiet h

theorem laneReach_steerBoundary (h : LaneReach c d) : LaneReach c (steerBoundary d) := by
  unfold steerBoundary
  split
  · exact laneReach_setAttention _ (laneReach_quiet h)
  · exact h

theorem laneReach_loadSteer (first count : Byte) (entries : List SteerEntry) (h : LaneReach c d) :
    LaneReach c (loadSteer first count entries d).1 := by
  unfold loadSteer
  split
  all_goals exact laneReach_quiet h

theorem laneReach_readSteer (bank first count : Byte) (h : LaneReach c d) :
    LaneReach c (readSteer bank first count d).1 := by
  unfold readSteer
  repeat' split
  all_goals exact h

theorem laneReach_steerDefault (action : Byte) (h : LaneReach c d) : LaneReach c (steerDefault action d).1 := by
  unfold steerDefault
  split
  all_goals exact laneReach_quiet h

/-! ## The timebase (chapter 2) -/

theorem sameLane_modTime (f : Timebase → Timebase) (c : Chip) : SameLane c (modTime f c) :=
  ⟨rfl, rfl, rfl, rfl, rfl, rfl, rfl⟩

/-- The division of the period's bytes and what follows it at a boundary. -/
theorem sameLane_boundaryBudget (c : Chip) : SameLane c (allowanceBoundary (rateBoundary (budgetBoundary c))) :=
  ⟨rfl, rfl, rfl, rfl, rfl, rfl, rfl⟩

theorem laneReach_makeBoundary (st : TimebaseState) (tc : Timecode) (h : LaneReach c d) :
    LaneReach c (makeBoundary st tc d) := by
  have restarted : LaneReach c (modTime (restartTimer st tc) d) := laneReach_quiet h
  exact laneReach_quiet (laneReach_selectorBoundary (laneReach_gatherBoundary (laneReach_steerBoundary restarted)))
    (sameLane_boundaryBudget _)

theorem laneReach_referenceCell (payload : List Byte) (h : LaneReach c d) : LaneReach c (referenceCell payload d) := by
  unfold referenceCell
  split
  · exact laneReach_quiet h
  · exact laneReach_quiet h
  unfold takeReference
  dsimp only
  split
  · exact laneReach_makeBoundary _ _ (laneReach_quiet h)
  · split
    · exact laneReach_quiet h
    · exact laneReach_makeBoundary _ _ (laneReach_quiet h)

theorem laneReach_expireBoundary (h : LaneReach c d) : LaneReach c (expireBoundary d) := by
  unfold expireBoundary
  split
  · exact laneReach_setAttention _ (laneReach_quiet (laneReach_makeBoundary _ _ h) (sameLane_modTime _ _))
  · exact laneReach_makeBoundary _ _ h

theorem laneReach_tickWork (h : LaneReach c d) : LaneReach c (tickWork d) := by
  refine laneReach_foldl (fun d p h => ?_) _ (laneReach_quiet h)
  cases p with
  | mixer => exact laneReach_mixerTick h
  | scheduler => exact laneReach_schedulerTick h
  | link => exact laneReach_linkTick _ h

theorem laneReach_sampleStep (h : LaneReach c d) : LaneReach c (sampleStep d) := by
  have counted : LaneReach c (modTime countSample d) := laneReach_quiet h
  have chosen : LaneReach c (madeChoice (modTime countSample d)) := laneReach_quiet h
  obtain ⟨-, -, e⟩ | ⟨-, -, e⟩ | ⟨-, -, e⟩ | ⟨-, -, e⟩ | ⟨-, -, e⟩ := sampleStep_cases d
  all_goals rw [e]
  · exact counted
  · exact laneReach_tickWork counted
  · exact laneReach_expireBoundary counted
  · exact laneReach_tickWork (laneReach_expireBoundary chosen)
  · exact laneReach_expireBoundary (laneReach_tickWork chosen)

theorem laneReach_runClock (n : Nat) (h : LaneReach c d) : LaneReach c (runClock n d) :=
  runClock_keeps (P := LaneReach c) (fun _ => laneReach_sampleStep) n h

theorem laneReach_expiryIn (st : TimebaseState) (h : LaneReach c d) : LaneReach c (expiryIn st d) := by
  unfold expiryIn
  split
  · exact laneReach_runClock _ h
  · exact h

theorem laneReach_setRate (rate : Byte) (h : LaneReach c d) : LaneReach c (setRate rate d).1 := by
  unfold setRate
  repeat' split
  all_goals exact laneReach_quiet h

/-! ## Return messages (section 8.3) -/

theorem laneReach_takeBody (b : ReturnBody) (h : LaneReach c d) : LaneReach c (takeBody b d) := by
  have capacity : ∀ v, LaneReach c (takeCapacity v d) := fun v => laneReach_setAttention _ (laneReach_quiet h)
  have stray : LaneReach c (countStray d) := laneReach_quiet h
  cases b with
  | hailAnswer v =>
    cases state : d.link.state
    all_goals simp only [takeBody, state]
    case hailing => exact laneReach_openLink v h
    all_goals exact stray
  | ack ns =>
    cases state : d.link.state
    all_goals simp only [takeBody, state]
    case down => exact stray
    all_goals exact laneReach_ackFrames ns h
  | capacity v =>
    cases state : d.link.state
    all_goals simp only [takeBody, state]
    case down => exact stray
    all_goals exact capacity v

theorem laneReach_heard (h : LaneReach c d) : LaneReach c (heard d) := by
  unfold heard
  split
  case h_3 =>
    have entered : LaneReach c (enterLink .up [] d) := laneReach_enterLink _ _ h
    exact laneReach_quiet entered
  all_goals exact laneReach_quiet h

theorem laneReach_returnMessage (bytes : List Byte) (h : LaneReach c d) : LaneReach c (returnMessage bytes d) := by
  unfold returnMessage
  split
  · exact laneReach_quiet h
  · exact laneReach_quiet h
  · split
    · exact laneReach_heard (laneReach_takeBody _ (laneReach_quiet h))
    · exact laneReach_quiet h

/-! ## Part modes and status (chapter 12) -/

theorem laneReach_goRun (h : LaneReach c d) : LaneReach c (goRun d).1 := by
  unfold goRun
  split
  all_goals exact laneReach_quiet h

theorem laneReach_standBy (h : LaneReach c d) : LaneReach c (standBy d).1 := by
  unfold standBy
  split
  all_goals exact laneReach_quiet h

theorem laneReach_unitReset (h : LaneReach c d) : LaneReach c (unitReset d) :=
  laneReach_offerTallyOff (h.tail .reset)

theorem laneReach_resetUnit (h : LaneReach c d) : LaneReach c (resetUnit d).1 := by
  unfold resetUnit
  dsimp only
  exact laneReach_unitReset h

theorem laneReach_readStatus (block index : Byte) (h : LaneReach c d) : LaneReach c (readStatus block index d).1 := by
  unfold readStatus
  split
  all_goals exact h

end Sys2Proof.VanFabric

end


section
/-! The commands at the output lane: a chain of moves, or such a chain, a place held, the command's work, and its
answer. -/

namespace Sys2Proof.VanFabric

open Sys2Proof.Machine Sys2Proof.Safety Sys2Proof.Claims

/-- What a command can do to the output lane: a chain of moves; or, with room in the report queue, the holding of a
place, a chain of moves for the command's work, and the placing of its answer (R175 to R177). -/
inductive LaneCommand (c : Chip) : Chip → Prop where
  | moves {d : Chip} (m : LaneReach c d) : LaneCommand c d
  | answered {b d : Chip} (tag : Byte) (name : List Byte) (r : Reply) (before : LaneReach c b)
      (room : b.port.report.length < 16) (work : LaneReach (holdPlace b) d) : LaneCommand c (placeAnswer tag name r d)

theorem LaneCommand.wiresOk {c d : Chip} (m : LaneCommand c d) (h : WiresOk c) : WiresOk d := by
  cases m with
  | moves m => exact m.wiresOk h
  | answered tag name r before _ work => exact wiresOk_placeAnswer tag name r (work.wiresOk (before.wiresOk h))

theorem LaneCommand.sourcesOk {c d : Chip} (m : LaneCommand c d) (h : SourcesOk c) : SourcesOk d := by
  cases m with
  | moves m => exact m.sourcesOk h
  | answered tag name r before _ work => exact sourcesOk_placeAnswer tag name r (work.sourcesOk (before.sourcesOk h))

/-- R175: a place held in a report queue with fewer than 16 entries. -/
theorem outOk_holdPlace {c : Chip} (h : OutOk c) (room : c.port.report.length < 16) : OutOk (holdPlace c) := by
  obtain ⟨count, idle, hold, report, nodup, -⟩ := h
  exact ⟨count, idle, hold, report, nodup, room⟩

theorem LaneCommand.outOk {c d : Chip} (m : LaneCommand c d) (h : OutOk c) (free : NoPlaceHeld c) :
    OutOk d ∧ NoPlaceHeld d := by
  cases m with
  | moves m => exact ⟨m.outOk h, m.held.trans free⟩
  | answered tag name r before room work =>
    have worked := work.outOk (outOk_holdPlace (before.outOk h) room)
    exact ⟨outOk_placeAnswer tag name r worked work.held, noPlaceHeld_placeAnswer _ _ _ _⟩

/-! ## Taking a command (R175, R176) -/

variable {c d : Chip}

theorem laneCommand_takeAddressed (tag : Byte) (name : List Byte) {work : Chip → Chip × Reply}
    (hw : ∀ {b d}, LaneReach b d → LaneReach b (work d).1) (h : LaneReach c d) :
    LaneCommand c (takeAddressed tag name work d) := by
  unfold takeAddressed
  split
  · exact .moves (laneReach_quiet h)
  · exact .answered tag name _ h (Nat.lt_of_not_le ‹_›) (hw (laneReach_refl _))

theorem laneCommand_takeCommand {tag : Byte} {name : CommandName} {work : Chip → Chip × Reply}
    (hw : ∀ {b d}, LaneReach b d → LaneReach b (work d).1) (h : LaneReach c d) :
    LaneCommand c (takeCommand tag name work d) := laneCommand_takeAddressed tag _ hw h

theorem laneCommand_takeGlobal {work : Chip → Chip} (hw : ∀ {b d}, LaneReach b d → LaneReach b (work d))
    (h : LaneReach c d) : LaneCommand c (takeGlobal work d) := .moves (hw (laneReach_quiet h))

theorem laneCommand_swapSteer (dest : Dest) (h : LaneReach c d) : LaneCommand c (swapSteer dest d) := by
  cases dest with
  | unit tag => exact laneCommand_takeCommand (fun h => laneReach_quiet h) h
  | all => exact laneCommand_takeGlobal (work := requestSwap) (fun h => laneReach_quiet h) h

/-- R101: a selection addressed to this unit, taken in range and refused otherwise. -/
theorem laneReach_ifInRange (inRange : Bool) {take : Chip → Chip} (quiet : ∀ d, SameLane d (take d))
    (h : LaneReach c d) : LaneReach c (if inRange then (take d, reply .done) else refuse .refusedRange d).1 := by
  cases inRange
  · exact h
  · exact laneReach_quiet h (quiet d)

/-- R101: a selection sent to ALL, taken in range and counted otherwise. -/
theorem laneReach_ifInRangeGlobal (inRange : Bool) {take : Chip → Chip} (quiet : ∀ d, SameLane d (take d))
    (h : LaneReach c d) : LaneReach c (if inRange then take d else countRefusedGlobal d) := by
  cases inRange
  · exact laneReach_quiet h
  · exact laneReach_quiet h (quiet d)

theorem laneCommand_preset (dest : Dest) (unit ctx : Byte) (h : LaneReach c d) :
    LaneCommand c (preset dest unit ctx d) := by
  have quiet : ∀ d, SameLane d (takePreset unit ctx d) := fun _ => ⟨rfl, rfl, rfl, rfl, rfl, rfl, rfl⟩
  cases dest with
  | unit tag => exact laneCommand_takeCommand (laneReach_ifInRange _ quiet) h
  | all => exact .moves (laneReach_ifInRangeGlobal _ quiet (laneReach_quiet h))

theorem laneCommand_cutTo (dest : Dest) (unit ctx : Byte) (h : LaneReach c d) :
    LaneCommand c (cutTo dest unit ctx d) := by
  have quiet : ∀ d, SameLane d (takeCut unit ctx d) := fun _ => ⟨rfl, rfl, rfl, rfl, rfl, rfl, rfl⟩
  cases dest with
  | unit tag => exact laneCommand_takeCommand (laneReach_ifInRange _ quiet) h
  | all => exact .moves (laneReach_ifInRangeGlobal _ quiet (laneReach_quiet h))

theorem laneCommand_take (dest : Dest) (h : LaneReach c d) : LaneCommand c (take dest d) := by
  cases dest with
  | unit tag => exact laneCommand_takeCommand (fun h => laneReach_quiet h) h
  | all => exact laneCommand_takeGlobal (work := takeTake) (fun h => laneReach_quiet h) h

/-- R176: every command of the catalogue; an event is no command. -/
theorem laneCommand_runCommand (i : Instr) (h : LaneReach c d) : LaneCommand c (runCommand i d) := by
  cases i with
  | setRate t r => exact laneCommand_takeCommand (laneReach_setRate r) h
  | loadSteer t f n es => exact laneCommand_takeCommand (laneReach_loadSteer f n es) h
  | readSteer t b f n => exact laneCommand_takeCommand (laneReach_readSteer b f n) h
  | steerDefault t a => exact laneCommand_takeCommand (laneReach_steerDefault a) h
  | swapSteer dest => exact laneCommand_swapSteer dest h
  | startContext t k => exact laneCommand_takeCommand (laneReach_startContext k) h
  | stopContext t k => exact laneCommand_takeCommand (laneReach_stopContext k) h
  | setContext t k w m bo bi sl mk la mode =>
    exact laneCommand_takeCommand (laneReach_setContext k w m bo bi sl mk la mode) h
  | setReservoir t k dp lo hi st => exact laneCommand_takeCommand (laneReach_setReservoir k dp lo hi st) h
  | loadCurve t k es => exact laneCommand_takeCommand (laneReach_loadCurve k es) h
  | setBudget t r => exact laneCommand_takeCommand (fun h => laneReach_quiet h) h
  | loadGain t f n es => exact laneCommand_takeCommand (laneReach_loadGain f n es) h
  | readGain t f n => exact laneCommand_takeCommand (laneReach_readGain f n) h
  | setFader t i x r => exact laneCommand_takeCommand (laneReach_setFader i x r) h
  | setAfv t i l on off => exact laneCommand_takeCommand (laneReach_setAfv i l on off) h
  | setSends t i a b x y => exact laneCommand_takeCommand (laneReach_setSends i a b x y) h
  | setBus t b m mute s => exact laneCommand_takeCommand (laneReach_setBus b m mute s) h
  | setAudioSend t v => exact laneCommand_takeCommand (laneReach_setAudioSend v) h
  | readMeters t => exact laneCommand_takeCommand (fun h => laneReach_quiet h) h
  | preset dest u k => exact laneCommand_preset dest u k h
  | take dest => exact laneCommand_take dest h
  | cutTo dest u k => exact laneCommand_cutTo dest u k h
  | setTally t k s => exact laneCommand_takeCommand (laneReach_setTally k s) h
  | linkOpen t => exact laneCommand_takeCommand laneReach_linkOpen h
  | handover t => exact laneCommand_takeCommand laneReach_handover h
  | linkClose t => exact laneCommand_takeCommand laneReach_linkClose h
  | setLink t v a r s k => exact laneCommand_takeCommand (fun h => laneReach_quiet h) h
  | readLog t => exact laneCommand_takeCommand laneReach_readLog h
  | markIn t k text rating => exact laneCommand_takeCommand (laneReach_markIn k text rating) h
  | markOut t => exact laneCommand_takeCommand laneReach_markOut h
  | setClipMode t a cs => exact laneCommand_takeCommand (laneReach_setClipMode a cs) h
  | label t i text rating => exact laneCommand_takeCommand (laneReach_label i text rating) h
  | sendLabel t i => exact laneCommand_takeCommand (laneReach_sendLabel i) h
  | voidClip t i => exact laneCommand_takeCommand (laneReach_voidClip i) h
  | setFence t n => exact laneCommand_takeCommand (laneReach_setFence n) h
  | clearClips t => exact laneCommand_takeCommand laneReach_clearClips h
  | readClip t i => exact laneCommand_takeCommand (laneReach_readClip i) h
  | go t => exact laneCommand_takeCommand laneReach_goRun h
  | standby t => exact laneCommand_takeCommand laneReach_standBy h
  | resetUnit t => exact laneCommand_takeCommand laneReach_resetUnit h
  | readStatus t b i => exact laneCommand_takeCommand (laneReach_readStatus b i) h
  | setNotices t m => exact laneCommand_takeCommand (fun h => laneReach_quiet h) h
  | ackAttention t m => exact laneCommand_takeCommand (fun h => laneReach_quiet h) h
  | _ => exact .moves h

/-- A command's row does to the part what the command handed to its block does. -/
theorem exec_command {i : Instr} (h : encodeParams i ≠ none) (s : State) :
    exec i s = .next { s with chip := runCommand i s.chip } := by
  cases i with
  | powerOnReset | cellArrival | referenceLoss | freeRunBoundary | blockTick | audioInputLost | pictureDeadline
  | ackWindowExpiry | hailAnswerWindowExpiry | hailRetryGapExpiry | silenceExpiry | drainLimitExpiry | codingCompletion
  | returnMessageArrival | foSendCompletion => exact absurd rfl h
  | _ => rfl

/-! ## The cells of the lane receivers (R2 to R6, R175) -/

theorem laneCommand_controlCell (unit : BitVec 4) (payload : List Byte) (h : LaneReach c d) :
    LaneCommand c (controlCell unit payload d) := by
  unfold controlCell
  split
  · exact .moves (laneReach_quiet h)
  split
  · unfold addressedCell
    split
    · exact laneCommand_takeAddressed _ _ (fun h => h) h
    · split
      · exact laneCommand_takeAddressed _ _ (fun h => h) h
      · exact laneCommand_runCommand _ h
  split
  · unfold globalCell
    split
    · exact laneCommand_runCommand _ h
    · exact .moves (laneReach_quiet h)
  · exact .moves (laneReach_quiet h)

theorem laneCommand_laneBytes (n : LaneNo) (bytes : List Byte) (c : Chip) : LaneCommand c (laneBytes n bytes c) := by
  have counted : ∀ f, LaneReach c (modLane n f c) := fun f => laneReach_quiet (laneReach_refl c)
  unfold laneBytes
  split
  · exact .moves (counted _)
  unfold receiveCell
  split
  · exact .moves (counted _)
  · exact .moves (counted _)
  · exact laneCommand_controlCell _ _ (counted _)
  · exact .moves (laneReach_referenceCell _ (counted _))
  · exact .moves (laneReach_steerCell _ _ _ (counted _))

/-! ## A step -/

theorem laneCommand_exec {i : Instr} {s t : State} (h : exec i s = .next t) (hi : encodeParams i ≠ none) :
    LaneCommand s.chip t.chip := by
  rw [exec_command hi] at h
  cases h
  exact laneCommand_runCommand i (laneReach_refl _)

/-- Everything a command or event can do to the output lane: a command's chain of moves and its answer, a send
completion of FO, or a power-on reset. -/
theorem exec_lane {i : Instr} {s t : State} (h : exec i s = .next t) :
    LaneCommand s.chip t.chip ∨ t.chip = foSent s.chip ∨ ∃ straps, t.chip = powerOnPart straps s.chip := by
  have start := laneReach_refl s.chip
  cases i with
  | powerOnReset straps => cases h; exact .inr (.inr ⟨straps, rfl⟩)
  | foSendCompletion => cases h; exact .inr (.inl rfl)
  | cellArrival n bytes => cases h; exact .inl (laneCommand_laneBytes n bytes s.chip)
  | referenceLoss => cases h; exact .inl (.moves (laneReach_expiryIn .locked start))
  | freeRunBoundary => cases h; exact .inl (.moves (laneReach_expiryIn .freeRun start))
  | blockTick => cases h; exact .inl (.moves (laneReach_runClock _ start))
  | audioInputLost i => cases h; exact .inl (.moves (laneReach_audioInputLost i start))
  | pictureDeadline k n => cases h; exact .inl (.moves (laneReach_deadlinePasses k n start))
  | ackWindowExpiry n => cases h; exact .inl (.moves (laneReach_ackExpiry n start))
  | hailAnswerWindowExpiry => cases h; exact .inl (.moves (laneReach_windowExpiry start))
  | hailRetryGapExpiry => cases h; exact .inl (.moves (laneReach_gapExpiry start))
  | silenceExpiry => cases h; exact .inl (.moves (laneReach_silenceRunsOut start))
  | drainLimitExpiry => cases h; exact .inl (.moves (laneReach_drainExpiry start))
  | codingCompletion coded => cases h; exact .inl (.moves (laneReach_codingDone coded start))
  | returnMessageArrival bytes => cases h; exact .inl (.moves (laneReach_returnMessage bytes start))
  | _ => exact .inl (laneCommand_exec h (Option.some_ne_none _))

/-- A step is a command's, or one sample's. -/
theorem step_lane {s t : State} (h : step s = .next t) :
    LaneCommand s.chip t.chip ∨ t.chip = foSent s.chip ∨ ∃ straps, t.chip = powerOnPart straps s.chip := by
  obtain ⟨c, pending⟩ := s
  cases pending with
  | nil =>
    rw [step_idle] at h
    cases h
    exact .inl (.moves (laneReach_sampleStep (laneReach_refl c)))
  | cons i rest => exact exec_lane (s := ⟨c, rest⟩) h

/-! ## Power-on reset (R7) -/

theorem outOk_powerOnPart (straps : BitVec 4) (c : Chip) : OutOk (powerOnPart straps c) :=
  ⟨Nat.zero_le 32, fun _ => rfl, absurd rfl, absurd rfl, List.nodup_nil, Nat.zero_le 16⟩

/-- After it nothing waits and FO has no record. -/
theorem wiresOk_powerOnPart (straps : BitVec 4) (c : Chip) : WiresOk (powerOnPart straps c) :=
  ⟨⟨List.forall_mem_nil _, List.forall_mem_nil _, List.forall_mem_nil _⟩, List.forall_mem_nil _⟩

theorem sourcesOk_powerOnPart (straps : BitVec 4) (c : Chip) : SourcesOk (powerOnPart straps c) :=
  ⟨List.forall_mem_nil _, List.forall_mem_nil _, List.forall_mem_nil _⟩

/-- Settles O54: the invariants are kept by every move of the output lane, by an answer in its held place, by a send
completion and by power-on reset, and a step is one of these. -/
theorem stepsKeepTheOutputLane : Obligations.StepsKeepTheOutputLane := by
  unfold Obligations.StepsKeepTheOutputLane
  intro s t h
  obtain m | e | ⟨straps, e⟩ := step_lane h
  · exact ⟨m.outOk, fun fit sent => m.wiresOk ⟨fit, sent⟩, m.sourcesOk⟩
  · rw [e]
    exact ⟨fun ok free => ⟨outOk_foSent ok, (foSent_held _).trans free⟩, fun fit sent => wiresOk_foSent ⟨fit, sent⟩,
      sourcesOk_foSent⟩
  · rw [e]
    exact ⟨fun _ _ => ⟨outOk_powerOnPart straps _, rfl⟩, fun _ _ => wiresOk_powerOnPart straps _,
      fun _ => sourcesOk_powerOnPart straps _⟩

end Sys2Proof.VanFabric

end


section
/-! The lane receivers, power-on reset, and a send completion of FO. -/

namespace Sys2Proof.VanFabric

open Sys2Proof.Machine Sys2Proof.Safety Sys2Proof.Claims

/-! ## Kinds (R1, R186) -/

/-- R186: the eight kinds have codes of their own, and the other codes name none. -/
theorem kindOf_eq_some {b : BitVec 4} {k : CellKind} : kindOf b = some k ↔ b = kindCode k := by
  cases k <;> revert b <;> decide

theorem kindOf_eq_none {b : BitVec 4} : kindOf b = none ↔ b.toNat = 0 ∨ 9 ≤ b.toNat := by
  revert b; decide

theorem kind_eq_kindCode {b : BitVec 4} {k : CellKind} (h : b.toNat = (kindCode k).toNat) : b = kindCode k :=
  BitVec.eq_of_toNat_eq h

/-! ## The verdict of a lane receiver (R3 to R5) -/

theorem laneVerdict_of_kind {x : Cell} {k : CellKind} (h : x.kind = kindCode k) :
    laneVerdict x = routeOf k x.stream := by
  simp only [laneVerdict, kindOf_eq_some.mpr h]

theorem laneVerdict_no_kind {x : Cell} (h : x.kind.toNat = 0 ∨ 9 ≤ x.kind.toNat) : laneVerdict x = .malformed := by
  simp only [laneVerdict, kindOf_eq_none.mpr h]

/-- R4: before any test of the stream. -/
theorem laneVerdict_foreign {x : Cell} (h : 6 ≤ x.kind.toNat ∧ x.kind.toNat ≤ 8) : laneVerdict x = .foreign := by
  obtain ⟨lo, hi⟩ := h
  have : x.kind.toNat = 6 ∨ x.kind.toNat = 7 ∨ x.kind.toNat = 8 := by omega
  obtain h | h | h := this
  · exact laneVerdict_of_kind (k := .answer) (kind_eq_kindCode h)
  · exact laneVerdict_of_kind (k := .notice) (kind_eq_kindCode h)
  · exact laneVerdict_of_kind (k := .tally) (kind_eq_kindCode h)

theorem stream_eq_iff (s : Stream) {n : Nat} (h : n < 4096) : s = BitVec.ofNat 12 n ↔ s.toNat = n := by
  rw [← BitVec.toNat_inj, BitVec.toNat_ofNat, Nat.mod_eq_of_lt h]

/-- R5: VIDEO, AUDIO and DATA alike, by the two reserved streams. -/
theorem routeOf_steering {k : CellKind} (h : (kindCode k).toNat ≤ 3) (s : Stream) :
    routeOf k s = if s.toNat ≤ 1 then .malformed else .steering k := by
  have reserved : (s = 0#12 || s = 1#12 : Bool) = decide (s.toNat ≤ 1) := by
    rw [Bool.eq_iff_iff]
    simp only [Bool.or_eq_true, decide_eq_true_eq, stream_eq_iff s (n := 0) (by omega),
      stream_eq_iff s (n := 1) (by omega)]
    omega
  cases k
  case video | audio | data => simp only [routeOf, reserved, decide_eq_true_eq]
  all_goals exact absurd h (by decide)

/-- R2 to R6: a cell that passes the check is taken by the lane receiver. -/
theorem ends_cellArrival {bytes : List Byte} {x : Cell} (h : readCell bytes = some x) (n : LaneNo) (s : State)
    {d : Chip} (hd : receiveCell n x s.chip = d) : Ends (.cellArrival n bytes) s d := by
  show Host.Outcome.next { s with chip := laneBytes n bytes s.chip } = _
  simp only [laneBytes, h, hd]

/-- Settles O8: the verdict on a cell by its kind's code and its stream, and what follows from each verdict. -/
theorem laneReceiverSortsCells : Obligations.LaneReceiverSortsCells := by
  unfold Obligations.LaneReceiverSortsCells
  intro n bytes x s read malformed foreign accepted
  have isMalformed : laneVerdict x = .malformed → Ends (.cellArrival n bytes) s malformed := fun v =>
    ends_cellArrival read n s (by simp only [receiveCell, v]; rfl)
  have steers : ∀ k : CellKind, (kindCode k).toNat ≤ 3 → x.kind = kindCode k →
      laneVerdict x = if x.stream.toNat ≤ 1 then .malformed else .steering k := fun k video kind =>
    (laneVerdict_of_kind kind).trans (routeOf_steering video x.stream)
  have zero := stream_eq_iff x.stream (n := 0) (by omega)
  have one := stream_eq_iff x.stream (n := 1) (by omega)
  refine ⟨fun h => isMalformed (laneVerdict_no_kind h), fun h => ?_, fun h stream => ?_, fun h stream => ?_,
    fun h stream => ?_, fun h stream => ?_, fun ⟨lo, hi⟩ stream => ?_, fun k video kind stream => ?_⟩
  · exact ends_cellArrival read n s (by simp only [receiveCell, laneVerdict_foreign h]; rfl)
  · have v := laneVerdict_of_kind (k := .control) (kind_eq_kindCode h)
    rw [routeOf, if_pos (zero.mpr stream)] at v
    exact ends_cellArrival read n s (by simp only [receiveCell, v]; rfl)
  · have v := laneVerdict_of_kind (k := .control) (kind_eq_kindCode h)
    rw [routeOf, if_neg (mt zero.mp stream)] at v
    exact isMalformed v
  · have v := laneVerdict_of_kind (k := .reference) (kind_eq_kindCode h)
    rw [routeOf, if_pos (one.mpr stream)] at v
    exact ends_cellArrival read n s (by simp only [receiveCell, v]; rfl)
  · have v := laneVerdict_of_kind (k := .reference) (kind_eq_kindCode h)
    rw [routeOf, if_neg (mt one.mp stream)] at v
    exact isMalformed v
  · have codes : x.kind.toNat = 1 ∨ x.kind.toNat = 2 ∨ x.kind.toNat = 3 := by omega
    refine isMalformed ?_
    obtain h | h | h := codes
    · rw [steers .video (by decide) (kind_eq_kindCode h), if_pos stream]
    · rw [steers .audio (by decide) (kind_eq_kindCode h), if_pos stream]
    · rw [steers .data (by decide) (kind_eq_kindCode h), if_pos stream]
  · have v := steers k video kind
    rw [if_neg (by omega)] at v
    exact ends_cellArrival read n s (by simp only [receiveCell, v]; rfl)

/-! ## Power-on reset (R7) -/

/-- R7: the lowest-numbered strap tied high. -/
theorem unitOf_lowest : ∀ straps : BitVec 4, (straps = 0 ∧ unitOf straps = 0) ∨
    (straps.getLsbD (unitOf straps).val = true ∧
      ∀ j : Fin 4, j.val < (unitOf straps).val → straps.getLsbD j.val = false) := by
  decide

/-- Settles O13: the unit number is that of the lowest strap tied high, and the rest is the reset state's. -/
theorem powerOnFixesTheUnitNumber : Obligations.PowerOnFixesTheUnitNumber := by
  unfold Obligations.PowerOnFixesTheUnitNumber
  exact fun straps s => ⟨unitOf straps, unitOf_lowest straps, rfl⟩

/-! ## A send completion (R11) -/

/-- The held tally cell that joins the queue at a refill: the earliest, where the queue has room. -/
def refillHeld (c : Chip) : List OutCell := if outCount c.out < 32 then (c.out.hold.take 1).map (·.cell) else []

/-- The report that joins the queue at a refill: the oldest, where the queue has room and no tally cell is held. -/
def refillReport (c : Chip) : List OutCell :=
  if outCount c.out < 32 ∧ c.out.hold = [] then c.port.report.take 1 else []

/-- R11: what a refill moves, and from where. -/
theorem refillOut_eq (c : Chip) :
    refillOut c = { c with
      out := { c.out with queue := c.out.queue ++ refillHeld c ++ refillReport c,
                          hold := c.out.hold.drop (refillHeld c).length },
      port := { c.port with report := c.port.report.drop (refillReport c).length } } := by
  obtain ⟨full | ⟨noHold, noReport⟩, e⟩ | ⟨h, rest, room, held, e⟩ | ⟨x, rest, room, noHold, waiting, e⟩ :=
    refillOut_cases c
  · simp [e, refillHeld, refillReport, Nat.not_lt.mpr full]
  · have held : refillHeld c = [] := by simp [refillHeld, noHold]
    have report : refillReport c = [] := by simp [refillReport, noReport]
    simp [e, held, report]
  · simp [e, enqueued, refillHeld, refillReport, room, held]
  · simp [e, enqueued, withReports, refillHeld, refillReport, room, noHold, waiting]

theorem refillHeld_completed (t : TxCell) (c : Chip) : refillHeld (completed t c) =
    if decide (c.out.queue.length < 32) = true then (c.out.hold.take 1).map (·.cell) else [] := by
  rw [refillHeld, outCount_completed, completed_eq]
  simp only [decide_eq_true_eq]

theorem refillReport_completed (t : TxCell) (c : Chip) : refillReport (completed t c) =
    if (decide (c.out.queue.length < 32) && c.out.hold.isEmpty) = true then c.port.report.take 1 else [] := by
  rw [refillReport, outCount_completed, completed_eq]
  simp only [Bool.and_eq_true, decide_eq_true_eq, List.isEmpty_iff]

/-- The part after a completion and the refill, before the next transmission. -/
theorem refillOut_completed (t : TxCell) (c : Chip) :
    refillOut (completed t c) = { c with
      out := { c.out with
        tx := none, queue := c.out.queue ++ refillHeld (completed t c) ++ refillReport (completed t c),
        hold := c.out.hold.drop (refillHeld (completed t c)).length,
        auxSent := bumpIf (isAux t.cell.source) c.out.auxSent,
        tallySent := bumpIf (isTally t.cell.source) c.out.tallySent,
        reportsSent := bumpIf (isReport t.cell.source) c.out.reportsSent },
      port := { c.port with report := c.port.report.drop (refillReport (completed t c)).length } } := by
  rw [refillOut_eq]
  simp only [completed_eq]

/-- What the start of a transmission changes is read from the unit number, the counts and FO's record alone. -/
theorem begins_of_same {x : OutCell} {rest : List OutCell} {c e d : Chip} (h : Begins x rest e d)
    (unit : e.unit = c.unit) (fo : e.fo = c.fo) (seq : ∀ z, seqOf e.out z = seqOf c.out z) : Begins x rest c d := by
  have bytes : sentBytes e x = sentBytes c x := by rw [sentBytes, sentBytes, unit, seq]
  obtain ⟨tx, queue, hfo, own, others⟩ := h
  rw [bytes] at tx hfo
  rw [fo] at hfo
  exact ⟨tx, queue, hfo, by rw [own, seq], fun z hz => by rw [others z hz, seq]⟩

/-- `startFo` leaves the counters, the tally hold and the record of dropped cells as they are. -/
theorem startFo_eq (c : Chip) : startFo c = { c with
    out := { c.out with
      queue := (startFo c).out.queue, tx := (startFo c).out.tx, seqReport := (startFo c).out.seqReport,
      seqAuxA := (startFo c).out.seqAuxA, seqAuxB := (startFo c).out.seqAuxB, seqTally := (startFo c).out.seqTally },
    fo := (startFo c).fo } := by
  obtain ⟨e, -⟩ | ⟨before, x, after, -, -, -, -, e⟩ := startFo_cases c
  · rw [e]
  · rw [e, begun_eq]

/-- R11: everything about a send completion: what it counts, the refill, and the next transmission. -/
theorem foSent_spec {t : TxCell} {c : Chip} (sending : c.out.tx = some t) :
    let fromHold := refillHeld (completed t c)
    let fromReport := refillReport (completed t c)
    let q := c.out.queue ++ fromHold ++ fromReport
    let d := foSent c
    d = { c with
      out := { c.out with
        queue := d.out.queue, tx := d.out.tx, seqReport := d.out.seqReport, seqAuxA := d.out.seqAuxA,
        seqAuxB := d.out.seqAuxB, seqTally := d.out.seqTally, hold := c.out.hold.drop fromHold.length,
        auxSent := bumpIf (isAux t.cell.source) c.out.auxSent,
        tallySent := bumpIf (isTally t.cell.source) c.out.tallySent,
        reportsSent := bumpIf (isReport t.cell.source) c.out.reportsSent },
      fo := d.fo, port := { c.port with report := c.port.report.drop fromReport.length } } ∧
    (q = [] → d.out.tx = none ∧ d.out.queue = [] ∧ d.fo = c.fo ∧ ∀ z, seqOf d.out z = seqOf c.out z) ∧
    (q ≠ [] → ∃ before x after, q = before ++ x :: after ∧ Begins x (before ++ after) c d ∧
      (∀ y ∈ before, classRank x < classRank y) ∧ ∀ y ∈ after, classRank x ≤ classRank y) := by
  intro fromHold fromReport q d
  generalize he : refillOut (completed t c) = e
  have refilled : e = _ := he ▸ refillOut_completed t c
  have hd : d = startFo e := by rw [← he]; exact foSent_sending sending
  have queue : e.out.queue = q := by rw [refilled]
  have idle : e.out.tx = none := by rw [refilled]
  have sameSeq : ∀ z, seqOf e.out z = seqOf c.out z := fun z => by rw [refilled]; cases z <;> rfl
  have sameUnit : e.unit = c.unit := by rw [refilled]
  have sameFo : e.fo = c.fo := by rw [refilled]
  refine ⟨?_, fun nothing => ?_, fun something => ?_⟩
  · have frame := startFo_eq e
    rw [← hd, refilled] at frame
    exact frame
  · rw [hd, startFo_empty (queue.trans nothing)]
    exact ⟨idle, queue.trans nothing, sameFo, sameSeq⟩
  · obtain ⟨-, empty⟩ | ⟨before, x, after, -, hq, hbefore, hafter, begins⟩ := startFo_cases e
    · exact absurd (queue.symm.trans (empty idle)) something
    · rw [hd, begins]
      exact ⟨before, x, after, queue.symm.trans hq, begins_of_same (begun_begins ..) sameUnit sameFo sameSeq, hbefore,
        hafter⟩

/-- Settles O12: a completion is counted, the freed place is refilled, and the next cell begins. -/
theorem sendCompletionRefillsAndChooses : Obligations.SendCompletionRefillsAndChooses := by
  unfold Obligations.SendCompletionRefillsAndChooses
  rintro ⟨c, pending⟩
  refine ⟨fun idle => ?_, fun t sending => ?_⟩
  · show Host.Outcome.next _ = _
    rw [foSent_idle idle]
  · have spec := foSent_spec sending
    rw [refillHeld_completed, refillReport_completed] at spec
    obtain ⟨frame, empty, begins⟩ := spec
    have rest : foSent c = { c with out := (foSent c).out, fo := (foSent c).fo, port := _ } :=
      frame.trans (by rw [frame])
    exact ⟨foSent c, rfl, by rw [frame], by rw [frame], by rw [frame], by rw [frame], by rw [frame], by rw [frame],
      by rw [frame], by rw [frame], rest, empty, begins⟩

end Sys2Proof.VanFabric

end


section
/-! The part right after power-on reset. -/

namespace Sys2Proof.VanFabric

open Sys2Proof.Machine Sys2Proof.Safety Sys2Proof.Claims

/-! ## The reset values of the blocks' tables -/

@[simp] theorem powerOn_ctx (k : Ctx) : Chip.powerOn.ctx[k] = Context.powerOn := Vector.getElem_replicate _
@[simp] theorem powerOn_rate (k : Ctx) : Chip.powerOn.rate[k] = RateState.powerOn := Vector.getElem_replicate _
@[simp] theorem powerOn_videoQueue (k : Ctx) : Chip.powerOn.sched.videoQueue[k] = [] := Vector.getElem_replicate _
@[simp] theorem powerOn_allowance (k : Ctx) : Chip.powerOn.sched.allowance[k] = 0 := Vector.getElem_replicate _
@[simp] theorem powerOn_input (i : InputNo) : Chip.powerOn.mixer.inputs[i] = Input.powerOn := Vector.getElem_replicate _
@[simp] theorem powerOn_bus (b : BusNo) : Chip.powerOn.mixer.buses[b] = Bus.powerOn := Vector.getElem_replicate _
@[simp] theorem powerOn_clip (i : Fin 128) : Chip.powerOn.clips.table[i] = none := Vector.getElem_replicate _

theorem mem_replicate_toList {α : Type} {n : Nat} {a x : α} (h : x ∈ (Vector.replicate n a).toList) : x = a := by
  simp only [Vector.toList_replicate] at h
  exact List.eq_of_mem_replicate h

/-! ## Block by block -/

theorem timeOk_powerOn : TimeOk Chip.powerOn := ⟨by decide, by decide, by decide, by decide⟩

/-- R40: every entry reads as OFF with its operands 0. -/
theorem banksOk_powerOn : BanksOk Chip.powerOn := by
  have off : ∀ e ∈ (Vector.replicate 64 SteerEntry.off).toList, e.first.toNat ≤ 4095 ∧ e.second.toNat ≤ 4095 := by
    intro e he
    rw [mem_replicate_toList he]
    decide
  exact ⟨off, off⟩

theorem picturesOk_powerOn : PicturesOk Chip.powerOn := by
  refine ⟨fun k => ?_, fun k _ => ?_, ⟨fun o h => ?_, fun _ k => ?_⟩, fun k h => ?_⟩
  · unfold ContextOk
    rw [powerOn_ctx, powerOn_videoQueue]
    exact ⟨fun _ => ⟨rfl, rfl⟩, fun _ => rfl, nofun, Nat.zero_le 8, nofun, nofun⟩
  · rw [powerOn_rate]
    exact ⟨rfl, rfl, rfl⟩
  · cases h
  · rw [powerOn_ctx]
    rfl
  · cases h

theorem standbyOk_powerOn : StandbyOk Chip.powerOn := fun _ => ⟨rfl, fun k => by rw [powerOn_ctx]; rfl⟩

/-- R77: the reset curve, 8 + 2 × j, lies within 1 to 96. -/
theorem ratesOk_powerOn : RatesOk Chip.powerOn := by
  intro k
  rw [powerOn_rate]
  unfold RateOk
  decide

theorem budgetOk_powerOn : BudgetOk Chip.powerOn := ⟨by decide, by decide⟩

theorem inputOk_powerOn : InputOk Input.powerOn := by
  refine ⟨by decide, fun _ => ⟨rfl, rfl⟩, by decide, ?_, ?_, nofun⟩
  · unfold FaderOk
    decide
  · intro n hn
    rw [mem_replicate_toList hn]
    exact Nat.zero_le 255

theorem mixerOk_powerOn : MixerOk Chip.powerOn := by
  refine ⟨fun i => ?_, fun b => ?_, Nat.zero_le 3, rfl⟩
  · rw [powerOn_input]
    exact inputOk_powerOn
  · rw [powerOn_bus]
    decide

theorem linkOk_powerOn : LinkOk Chip.powerOn :=
  ⟨⟨rfl, rfl, rfl, rfl, rfl, rfl, rfl⟩, by unfold LinkRangesOk; decide, fun _ => ⟨rfl, rfl⟩⟩

theorem schedOk_powerOn : SchedOk Chip.powerOn := by
  refine ⟨Nat.zero_le 16, Nat.zero_le 16, Nat.zero_le 32, Nat.zero_le 48, fun k => ?_, List.forall_mem_nil _,
    List.forall_mem_nil _⟩
  rw [powerOn_allowance]
  exact Nat.zero_le _

/-- R174: every entry is FREE. -/
theorem clipsOk_powerOn : ClipsOk Chip.powerOn := by
  refine ⟨⟨Nat.zero_le 128, Nat.le_refl 0, fun i => ?_, Nat.zero_le 4, List.nodup_nil, List.forall_mem_nil _,
    fun i x h => ?_, fun i h => absurd h (Nat.not_lt_zero _)⟩, fun i x h => ?_⟩
  · rw [powerOn_clip]
    exact ⟨nofun, fun h => absurd h (Nat.not_lt_zero _)⟩
  · rw [powerOn_clip] at h
    cases h
  · rw [powerOn_clip] at h
    cases h

theorem labelsOk_powerOn : LabelsOk Chip.powerOn := by
  have free : ∀ (i : Fin 128) (st : ClipState),
      (∃ x, Chip.powerOn.clips.table[i] = some x ∧ x.state = st) → False := by
    rintro i st ⟨x, h, -⟩
    rw [powerOn_clip] at h
    cases h
  exact ⟨List.nodup_nil, fun i => ⟨fun h => absurd h List.not_mem_nil, fun h => (free i _ h).elim⟩, List.forall_mem_nil _,
    List.nodup_nil, fun i => ⟨fun h => absurd h List.not_mem_nil, fun h => (free i _ h).elim⟩, List.forall_mem_nil _⟩

/-- Settles O52, block by block; the output lane by what power-on reset leaves of it on any part. -/
theorem resetIsSafe : Obligations.ResetIsSafe := by
  unfold Obligations.ResetIsSafe
  have wires : WiresOk Chip.powerOn := wiresOk_powerOnPart 0 Chip.powerOn
  exact ⟨timeOk_powerOn, banksOk_powerOn, outOk_powerOnPart 0 Chip.powerOn, rfl, wires.1,
    sourcesOk_powerOnPart 0 Chip.powerOn, wires.2, picturesOk_powerOn, standbyOk_powerOn, ratesOk_powerOn, budgetOk_powerOn, mixerOk_powerOn,
    linkOk_powerOn, schedOk_powerOn, clipsOk_powerOn, labelsOk_powerOn⟩

end Sys2Proof.VanFabric

end


section
/-! The cells of a class that wait for FO, in the order in which they will be sent; tally cells; answers and notices. -/

namespace Sys2Proof.VanFabric

open Sys2Proof.Machine Sys2Proof.Safety Sys2Proof.Claims

/-! ## The cells of a class -/

/-- A test of sources that holds just of one of the three classes. -/
def IsClass (p : OutSource → Bool) : Prop := ∃ r, ∀ y : OutCell, p y.source = true ↔ classRank y = r

theorem isClass_isAux : IsClass isAux := ⟨0, fun y => by cases h : y.source <;> simp [classRank, isAux, isTally, h]⟩
theorem isClass_isTally : IsClass isTally := ⟨1, fun y => by cases h : y.source <;> simp [classRank, isAux, isTally, h]⟩
theorem isClass_isReport : IsClass isReport :=
  ⟨2, fun y => by cases h : y.source <;> simp [classRank, isAux, isTally, isReport, h]⟩

theorem queuedOf_idle {p : OutSource → Bool} {o : OutputLane} (h : o.tx = none) :
    queuedOf p o = o.queue.filter (fun x => p x.source) := by
  simp [queuedOf, h]

/-- R11: a start of transmission keeps the order within each class, since the cell it begins is its class's oldest. -/
theorem queuedOf_startFo {p : OutSource → Bool} (hp : IsClass p) (c : Chip) :
    queuedOf p (startFo c).out = queuedOf p c.out := by
  obtain ⟨e, -⟩ | ⟨before, x, after, idle, hq, hbefore, -, e⟩ := startFo_cases c
  · rw [e]
  · obtain ⟨r, hr⟩ := hp
    have begins : queuedOf p (begun x (before ++ after) c).out
        = (if p x.source then [x] else []) ++ (before ++ after).filter (fun y => p y.source) := by
      simp [queuedOf, begun]
    rw [e, begins, queuedOf_idle idle, hq]
    cases hx : p x.source with
    | false => simp [hx]
    | true =>
      have ahead : before.filter (fun y => p y.source) = [] := by
        rw [List.filter_eq_nil_iff]
        intro y hy same
        have := hbefore y hy
        rw [(hr x).mp hx, (hr y).mp same] at this
        exact Nat.lt_irrefl _ this
      simp [hx, ahead]

/-- A cell that joins the queue waits behind the others of its class, and the other classes' cells wait as they did. -/
theorem queuedOf_joinOut {p : OutSource → Bool} (hp : IsClass p) (x : OutCell) (c : Chip) :
    queuedOf p (joinOut x c).out = queuedOf p c.out ++ if p x.source then [x] else [] := by
  rw [joinOut_eq, queuedOf_startFo hp]
  cases h : p x.source <;> simp [queuedOf, enqueued, h]

/-- What `joinOut` leaves as it is. -/
theorem joinOut_frame_out (x : OutCell) (c : Chip) : joinOut x c = { c with
    out := { c.out with
      queue := (joinOut x c).out.queue, tx := (joinOut x c).out.tx, seqReport := (joinOut x c).out.seqReport,
      seqAuxA := (joinOut x c).out.seqAuxA, seqAuxB := (joinOut x c).out.seqAuxB,
      seqTally := (joinOut x c).out.seqTally },
    fo := (joinOut x c).fo } := startFo_eq (enqueued x c)

/-! ## Tally cells (R9, R108, R109) -/

theorem offerTally_room_tally {k : Ctx} {x : OutCell} {c : Chip} (hx : isTally x.source = true)
    (room : outCount c.out < 32) : queuedOf isTally (offerTally k x c).out = queuedOf isTally c.out ++ [x] := by
  rw [offerTally_room k x room, queuedOf_joinOut isClass_isTally, hx, if_pos rfl]

/-- The tally cells of a list of contexts, those without a stream left out. -/
def tallyCells (l : List Ctx) (s : Selector) (t : Timecode) : List OutCell :=
  (l.filter (fun k => s.tallyStream[k] ≠ 0#12)).map (fun k => ⟨.tally k, .tally, s.tallyStream[k],
    [BitVec.ofNat 8 k.val, if s.programme = some k then 0 else if s.preset = some k then 1 else 2] ++
      timecodeBytes t, 0⟩)

theorem tallySet_eq (s : Selector) (t : Timecode) : tallySet s t = tallyCells allCtx s t := rfl

/-- The number of offered cells is no part of a tally cell. -/
theorem tallyCells_offered (l : List Ctx) (s : Selector) (n : Counter) (t : Timecode) :
    tallyCells l { s with tallyOffered := n } t = tallyCells l s t := rfl

/-- The part with one more tally cell counted as offered. -/
def countOffered (c : Chip) : Chip := { c with sel := { c.sel with tallyOffered := bump c.sel.tallyOffered } }

theorem offerTallyOf_none {k : Ctx} {c : Chip} (h : c.sel.tallyStream[k] = 0#12) : offerTallyOf k c = c := if_pos h

theorem offerTallyOf_some {k : Ctx} {c : Chip} (h : c.sel.tallyStream[k] ≠ 0#12) :
    offerTallyOf k c = offerTally k (tallyCell k (tallyByte c.sel k) c) (countOffered c) := if_neg h

theorem offerTallyOf_sel (k : Ctx) (c : Chip) : ∃ n, (offerTallyOf k c).sel = { c.sel with tallyOffered := n } := by
  by_cases h : c.sel.tallyStream[k] = 0#12
  · rw [offerTallyOf_none h]
    exact ⟨_, rfl⟩
  · rw [offerTallyOf_some h, offerTally_frame]
    exact ⟨_, rfl⟩

/-- R108, R109: with room, a context's tally cell waits behind the others, and no context without a stream has one. -/
theorem offerTallyOf_room (k : Ctx) {c : Chip} (room : outCount c.out < 32) :
    queuedOf isTally (offerTallyOf k c).out = queuedOf isTally c.out ++ tallyCells [k] c.sel c.time.timecode ∧
      outCount (offerTallyOf k c).out ≤ outCount c.out + 1 := by
  have counted : outCount (countOffered c).out < 32 := room
  by_cases h : c.sel.tallyStream[k] = 0#12
  · rw [offerTallyOf_none h, tallyCells, List.filter_cons_of_neg (by simpa using h)]
    exact ⟨(List.append_nil _).symm, Nat.le_succ _⟩
  · rw [offerTallyOf_some h, offerTally_room_tally rfl counted, offerTally_room _ _ counted, joinOut_outCount,
      tallyCells, List.filter_cons_of_pos (by simpa using h)]
    exact ⟨rfl, Nat.le_refl _⟩

/-- R108: the contexts of a list offer their cells one behind the other, as long as there is room for all of them. -/
theorem offerTally_fold (l : List Ctx) {c : Chip} (room : outCount c.out + l.length ≤ 32) :
    queuedOf isTally (l.foldl (fun d k => offerTallyOf k d) c).out
      = queuedOf isTally c.out ++ tallyCells l c.sel c.time.timecode := by
  induction l generalizing c with
  | nil => exact (List.append_nil _).symm
  | cons k l ih =>
    rw [List.length_cons] at room
    obtain ⟨joined, count⟩ := offerTallyOf_room k (c := c) (by omega)
    obtain ⟨n, sel⟩ := offerTallyOf_sel k c
    rw [List.foldl_cons, ih (by omega), joined, sel, offerTallyOf_time, tallyCells_offered, List.append_assoc]
    congr 1
    rw [tallyCells, tallyCells, tallyCells, ← List.map_append, ← List.filter_append, List.singleton_append]

/-! ## SET_TALLY (R109) -/

theorem clampStream_eq (s : BitVec 16) : clampStream s = BitVec.ofNat 12 (min 4095 s.toNat) := by
  rw [clampStream, clampNat_eq_min_max _ _ _ (by omega), Nat.zero_max]

theorem clampStream_toNat (s : BitVec 16) : (clampStream s).toNat = min 4095 s.toNat := by
  rw [clampStream_eq, BitVec.toNat_ofNat, Nat.mod_eq_of_lt (by omega)]

theorem clampStream_eq_iff (s : BitVec 16) {n : Nat} (h : n < 4095) :
    clampStream s = BitVec.ofNat 12 n ↔ s.toNat = n := by
  rw [stream_eq_iff _ (by omega), clampStream_toNat]
  omega

/-- R109: the part with a context's tally stream stored. -/
def storeTally (k : Ctx) (t : Stream) (c : Chip) : Chip :=
  { c with sel := { c.sel with tallyStream := setAt c.sel.tallyStream k t } }

theorem setTally_refused {ctx : Byte} {stream : BitVec 16} (h : 5 < ctx.toNat ∨ stream.toNat = 1) (c : Chip) :
    setTally ctx stream c = refuse .refusedRange c := by
  unfold setTally
  cases named : ctxOf ctx with
  | none => rfl
  | some k =>
    have inRange := ctxOf_some.mp named
    have := k.isLt
    exact if_pos ((clampStream_eq_iff stream (n := 1) (by omega)).mpr (by omega))

theorem setTally_stores {ctx : Byte} {stream : BitVec 16} {k : Ctx} (hk : k.val = ctx.toNat) (h : stream.toNat ≠ 1)
    (c : Chip) : setTally ctx stream c =
      (offerTallyOf k (storeTally k (clampStream stream) c), reply (doneIf (4095 < stream.toNat))) := by
  unfold setTally
  rw [ctxOf_some.mpr hk.symm]
  exact if_neg (mt (clampStream_eq_iff stream (n := 1) (by omega)).mp h)

/-- Settles O36: SET_TALLY by its refusals and its effect; a set by induction over the contexts; one cell by the room in
the output queue. -/
theorem tallyStreamsAndSets : Obligations.TallyStreamsAndSets := by
  unfold Obligations.TallyStreamsAndSets
  intro tag ctx stream s state cell
  have ends : ∀ d, takeCommand tag .setTally (setTally ctx stream) s.chip = d →
      Ends (.setTally tag ctx stream) s d :=
    fun d h => by rw [← h]; rfl
  refine ⟨fun room refused => ?_, fun room k hk stream1 => ?_, fun c room => ?_,
    fun k x c hx => ⟨fun room => ?_, fun full => ?_⟩⟩
  · exact ends _ (takeCommand_refuse room (setTally_refused refused _))
  · intro t
    refine ends _ ?_
    rw [takeCommand_room room, setTally_stores hk stream1, clampStream_eq]
    have stored : (storeTally k t (holdPlace s.chip)).sel.tallyStream[k] = t := setAt_get_same _ _ _
    have noStream : t = 0#12 ↔ stream.toNat = 0 := by
      rw [← clampStream_eq_iff stream (by omega), clampStream_eq]
    dsimp only
    split
    · rename_i zero
      rw [offerTallyOf_none (stored.trans (noStream.mpr zero))]
      rfl
    · rename_i hasStream
      rw [offerTallyOf_some (fun e => hasStream (noStream.mp (stored.symm.trans e)))]
      have onIt : tallyCell k (tallyByte (storeTally k t (holdPlace s.chip)).sel k) (storeTally k t (holdPlace s.chip))
          = cell (holdPlace s.chip) t k := by
        rw [tallyCell, stored]
        rfl
      rw [onIt]
      rfl
  · exact offerTally_fold allCtx (by simpa [allCtx] using room)
  · refine ⟨offerTally_room_tally hx room, ?_, ?_⟩
    · rw [offerTally_room k x room, joinOut_hold]
    · rw [offerTally_room k x room, joinOut_frame_out]
  · rw [offerTally_full k x full]
    simp only [beq_eq_decide, decide_not]

end Sys2Proof.VanFabric

end


section
/-! Answers and notices (R10, R177, R179): the order in which they wait, and what placing one changes. -/

namespace Sys2Proof.VanFabric

open Sys2Proof.Machine Sys2Proof.Safety Sys2Proof.Claims

/-! ## A report placed (R10) -/

/-- R10: the oldest report moves to an output queue with room, and nothing else of the part changes but what its
transmission does. -/
theorem reportsMoved_joinOut {y : OutCell} {l : List OutCell} {c : Chip} (report : y.source = .report)
    (noHold : c.out.hold = []) :
    ReportsMoved c (joinOut y (withReports l c)) := by
  refine ⟨?_, ?_, ?_, fun busy => ?_, fun idle empty => ⟨fun _ => ?_, fun held => absurd noHold held⟩⟩
  · refine (joinOut_frame_out y (withReports l c)).trans ?_
    rw [joinOut_port]
    rfl
  · rw [queuedOf_joinOut isClass_isAux, report]
    exact List.append_nil _
  · rw [queuedOf_joinOut isClass_isTally, report]
    exact List.append_nil _
  · have same : joinOut y (withReports l c) = enqueued y (withReports l c) := startFo_busy busy
    rw [same]
    exact ⟨rfl, rfl, fun z => by cases z <;> rfl⟩
  · have single : (enqueued y (withReports l c)).out.queue = [y] := by
      show c.out.queue ++ [y] = [y]
      rw [empty, List.nil_append]
    have begins : joinOut y (withReports l c) = begun y [] (enqueued y (withReports l c)) := startFo_single idle single
    refine ⟨y, ?_, ?_⟩
    · rw [begins]
      simp [reportsWaiting, queuedOf, begun, isReport, report]
    · rw [begins]
      exact begins_of_same (begun_begins ..) rfl rfl (fun z => by cases z <;> rfl)

/-- R10: a report waits behind every report that waits, wherever those stand. -/
theorem placeReport_waits {x : OutCell} {c : Chip} (hx : x.source = .report)
    (reports : ∀ y ∈ c.port.report, y.source = .report) :
    reportsWaiting (placeReport x c) = reportsWaiting c ++ [x] ∧ ReportsMoved c (placeReport x c) := by
  obtain ⟨full, e⟩ | ⟨y, rest, -, noHold, waiting, e⟩ := placeReport_cases x c
  · rw [e]
    refine ⟨(List.append_assoc _ _ _).symm, rfl, rfl, rfl, fun _ => ⟨rfl, rfl, fun _ => rfl⟩,
      fun idle empty => ⟨fun noHold => ?_, fun _ => ⟨rfl, rfl⟩⟩⟩
    obtain full | held := full
    · rw [outCount_idle idle, empty] at full
      exact absurd full (by decide)
    · exact absurd noHold held
  · have report : y.source = .report := by
      have : y ∈ c.port.report ++ [x] := by
        rw [waiting]
        exact List.mem_cons_self
      obtain hy | hy := List.mem_append.mp this
      · exact reports y hy
      · rwa [List.mem_singleton.mp hy]
    rw [e]
    refine ⟨?_, reportsMoved_joinOut report noHold⟩
    rw [reportsWaiting, queuedOf_joinOut isClass_isReport, report, joinOut_port, reportsWaiting, List.append_assoc,
      List.append_assoc, waiting]
    rfl

/-! ## Answers (R177, R187) -/

/-- R187: the layout, where it fits a cell. -/
theorem answerPayload_layout (tag : Byte) (name data : List Byte) (code : ResultCode) (attention : BitVec 16)
    (fits : 5 + name.length + data.length ≤ 240) :
    answerPayload tag name ⟨code, data⟩ attention = [tag, BitVec.ofNat 8 name.length] ++ name ++ [resultByte code]
      ++ be16 attention ++ (if code = .done ∨ code = .doneClamped then data else []) := by
  have carries : carriesData code = true ↔ code = .done ∨ code = .doneClamped := by cases code <;> decide
  have carried : (if carriesData code = true then data else []).length ≤ data.length := by split <;> simp
  unfold answerPayload
  dsimp only
  rw [if_pos]
  · simp only [carries]
    rfl
  · simp only [List.length_append, List.length_cons, List.length_nil, be16_length]
    omega

/-! ## Attention (R179) -/

theorem attMask_bit {as : List AttClass} {i : Nat} :
    (attMask as).getLsbD i = true ↔ ∃ a ∈ as, attBit a = i := by
  induction as with
  | nil => simp [attMask]
  | cons b rest ih =>
    have one : (1#16 <<< attBit b).getLsbD i = true ↔ attBit b = i := by
      have := attBit_lt b
      simp only [BitVec.getLsbD_shiftLeft, BitVec.getLsbD_one, Bool.and_eq_true, decide_eq_true_eq, Bool.not_eq_true',
        decide_eq_false_iff_not]
      omega
    simp only [attMask, BitVec.getLsbD_or, Bool.or_eq_true, one, ih, List.mem_cons, exists_eq_or_imp]

/-- R179: a notice is due where a class goes from clear to set with its enable set. -/
theorem notice_due_iff (as : List AttClass) (attention enables : BitVec 16) :
    (attMask as &&& ~~~attention) &&& enables ≠ 0#16 ↔
      ∃ a ∈ as, attHas attention a = false ∧ attHas enables a = true := by
  constructor
  · intro due
    by_contra noneDue
    refine due (BitVec.eq_of_getLsbD_eq fun i hi =>
      (Bool.eq_false_iff.mpr fun set => noneDue ?_).trans BitVec.getLsbD_zero.symm)
    simp only [BitVec.getLsbD_and, BitVec.getLsbD_not, hi, decide_true, Bool.true_and, Bool.and_eq_true,
      Bool.not_eq_true'] at set
    obtain ⟨⟨mask, clear⟩, enabled⟩ := set
    obtain ⟨a, ha, rfl⟩ := attMask_bit.mp mask
    exact ⟨a, ha, clear, enabled⟩
  · rintro ⟨a, ha, clear, enabled⟩ zero
    have bit := congrArg (fun z => z.getLsbD (attBit a)) zero
    have lt : attBit a < 16 := Nat.lt_succ_of_lt (attBit_lt a)
    have mask : (attMask as).getLsbD (attBit a) = true := attMask_bit.mpr ⟨a, ha, rfl⟩
    unfold attHas at clear enabled
    simp only [BitVec.getLsbD_and, BitVec.getLsbD_not, BitVec.getLsbD_zero, lt, mask, clear, enabled, decide_true,
      Bool.not_false, Bool.and_self, reduceCtorEq] at bit

/-- The part with classes set in its attention set. -/
def raise (as : List AttClass) (c : Chip) : Chip :=
  { c with port := { c.port with attention := c.port.attention ||| attMask as } }

theorem setAttention_quiet {as : List AttClass} {c : Chip}
    (h : ¬∃ a ∈ as, attHas c.port.attention a = false ∧ attHas c.port.enables a = true) :
    setAttention as c = raise as c :=
  if_pos (not_ne_iff.mp (mt (notice_due_iff as _ _).mp h))

theorem setAttention_due {as : List AttClass} {c : Chip}
    (h : ∃ a ∈ as, attHas c.port.attention a = false ∧ attHas c.port.enables a = true) :
    setAttention as c = queueNotice (raise as c) :=
  if_neg ((notice_due_iff as _ _).mpr h)

/-- Settles O4: the answer and the notice are reports placed by the one rule; a notice is due by the bits of the
attention set. -/
theorem answersAndNoticesWaitInOrder : Obligations.AnswersAndNoticesWaitInOrder := by
  unfold Obligations.AnswersAndNoticesWaitInOrder
  refine ⟨fun tag name code data c fits sources => ?_, fun as c sources => ?_⟩
  · intro d layout
    obtain ⟨reports, -, -⟩ := sources
    have placed : d = placeReport ⟨.report, .answer, 0, layout, 0⟩
        { c with port := { c.port with held := false, answered := bump c.port.answered } } := by
      have cell : answerCell tag name ⟨code, data⟩ c.port.attention = ⟨.report, .answer, 0, layout, 0⟩ := by
        rw [answerCell, answerPayload_layout tag name data code c.port.attention fits]
      rw [← cell]
      rfl
    rw [placed]
    exact placeReport_waits rfl fun y hy => (reports y hy).1
  · intro d raised fresh taken
    obtain ⟨reports, -, -⟩ := sources
    refine ⟨fun a => ?_, fun h => setAttention_quiet h, fun due room => ?_, fun due full => ?_⟩
    · rw [setAttention_attention]
      simp only [attHas, BitVec.getLsbD_or, Bool.or_eq_true]
      exact or_congr_right (attHas_attMask as a)
    · obtain ⟨full, -⟩ | ⟨-, e⟩ := queueNotice_cases (raise as c)
      · exact absurd room (Nat.not_lt.mpr full)
      · rw [show d = _ from (setAttention_due due).trans e]
        exact placeReport_waits rfl fun y hy => (reports y hy).1
    · obtain ⟨-, e⟩ | ⟨room, -⟩ := queueNotice_cases (raise as c)
      · exact (setAttention_due due).trans e
      · exact absurd room (Nat.not_lt.mpr full)

end Sys2Proof.VanFabric

end


section
/-! What keeps the rate states, the shares of a period's bytes, and the mixer's inputs within their conditions. -/

namespace Sys2Proof.Clockwork

open Sys2Proof.Machine Sys2Proof.Safety Sys2Proof.Claims

/-! ## Tables -/

theorem forall_modAt {α : Type} {n : Nat} {P : α → Prop} {v : Vector α n} {f : α → α} {k : Fin n}
    (h : ∀ j : Fin n, P v[j]) (hf : P v[k] → P (f v[k])) (j : Fin n) : P (modAt v k f)[j] := by
  rw [modAt_get]
  split
  · subst j; exact hf (h k)
  · exact h j

theorem forall_mapAll {α : Type} {n : Nat} {P : α → Prop} {v : Vector α n} {f : α → α}
    (h : ∀ j : Fin n, P v[j]) (hf : ∀ x, P x → P (f x)) (j : Fin n) : P (mapAll f v)[j] := by
  rw [mapAll_get]
  exact hf _ (h j)

theorem forall_tabulate {α : Type} {n : Nat} {P : α → Prop} {f : Fin n → α} (h : ∀ j, P (f j)) (j : Fin n) :
    P (tabulate n f)[j] := by
  rw [tabulate_get]
  exact h j

/-! ## Rate states (R65 to R74) -/

/-- A rate state keeps its condition where its fill is at most its reservoir, its index lies between q_min and q_max,
and its settings are as they were. -/
theorem rateOk_of_same_settings {r r' : RateState} (h : RateOk r) (fill : r'.fill ≤ r'.size)
    (low : r'.shape.qMin ≤ r'.q) (high : r'.q ≤ r'.shape.qMax) (shape : r'.shape = r.shape := by rfl)
    (curve : r'.curve = r.curve := by rfl) (settings : r'.settings = r.settings := by rfl) : RateOk r' := by
  obtain ⟨-, qMin, -, -, rest⟩ := h
  rw [← shape, ← curve, ← settings] at rest
  exact ⟨fill, shape ▸ qMin, low, high, rest⟩

theorem rateOk_start {r : RateState} (h : RateOk r) :
    r.shape.qMin ≤ r.shape.qStart ∧ r.shape.qStart ≤ r.shape.qMax := by
  obtain ⟨-, -, -, -, -, low, high, -⟩ := h
  exact ⟨low, high⟩

theorem rateOk_index {r : RateState} (h : RateOk r) : r.shape.qMin ≤ r.q ∧ r.q ≤ r.shape.qMax := by
  obtain ⟨-, -, low, high, -⟩ := h
  exact ⟨low, high⟩

/-- R43, R45, R77: an empty fill with the index at q_start. -/
theorem rateOk_emptied {r : RateState} (h : RateOk r) (target size : Nat) :
    RateOk { r with target := target, size := size, fill := 0, q := r.shape.qStart } :=
  rateOk_of_same_settings h (Nat.zero_le _) (rateOk_start h).1 (rateOk_start h).2

/-- R65. -/
theorem rateOk_grantTarget (target : Nat) {r : RateState} (h : RateOk r) : RateOk (grantTarget target r) :=
  rateOk_of_same_settings h (Nat.min_le_right ..) (rateOk_index h).1 (rateOk_index h).2

/-- R67: the fill after a judgement is at most the reservoir. -/
theorem fillAfter_judge_le {r : RateState} (h : RateOk r) (e queued : Nat) :
    fillAfter r e (judge r e queued) ≤ r.size := by
  obtain ⟨fill, -⟩ := h
  unfold judge
  split
  · simp only [fillAfter]; omega
  · split <;> simp only [fillAfter] <;> omega

theorem clampInt_mem {x lo hi : Int} (h : lo ≤ hi) : lo ≤ clampInt x lo hi ∧ clampInt x lo hi ≤ hi := by
  unfold clampInt
  split
  · omega
  · split <;> omega

/-- A step from q toward t of at most the slew ends between the two. -/
theorem slewed_between (q t slew : Int) (hs : 0 ≤ slew) :
    min q t ≤ q + clampInt (t - q) (-slew) slew ∧ q + clampInt (t - q) (-slew) slew ≤ max q t := by
  unfold clampInt
  split
  · omega
  · split <;> omega

/-- R68. -/
theorem qAfterShed_mem {r : RateState} (h : r.shape.qMin ≤ r.q ∧ r.q ≤ r.shape.qMax) :
    r.shape.qMin ≤ qAfterShed r ∧ qAfterShed r ≤ r.shape.qMax := by
  unfold qAfterShed
  omega

/-- R70. -/
theorem qAfterAccept_mem {r : RateState} (h : r.shape.qMin ≤ r.q ∧ r.q ≤ r.shape.qMax) (programme : Bool) :
    r.shape.qMin ≤ qAfterAccept r programme ∧ qAfterAccept r programme ≤ r.shape.qMax := by
  unfold qAfterAccept
  extract_lets biased t
  have target : (r.shape.qMin : Int) ≤ t ∧ t ≤ r.shape.qMax := clampInt_mem (by omega)
  have step := slewed_between r.q t r.settings.slew (by omega)
  omega

@[simp] theorem countVerdict_fill (v : Verdict) (r : RateState) : (countVerdict v r).fill = r.fill := by cases v <;> rfl
@[simp] theorem countVerdict_size (v : Verdict) (r : RateState) : (countVerdict v r).size = r.size := by cases v <;> rfl
@[simp] theorem countVerdict_q (v : Verdict) (r : RateState) : (countVerdict v r).q = r.q := by cases v <;> rfl
@[simp] theorem countVerdict_shape (v : Verdict) (r : RateState) : (countVerdict v r).shape = r.shape := by
  cases v <;> rfl
@[simp] theorem countVerdict_curve (v : Verdict) (r : RateState) : (countVerdict v r).curve = r.curve := by
  cases v <;> rfl
@[simp] theorem countVerdict_settings (v : Verdict) (r : RateState) : (countVerdict v r).settings = r.settings := by
  cases v <;> rfl

/-- R67 to R70. -/
theorem rateOk_rateStep {r : RateState} (h : RateOk r) (e queued : Nat) (programme : Bool) :
    RateOk (rateStep r e (judge r e queued) programme) := by
  have fill := fillAfter_judge_le h e queued
  generalize judge r e queued = v at fill ⊢
  have judged : RateOk (countVerdict v { r with fill := fillAfter r e v }) :=
    rateOk_of_same_settings h (by simpa using fill) (by simpa using (rateOk_index h).1)
      (by simpa using (rateOk_index h).2) (by simp) (by simp) (by simp)
  have shed := qAfterShed_mem (rateOk_index judged)
  have accepted := qAfterAccept_mem (rateOk_index judged) programme
  cases v
  case accepted => exact rateOk_of_same_settings judged judged.1 accepted.1 accepted.2
  all_goals exact rateOk_of_same_settings judged judged.1 shed.1 shed.2

/-- R72: the first group of settings, each value brought into its range. -/
theorem rateOk_setSettings {r : RateState} (h : RateOk r) (weight minimum boost bias slew latency : Nat) (marker : Byte)
    (mode : LogMode) : RateOk { r with settings :=
      { weight := clampNat weight 1 16, minimum := clampNat minimum 0 1000000, boost := clampNat boost 1 4,
        bias := clampNat bias 0 15, slew := clampNat slew 1 16, marker := marker,
        latency := clampNat latency 40 2000, logMode := mode } } := by
  obtain ⟨fill, qMin, low, high, qMax, start, start', depth, depth', curve, -⟩ := h
  have w := clampNat_le (x := weight) (show 1 ≤ 16 by omega)
  have m := clampNat_le (x := minimum) (show 0 ≤ 1000000 by omega)
  have bo := clampNat_le (x := boost) (show 1 ≤ 4 by omega)
  have bi := clampNat_le (x := bias) (show 0 ≤ 15 by omega)
  have sl := clampNat_le (x := slew) (show 1 ≤ 16 by omega)
  have la := clampNat_le (x := latency) (show 40 ≤ 2000 by omega)
  exact ⟨fill, qMin, low, high, qMax, start, start', depth, depth', curve, w.1, w.2, m.2, bo.1, bo.2, bi.2, sl.1, sl.2,
    la.1, la.2⟩

/-- R73: the second group of settings, with the index at q_start. -/
theorem rateOk_setShape {r : RateState} (h : RateOk r) (depth qMin qMax qStart : Nat)
    (order : clampNat qMin 1 96 ≤ clampNat qMax 1 96) :
    RateOk { r with
      shape := { depth := clampNat depth 2 16, qMin := clampNat qMin 1 96, qMax := clampNat qMax 1 96,
                 qStart := clampNat qStart (clampNat qMin 1 96) (clampNat qMax 1 96) },
      q := clampNat qStart (clampNat qMin 1 96) (clampNat qMax 1 96) } := by
  obtain ⟨fill, -, -, -, -, -, -, -, -, rest⟩ := h
  have lo := clampNat_le (x := qMin) (show 1 ≤ 96 by omega)
  have hi := clampNat_le (x := qMax) (show 1 ≤ 96 by omega)
  have st := clampNat_le (x := qStart) order
  have d := clampNat_le (x := depth) (show 2 ≤ 16 by omega)
  exact ⟨fill, lo.1, st.1, st.2, hi.2, st.1, st.2, d.1, d.2, rest⟩

/-- R74: the curve, each entry brought into its range. -/
theorem rateOk_setCurve {r : RateState} (h : RateOk r) (es : List Byte) : RateOk { r with curve := curveOf es } := by
  obtain ⟨fill, qMin, low, high, qMax, start, start', depth, depth', -, rest⟩ := h
  refine ⟨fill, qMin, low, high, qMax, start, start', depth, depth', fun x hx => ?_, rest⟩
  obtain ⟨j, rfl⟩ := List.mem_ofFn.mp (show x ∈ List.ofFn fun j : Fin 33 => clampNat (es.getD j.val 0).toNat 1 96 from hx)
  exact clampNat_le (by omega)

/-! ## The division of a period's bytes (R59 to R64) -/

/-- The sum of a table of six numbers. -/
def total (v : Vector Nat 6) : Nat := ∑ k : Ctx, v[k]

theorem total_setAt {v : Vector Nat 6} {k : Ctx} (h : v[k] = 0) (a : Nat) : total (setAt v k a) = total v + a := by
  have others : ∀ j : Ctx, (setAt v k a)[j] = v[j] + if j = k then a else 0 := fun j => by
    rw [setAt_get]
    split
    · subst j; omega
    · omega
  simp only [total, others, Finset.sum_add_distrib, Finset.sum_ite_eq', Finset.mem_univ, if_true]

/-- R63: what the minimums take, and what they leave, make up the bytes that were there. -/
theorem total_grantMinimums (setting : Ctx → Nat) (l : List Ctx) (left : Nat) (g : Vector Nat 6) (distinct : l.Nodup)
    (fresh : ∀ k ∈ l, g[k] = 0) :
    (grantMinimums setting l left g).1 + total (grantMinimums setting l left g).2 = left + total g := by
  induction l generalizing left g with
  | nil => rfl
  | cons k l ih =>
    obtain ⟨absent, distinct⟩ := List.nodup_cons.mp distinct
    have kept : ∀ j ∈ l, (setAt g k (min (setting k) left))[j] = 0 := fun j hj => by
      rw [setAt_get_other _ _ (ne_of_mem_of_not_mem hj absent)]
      exact fresh j (List.mem_cons_of_mem k hj)
    have granted := ih (left - min (setting k) left) _ distinct kept
    rw [total_setAt (fresh k List.mem_cons_self)] at granted
    simp only [grantMinimums]
    omega

theorem grantOrder_nodup (shares : Ctx → Bool) (programme : Option Ctx) : (grantOrder shares programme).Nodup := by
  have all : allCtx.Nodup := by decide
  cases programme with
  | none => exact all.filter _
  | some p =>
    refine List.Nodup.append ((List.nodup_singleton p).filter _) (all.filter _) fun k first later => ?_
    have same : k = p := List.mem_singleton.mp (List.mem_of_mem_filter first)
    simp [same] at later

theorem sum_div_le {ι : Type} (s : Finset ι) (f : ι → Nat) (w : Nat) : ∑ k ∈ s, f k / w ≤ (∑ k ∈ s, f k) / w := by
  classical
  induction s using Finset.induction with
  | empty => simp
  | insert k s hk ih =>
    rw [Finset.sum_insert hk, Finset.sum_insert hk]
    exact (Nat.add_le_add_left ih _).trans (Nat.div_add_div_le_add_div ..)

theorem totalWeight_eq (shares : Ctx → Bool) (weight : Ctx → Nat) :
    totalWeight shares weight = ∑ k : Ctx, if shares k then weight k else 0 := by
  have step : ∀ l : List Ctx, ((l.filter shares).map weight).sum = (l.map fun k => if shares k then weight k else 0).sum := by
    intro l
    induction l with
    | nil => rfl
    | cons k l ih => cases h : shares k <;> simp [h, ih]
  rw [totalWeight, step, Fin.sum_univ_def]
  rfl

/-- R64: the targets together are at most the minimums granted and the bytes left over. -/
theorem sum_targets_le (shares : Ctx → Bool) (weight : Ctx → Nat) (g : Vector Nat 6) (rest : Nat) :
    ∑ k : Ctx, targetOf (shares k) g[k] rest (weight k) (totalWeight shares weight) ≤ total g + rest := by
  let shared (k : Ctx) : Nat := if shares k then weight k else 0
  have split : ∀ k : Ctx, targetOf (shares k) g[k] rest (weight k) (totalWeight shares weight)
      ≤ g[k] + rest * shared k / totalWeight shares weight := fun k => by
    cases h : shares k <;> simp [targetOf, shared, h]
  have portions : ∑ k : Ctx, rest * shared k / totalWeight shares weight ≤ rest := calc
    _ ≤ (∑ k : Ctx, rest * shared k) / totalWeight shares weight := sum_div_le ..
    _ = rest * totalWeight shares weight / totalWeight shares weight := by rw [totalWeight_eq, Finset.mul_sum]
    _ ≤ rest := Nat.div_le_of_le_mul (Nat.mul_comm .. ▸ Nat.le_refl _)
  calc
    _ ≤ ∑ k : Ctx, (g[k] + rest * shared k / totalWeight shares weight) := Finset.sum_le_sum fun k _ => split k
    _ = total g + ∑ k : Ctx, rest * shared k / totalWeight shares weight := Finset.sum_add_distrib
    _ ≤ total g + rest := Nat.add_le_add_left portions _

theorem sum_tabulate (f : Ctx → Nat) : (tabulate 6 f).toList.sum = ∑ k : Ctx, f k := by
  exact (List.sum_ofFn (f := f))

/-- R59: the shares and targets, with the idle bytes, make up the period's bytes. -/
theorem budgetOk_divide {c : Chip} (h : c.budget.reserve ≤ 8192) : BudgetOk (budgetBoundary c) := by
  refine ⟨?_, h⟩
  show (divide c).audio + (divide c).label + (divide c).targets.toList.sum + (divide c).idle = (divide c).bytes
  unfold divide
  extract_lets capacity bytes audio lab video shares setting order granted weight all targets short
  have audioFits : audio ≤ bytes := by
    unfold audio audioShare
    split <;> omega
  have labelFits : lab ≤ bytes - audio := Nat.min_le_right ..
  have minimums : granted.1 + total granted.2 = video := by
    refine (total_grantMinimums setting order video _ (grantOrder_nodup _ _) fun k _ => ?_).trans ?_
    · exact Vector.getElem_replicate _
    · simp [total]
  have targetsFit : targets.toList.sum ≤ total granted.2 + granted.1 := by
    rw [sum_tabulate]
    exact sum_targets_le shares weight granted.2 granted.1
  show audio + lab + targets.toList.sum + (bytes - audio - lab - targets.toList.sum) = bytes
  omega

/-! ## Mixer inputs (R78, R79, R88 to R92) -/

/-- R88: a fader that moves ends between its ramp start and its target. -/
theorem faderOk_moveFader {f : Fader} (h : FaderOk f) : FaderOk (moveFader f) := by
  obtain ⟨between, rest⟩ := h
  refine ⟨?_, rest⟩
  simp only [moveFader]
  split
  · omega
  · split <;> omega

/-- R88: a new ramp starts where the fader stands. -/
theorem faderOk_setTarget {f : Fader} {t : Nat} (h : FaderOk f) (ht : t ≤ 255) : FaderOk (setTarget t f) := by
  obtain ⟨between, start, target, step⟩ := h
  refine ⟨?_, ?_, ht, step⟩
  · simp only [setTarget]; omega
  · simp only [setTarget]; omega

theorem faderOk_setStep {f : Fader} {r : Nat} (h : FaderOk f) (hr : 1 ≤ r ∧ r ≤ 32) : FaderOk { f with step := r } := by
  obtain ⟨between, start, target, -⟩ := h
  exact ⟨between, start, target, hr⟩

/-- R78. -/
theorem inputOk_receiveBlock (payload : List Byte) {x : Input} (h : InputOk x) : InputOk (receiveBlock payload x) := by
  obtain ⟨buffer, idle, run, rest⟩ := h
  unfold receiveBlock
  split
  · exact ⟨buffer, idle, run, rest⟩
  · refine ⟨?_, Bool.noConfusion, ?_, rest⟩
    · dsimp only
      split <;> simp <;> omega
    · dsimp only
      split <;> omega

/-- R79: the oldest block taken. -/
theorem inputOk_took {x : Input} {b : List Sample} {rest : List (List Sample)} (h : InputOk x)
    (held : x.buffer = b :: rest) :
    InputOk { x with buffer := rest, blocksTaken := bump x.blocksTaken, underrunRun := 0 } := by
  obtain ⟨buffer, idle, -, others⟩ := h
  rw [held, List.length_cons] at buffer
  refine ⟨by dsimp only; omega, fun inactive => ?_, Nat.succ_pos 99, others⟩
  rw [(idle inactive).1] at held
  cases held

/-- R79: one underrun more, short of the hundredth. -/
theorem inputOk_underrun {x : Input} (h : InputOk x) (active : x.active = true) (short : x.underrunRun + 1 < 100) :
    InputOk { x with underruns := bump x.underruns, underrunRun := x.underrunRun + 1 } := by
  obtain ⟨buffer, -, -, others⟩ := h
  exact ⟨buffer, fun inactive => Bool.noConfusion (active.symm.trans inactive), short, others⟩

/-- R79: an input without blocks becomes IDLE. -/
theorem inputOk_lost {x : Input} (h : InputOk x) (empty : x.buffer = []) (n : Counter) :
    InputOk { x with active := false, underruns := n, underrunRun := 0 } := by
  obtain ⟨buffer, -, -, others⟩ := h
  exact ⟨buffer, fun _ => ⟨empty, rfl⟩, Nat.succ_pos 99, others⟩

theorem inputOk_withFader {x : Input} (h : InputOk x) {f : Fader} (hf : FaderOk f) : InputOk { x with fader := f } := by
  obtain ⟨buffer, idle, run, -, rest⟩ := h
  exact ⟨buffer, idle, run, hf, rest⟩

theorem inputOk_fader {x : Input} (h : InputOk x) : FaderOk x.fader := by
  obtain ⟨-, -, -, fader, -⟩ := h
  exact fader

/-- R91: a linked input takes the target of its link. -/
theorem inputOk_follow (programme : Option Ctx) {x : Input} (h : InputOk x) {l : AfvLink} (linked : x.link = some l) :
    InputOk { x with fader := setTarget (afvTarget programme l) x.fader } := by
  obtain ⟨-, -, -, -, -, link⟩ := id h
  obtain ⟨on, off⟩ := link l linked
  refine inputOk_withFader h (faderOk_setTarget (inputOk_fader h) ?_)
  unfold afvTarget
  split
  · exact on
  · exact off

/-- R92. -/
theorem inputOk_setSends {x : Input} (h : InputOk x) (l r a b : Byte) :
    InputOk { x with sends := #v[l.toNat, r.toNat, a.toNat, b.toNat] } := by
  obtain ⟨buffer, idle, run, fader, -, link⟩ := h
  refine ⟨buffer, idle, run, fader, fun n hn => ?_, link⟩
  have : ∃ y : Byte, n = y.toNat := by
    simp only [Vector.toList_mk, List.mem_cons, List.not_mem_nil, or_false] at hn
    obtain e | e | e | e := hn
    exacts [⟨l, e⟩, ⟨r, e⟩, ⟨a, e⟩, ⟨b, e⟩]
  obtain ⟨y, rfl⟩ := this
  exact Nat.le_of_lt_succ y.isLt

/-- R90. -/
theorem inputOk_setLink {x : Input} (h : InputOk x) (choice : Option Ctx) (on off : Byte) :
    InputOk { x with link := choice.map fun k => ⟨k, on.toNat, off.toNat⟩ } := by
  obtain ⟨buffer, idle, run, fader, sends, -⟩ := h
  refine ⟨buffer, idle, run, fader, sends, fun l hl => ?_⟩
  obtain ⟨k, -, rfl⟩ := Option.map_eq_some_iff.mp hl
  exact ⟨Nat.le_of_lt_succ on.isLt, Nat.le_of_lt_succ off.isLt⟩

/-- R97. -/
theorem inputOk_cleaned {x : Input} (h : InputOk x) :
    InputOk { x with buffer := [], active := false, underrunRun := 0 } := by
  obtain ⟨-, -, -, others⟩ := h
  exact ⟨Nat.zero_le 4, fun _ => ⟨rfl, rfl⟩, Nat.succ_pos 99, others⟩

/-- R99. -/
theorem inputOk_resetInput {x : Input} (h : InputOk x) : InputOk (resetInput x) := by
  obtain ⟨-, -, -, ⟨-, -, -, step⟩, sends⟩ := h
  exact ⟨Nat.zero_le 4, fun _ => ⟨rfl, rfl⟩, Nat.succ_pos 99,
    ⟨.inl ⟨Nat.le_refl 0, Nat.le_refl 0⟩, Nat.zero_le _, Nat.zero_le _, step⟩, sends⟩

end Sys2Proof.Clockwork

end


section
/-! What the parts that take a block tick leave alone (R22): the clip log, delivery accounting, the link controller and
the frame scheduler. -/

namespace Sys2Proof.Clockwork

open Sys2Proof.Machine Sys2Proof.Safety Sys2Proof.Claims

-- One theorem after another: side by side, each waits for the others on a thread of its own.
set_option Elab.async false

/-! ## The port's mode and the attention set -/

@[simp] theorem moveReport_mode (c : Chip) : (moveReport c).port.mode = c.port.mode := by
  unfold moveReport
  split
  · split
    · rfl
    · rw [joinOut_port]
  · rfl

@[simp] theorem placeReport_mode (x : OutCell) (c : Chip) : (placeReport x c).port.mode = c.port.mode := by
  rw [placeReport, moveReport_mode]

@[simp] theorem setAttention_mode (as : List AttClass) (c : Chip) : (setAttention as c).port.mode = c.port.mode := by
  unfold setAttention queueNotice
  dsimp only
  split
  · rfl
  · split
    · rw [placeReport_mode]
    · rfl

theorem attHas_or (x y : BitVec 16) (a : AttClass) : attHas (x ||| y) a = (attHas x a || attHas y a) := by
  simp [attHas]

/-- R179: a class that is set after classes are set was set before or is one of them. -/
theorem attHas_setAttention (as : List AttClass) (c : Chip) (a : AttClass) :
    attHas (setAttention as c).port.attention a = true ↔ attHas c.port.attention a = true ∨ a ∈ as := by
  rw [setAttention_attention, attHas_or, Bool.or_eq_true, attHas_attMask]

/-! ## What stays at a block tick -/

/-- What the mixer, the scheduler and the link controller leave of the part at a block tick: the unit number, the lanes'
counters, the timebase, steering, the engine, the budget divider and the selector; the gatherers' records and numbers;
the part mode and every class already set; the mixer in STANDBY; and the conditions of the rate states and the mixer. -/
structure Ticked (c d : Chip) : Prop where
  unit : d.unit = c.unit
  lanes : d.lanes = c.lanes
  time : d.time = c.time
  steer : d.steer = c.steer
  engine : d.engine = c.engine
  budget : d.budget = c.budget
  sel : d.sel = c.sel
  records : ∀ k : Ctx, d.ctx[k].gathering = c.ctx[k].gathering ∧ d.ctx[k].ready = c.ctx[k].ready ∧
    d.ctx[k].nextNumber = c.ctx[k].nextNumber
  mode : d.port.mode = c.port.mode
  attention : ∀ a, attHas c.port.attention a = true → attHas d.port.attention a = true
  standby : c.port.mode = .standby → d.mixer = c.mixer
  rates : RatesOk c → RatesOk d
  inputs : MixerOk c → MixerOk d

theorem ticked_refl (c : Chip) : Ticked c c :=
  ⟨rfl, rfl, rfl, rfl, rfl, rfl, rfl, fun _ => ⟨rfl, rfl, rfl⟩, rfl, fun _ h => h, fun _ => rfl, fun h => h, fun h => h⟩

theorem Ticked.trans {b c d : Chip} (h : Ticked b c) (h' : Ticked c d) : Ticked b d where
  unit := h'.unit.trans h.unit
  lanes := h'.lanes.trans h.lanes
  time := h'.time.trans h.time
  steer := h'.steer.trans h.steer
  engine := h'.engine.trans h.engine
  budget := h'.budget.trans h.budget
  sel := h'.sel.trans h.sel
  records k := by
    obtain ⟨gathering, ready, next⟩ := h.records k
    obtain ⟨gathering', ready', next'⟩ := h'.records k
    exact ⟨gathering'.trans gathering, ready'.trans ready, next'.trans next⟩
  mode := h'.mode.trans h.mode
  attention a set := h'.attention a (h.attention a set)
  standby mode := (h'.standby (h.mode.trans mode)).trans (h.standby mode)
  rates ok := h'.rates (h.rates ok)
  inputs ok := h'.inputs (h.inputs ok)

variable {c d : Chip}

/-- None of what the parts leave alone at a block tick, and neither the rate states nor the contexts, is another. -/
structure Untouched (c d : Chip) : Prop where
  unit : d.unit = c.unit
  lanes : d.lanes = c.lanes
  time : d.time = c.time
  steer : d.steer = c.steer
  engine : d.engine = c.engine
  budget : d.budget = c.budget
  sel : d.sel = c.sel
  ctx : d.ctx = c.ctx
  mode : d.port.mode = c.port.mode
  attention : d.port.attention = c.port.attention
  mixer : d.mixer = c.mixer
  rate : d.rate = c.rate

theorem Untouched.ticked {c d : Chip} (same : Untouched c d) : Ticked c d where
  unit := same.unit
  lanes := same.lanes
  time := same.time
  steer := same.steer
  engine := same.engine
  budget := same.budget
  sel := same.sel
  records k := by rw [same.ctx]; exact ⟨rfl, rfl, rfl⟩
  mode := same.mode
  attention a set := by rw [same.attention]; exact set
  standby _ := same.mixer
  rates ok k := by rw [same.rate]; exact ok k
  inputs ok := by unfold MixerOk at *; rw [same.mixer]; exact ok

variable {c d : Chip}

/-- A chain of such work may end with any change that touches none of it. -/
theorem ticked_quiet {d' : Chip} (h : Ticked c d)
    (same : Untouched d d' := by exact ⟨rfl, rfl, rfl, rfl, rfl, rfl, rfl, rfl, rfl, rfl, rfl, rfl⟩) : Ticked c d' :=
  h.trans same.ticked

theorem ticked_foldl {α : Type} {f : Chip → α → Chip} (hf : ∀ d a, Ticked c d → Ticked c (f d a)) (l : List α)
    (h : Ticked c d) : Ticked c (l.foldl f d) := by
  induction l generalizing d with
  | nil => exact h
  | cons a l ih => exact ih (hf d a h)

/-- A change of the lane, FO and the reports alone, that keeps the mode and the classes set. -/
theorem ticked_reports {out : OutputLane} {fo : List (List Byte)} {port : ControlPort} (h : Ticked c d)
    (mode : port.mode = d.port.mode := by rfl)
    (attention : ∀ a, attHas d.port.attention a = true → attHas port.attention a = true := by exact fun _ h => h) :
    Ticked c { d with out := out, fo := fo, port := port } :=
  h.trans ⟨rfl, rfl, rfl, rfl, rfl, rfl, rfl, fun _ => ⟨rfl, rfl, rfl⟩, mode, attention, fun _ => rfl, fun h => h,
    fun h => h⟩

theorem ticked_setAttention (as : List AttClass) (h : Ticked c d) : Ticked c (setAttention as d) := by
  rw [setAttention_frame]
  exact ticked_reports h (setAttention_mode as d) fun a set => (attHas_setAttention as d a).mpr (.inl set)

theorem ticked_setAttentionIf (b : Bool) (as : List AttClass) (h : Ticked c d) :
    Ticked c (setAttentionIf b as d) := by
  cases b
  · exact h
  · exact ticked_setAttention as h

/-- R45: a context that reaches STOPPED. -/
theorem ticked_reachStopped (k : Ctx) (h : Ticked c d) : Ticked c (reachStopped k d) := by
  refine h.trans ⟨rfl, rfl, rfl, rfl, rfl, rfl, rfl, fun j => ?_, rfl, fun _ h => h, fun _ => rfl, fun ok => ?_,
    fun h => h⟩
  · simp only [reachStopped, modRate_ctx, modCtx_ctx, modAt_get]
    split
    all_goals exact ⟨rfl, rfl, rfl⟩
  · exact forall_modAt ok fun ok => rateOk_emptied ok 0 0

/-! ## The clip log (chapter 11) -/

theorem ticked_offerLabel (i : Nat) (x : Clip) (h : Ticked c d) : Ticked c (offerLabel i x d) := by
  rw [offerLabel_frame]
  exact ticked_quiet h

theorem ticked_autoOffer (i : Nat) (x : Clip) (h : Ticked c d) : Ticked c (autoOffer i x d) := by
  unfold autoOffer
  split
  · exact ticked_setAttentionIf _ _ (ticked_offerLabel i x h)
  · exact h

theorem ticked_closeClip (i : Nat) (x : Clip) (h : Ticked c d) : Ticked c (closeClip i x d) :=
  ticked_autoOffer _ _ (ticked_quiet h)

theorem ticked_autoClips (p : Option Ctx) (h : Ticked c d) : Ticked c (autoClips p d) := by
  have closed : Ticked c (autoClose p d) := by
    unfold autoClose
    split
    · split
      · exact ticked_closeClip _ _ (ticked_quiet h)
      · exact h
    · exact h
  unfold autoClips autoOpen
  split
  · exact closed
  split
  · split
    · exact ticked_setAttention _ (ticked_quiet closed)
    · exact ticked_quiet closed
  · exact closed

theorem ticked_countDelivered (n : Nat) (h : Ticked c d) : Ticked c (countDelivered n d) :=
  ticked_setAttentionIf _ _ (ticked_quiet h)

theorem ticked_labelSent (i : Nat) (h : Ticked c d) : Ticked c (labelSent i d) := by
  unfold labelSent
  split
  · split
    · exact ticked_quiet h
    · exact h
  · exact h

theorem ticked_labelDelivered (i : Nat) (h : Ticked c d) : Ticked c (labelDelivered i d) := by
  unfold labelDelivered
  split
  · split
    · split
      · exact ticked_countDelivered 1 (ticked_quiet h)
      · exact ticked_quiet h
    · exact h
  · exact h

theorem ticked_labelLost (i : Nat) (h : Ticked c d) : Ticked c (labelLost i d) := by
  unfold labelLost
  split
  · split
    · exact ticked_setAttention _ (ticked_quiet h)
    · exact h
  · exact h

/-! ## Delivery accounting (chapter 10) -/

theorem ticked_writeLog (e : LogEntry) (h : Ticked c d) : Ticked c (writeLog e d) := by
  unfold writeLog
  split
  · exact ticked_quiet h
  · exact ticked_setAttention _ (ticked_quiet h)

theorem ticked_clipsTakePicture (k : Ctx) (p : PicNum) (bad : Bool) (lw : PicNum) (h : Ticked c d) :
    Ticked c (clipsTakePicture k p bad lw d) := by
  cases bad
  all_goals exact ticked_countDelivered _ (ticked_quiet h)

theorem ticked_resolve (p : Picture) (q : Option Nat) (sends : Nat) (o : PicOutcome) (h : Ticked c d) :
    Ticked c (resolve p q sends o d) := by
  unfold resolve
  extract_lets k acct counted noted handed
  have counted : Ticked c counted := ticked_quiet h
  have noted : Ticked c noted := ticked_quiet (ticked_setAttention _ counted)
  have handed : Ticked c handed := ticked_clipsTakePicture _ _ _ _ noted
  split
  · exact ticked_writeLog _ handed
  · exact handed

theorem ticked_judgeQueued (k : Ctx) (n : PicNum) (h : Ticked c d) : Ticked c (judgeQueued k n d) := by
  unfold judgeQueued
  split
  · exact h
  · rename_i q _
    have resolved : Ticked c (resolve q.picture (some q.qUsed) q.highestSend (queuedOutcome q)
        (modVideo k (fun v => v.filter (fun r => !(r.picture.number == n))) d)) := ticked_resolve _ _ _ _ (ticked_quiet h)
    split
    · unfold endDrainedContext
      split
      · exact ticked_reachStopped k resolved
      · exact resolved
    · exact h

theorem ticked_changeQueued (k : Ctx) (n : PicNum) (f : Queued → Queued) (h : Ticked c d) :
    Ticked c (changeQueued k n f d) :=
  ticked_judgeQueued k n (ticked_quiet h)

/-! ## Settlement (section 9.5) -/

theorem ticked_settle (delivered : Bool) (e : Entry) (h : Ticked c d) : Ticked c (settle delivered e d) := by
  have counted : Ticked c (countLost delivered d) := ticked_quiet h
  unfold settle
  dsimp only
  split
  · exact ticked_changeQueued _ _ _ counted
  · refine ticked_writeLog _ ?_
    split
    · exact ticked_labelDelivered _ counted
    · exact ticked_labelLost _ counted

theorem ticked_declareAllLost (h : Ticked c d) : Ticked c (declareAllLost d) :=
  ticked_foldl (fun _ e => ticked_settle false e) _ (ticked_quiet h)

/-! ## The home link (chapter 8) -/

theorem ticked_enterLink (st : LinkState) (also : List AttClass) (h : Ticked c d) : Ticked c (enterLink st also d) :=
  ticked_setAttention _ (ticked_quiet h)

theorem ticked_windowExpiry (h : Ticked c d) : Ticked c (windowExpiry d) := by
  unfold windowExpiry
  split
  · exact h
  · split
    · exact ticked_quiet h
    · exact ticked_enterLink _ _ (ticked_quiet h)

theorem ticked_gapExpiry (h : Ticked c d) : Ticked c (gapExpiry d) := by
  unfold gapExpiry
  split
  all_goals exact ticked_quiet h

theorem ticked_drainEnd (h : Ticked c d) : Ticked c (drainEnd d) := by
  unfold drainEnd
  extract_lets complete stopped
  have stopped : Ticked c stopped := ticked_quiet h
  exact ticked_enterLink _ _ (ticked_quiet (ticked_declareAllLost stopped))

theorem ticked_checkDrain (h : Ticked c d) : Ticked c (checkDrain d) := by
  unfold checkDrain
  split
  · exact ticked_drainEnd h
  · exact h

theorem ticked_drainExpiry (h : Ticked c d) : Ticked c (drainExpiry d) := by
  unfold drainExpiry
  split
  · exact h
  · split
    · exact ticked_drainEnd h
    · exact h

theorem ticked_silenceRunsOut (h : Ticked c d) : Ticked c (silenceRunsOut d) := by
  unfold silenceRunsOut
  split
  · exact h
  · dsimp only
    split
    · exact ticked_enterLink _ _ (ticked_quiet h)
    · exact ticked_drainEnd (ticked_quiet h)
    all_goals exact h

theorem ticked_takeSilence (h : Ticked c d) : Ticked c (takeSilence d) := by
  unfold takeSilence
  split
  · exact ticked_silenceRunsOut h
  · exact h

theorem ticked_takeDrain (h : Ticked c d) : Ticked c (takeDrain d) := by
  unfold takeDrain
  split
  · exact ticked_drainExpiry h
  · exact h

theorem ticked_linkTick (silenceFirst : Bool) (h : Ticked c d) : Ticked c (linkTick silenceFirst d) := by
  unfold linkTick
  extract_lets counted window gap windowed gapped
  have counted : Ticked c counted := ticked_quiet h
  have windowed : Ticked c windowed := by
    unfold windowed
    split
    · exact ticked_windowExpiry counted
    · exact counted
  have gapped : Ticked c gapped := by
    unfold gapped
    split
    · exact ticked_gapExpiry windowed
    · exact windowed
  split
  · exact ticked_takeDrain (ticked_takeSilence gapped)
  · exact ticked_takeSilence (ticked_takeDrain gapped)

/-! ## The frame scheduler (chapter 9) -/

theorem ticked_ackFrame (n : FrameNum) (h : Ticked c d) : Ticked c (ackFrame n d) := by
  unfold ackFrame
  split
  · exact ticked_checkDrain (ticked_settle _ _ (ticked_quiet h))
  · split
    · exact ticked_checkDrain (ticked_settle _ _ (ticked_quiet h))
    · exact ticked_quiet h

theorem ticked_ackExpiry (n : FrameNum) (h : Ticked c d) : Ticked c (ackExpiry n d) := by
  unfold ackExpiry
  split
  · unfold expire
    split
    · exact ticked_quiet h
    · exact ticked_checkDrain (ticked_settle _ _ (ticked_quiet h))
  · exact h

theorem ticked_loseResend (e : Entry) (h : Ticked c d) : Ticked c (loseResend e d) := by
  unfold loseResend
  split
  · exact ticked_checkDrain (ticked_settle _ _ (ticked_quiet h))
  · exact h

theorem ticked_deadlinePasses (k : Ctx) (n : PicNum) (h : Ticked c d) : Ticked c (deadlinePasses k n d) := by
  unfold deadlinePasses
  split
  · split
    · exact h
    · exact ticked_foldl (fun _ e => ticked_loseResend e) _ (ticked_changeQueued _ _ _ (ticked_quiet h))
  · exact h

theorem ticked_deadlinesOf (k : Ctx) (h : Ticked c d) : Ticked c (deadlinesOf k d) :=
  ticked_foldl (fun _ (q : Queued) => ticked_deadlinePasses k q.picture.number) _ h

theorem ticked_sendFound (f : Found) (h : Ticked c d) : Ticked c (sendFound f d) := by
  cases f with
  | audio a => exact ticked_quiet h
  | pass x => exact ticked_quiet h
  | label l => exact ticked_labelSent _ (ticked_quiet h)
  | video k q rotated => exact ticked_changeQueued _ _ _ (ticked_quiet h)
  | resend e =>
    show Ticked c (resendEntry e d)
    unfold resendEntry noteResend
    split
    · exact ticked_changeQueued _ _ _ (ticked_quiet h)
    · exact ticked_quiet h

theorem ticked_selectFrames (fuel : Nat) (h : Ticked c d) : Ticked c (selectFrames fuel d) := by
  induction fuel generalizing d with
  | zero => exact h
  | succ fuel ih =>
    unfold selectFrames
    split
    · exact h
    · split
      · exact ih (ticked_sendFound _ h)
      · exact h

theorem ticked_schedulerTick (h : Ticked c d) : Ticked c (schedulerTick d) := by
  have earned : Ticked c (earnCredit d) := by
    unfold earnCredit
    split
    · exact ticked_quiet h
    · exact h
  have expired : Ticked c (expireWindows (earnCredit d)) :=
    ticked_foldl (fun _ (e : Entry) => ticked_ackExpiry e.frame) _ (ticked_quiet earned)
  have due : Ticked c (applyDeadlines (expireWindows (earnCredit d))) := ticked_foldl (fun _ => ticked_deadlinesOf) _ expired
  unfold schedulerTick selectTick
  split
  · exact ticked_selectFrames _ due
  · exact due

end Sys2Proof.Clockwork

end


section
/-! What the parts that take a block tick leave alone, continued: the sound mixer (chapter 6), and the tick. -/

namespace Sys2Proof.Clockwork

open Sys2Proof.Machine Sys2Proof.Safety Sys2Proof.Claims

-- One theorem after another: side by side, each waits for the others on a thread of its own.
set_option Elab.async false

variable {c d : Chip}

/-- In RUN the mixer may change, if its condition is kept. -/
theorem ticked_mixer {m : Mixer} (run : c.port.mode = .run) (h : Ticked c d)
    (ok : MixerOk d → MixerOk { d with mixer := m }) : Ticked c { d with mixer := m } :=
  h.trans ⟨rfl, rfl, rfl, rfl, rfl, rfl, rfl, fun _ => ⟨rfl, rfl, rfl⟩, rfl, fun _ h => h,
    fun standby => PartMode.noConfusion ((h.mode.trans run).symm.trans standby), fun h => h, ok⟩

/-- The mixer's condition where the inputs and the bus masters keep theirs and the frame being built is as it was. -/
theorem mixerOk_of_inputs {m : Mixer} (h : MixerOk d) (inputs : ∀ i : InputNo, InputOk m.inputs[i])
    (masters : ∀ b : BusNo, m.buses[b].master ≤ 255) (counter : m.blockCounter = d.mixer.blockCounter := by rfl)
    (build : m.build = d.mixer.build := by rfl) : MixerOk { d with mixer := m } := by
  obtain ⟨-, -, rest⟩ := h
  rw [← counter, ← build] at rest
  exact ⟨inputs, masters, rest⟩

theorem mixerOk_modInput {i : InputNo} {f : Input → Input} (h : MixerOk d)
    (hf : InputOk d.mixer.inputs[i] → InputOk (f d.mixer.inputs[i])) : MixerOk (modInput i f d) :=
  mixerOk_of_inputs h (forall_modAt h.1 hf) h.2.1

theorem modAt_modAt {α : Type} {n : Nat} (v : Vector α n) (k : Fin n) (f g : α → α) :
    modAt (modAt v k f) k g = modAt v k (fun x => g (f x)) := by
  simp [modAt, setAt]

/-- R79: an underrun counted, and the input lost with it. -/
theorem mixerOk_lost (i : InputNo) (h : MixerOk d) (empty : d.mixer.inputs[i].buffer = []) :
    MixerOk { d with mixer := { d.mixer with
      inputs := modAt (modAt d.mixer.inputs i fun y => { y with
          underruns := bump y.underruns, underrunRun := y.underrunRun + 1 })
        i fun y => { y with active := false, underrunRun := 0 },
      inputsLost := bump d.mixer.inputsLost } } := by
  refine mixerOk_of_inputs h ?_ h.2.1
  rw [modAt_modAt]
  exact forall_modAt h.1 fun input => inputOk_lost input empty _

/-- R79: an input's block, or its underrun, taken at a tick. -/
theorem ticked_takeBlock (i : InputNo) (run : c.port.mode = .run) (h : Ticked c d) : Ticked c (takeBlock i d).1 := by
  unfold takeBlock
  dsimp only
  split
  · rename_i b rest held
    exact ticked_mixer run h fun ok => mixerOk_modInput ok fun input => inputOk_took input held
  · rename_i empty
    split
    · rename_i active
      dsimp only
      split
      · exact ticked_setAttention _ (ticked_mixer (d := d) run h fun ok => mixerOk_lost i ok empty)
      · rename_i short
        exact ticked_mixer run h fun ok =>
          mixerOk_modInput ok fun input => inputOk_underrun input active (Nat.lt_of_not_le short)
    · exact h

theorem ticked_takeBlocks (run : c.port.mode = .run) (h : Ticked c d) : Ticked c (takeBlocks d).1 := by
  have fold : ∀ (l : List InputNo) (acc : Chip × List (List Sample)), Ticked c acc.1 →
      Ticked c (l.foldl (fun acc i =>
        let t := takeBlock i acc.1
        (t.1, acc.2 ++ [t.2])) acc).1 := by
    intro l
    induction l with
    | nil => exact fun _ h => h
    | cons i l ih => exact fun acc h => ih _ (ticked_takeBlock i run h)
  exact fold allInputs (d, []) h

/-- R84 to R88: the faders moved and the mix counted. -/
theorem mixerOk_mixed (blocks : List (List Sample)) (h : MixerOk d) :
    MixerOk { d with mixer := countMix (moveFaders d.mixer) blocks } := by
  refine mixerOk_of_inputs h ?_ ?_
  · refine forall_tabulate fun i => ?_
    have moved : InputOk (moveFaders d.mixer).inputs[i] :=
      forall_mapAll h.1 (fun x ok => inputOk_withFader ok (faderOk_moveFader (inputOk_fader ok))) i
    obtain ⟨buffer, idle, underruns, fader, rest⟩ := moved
    exact ⟨buffer, idle, underruns, fader, rest⟩
  · exact forall_tabulate (P := fun y : Bus => y.master ≤ 255) h.2.1

theorem ticked_offerAuxBus (source : OutSource) (stream : Stream) (out : List Int) (h : Ticked c d) :
    Ticked c (offerAuxBus source stream out d) := by
  unfold offerAuxBus
  split
  · exact h
  · rw [offerAux_frame]
    exact ticked_quiet h

/-- R94: the frame being built is as long as the block counter says, and begun again once it is formed. -/
theorem ticked_buildFrame (left right : List Sample) (run : c.port.mode = .run) (h : Ticked c d) :
    Ticked c (buildFrame left right d) := by
  unfold buildFrame
  extract_lets b
  split
  · rename_i more
    refine ticked_mixer run h fun ⟨inputs, masters, _, build⟩ => ⟨inputs, masters, more, Nat.succ_pos _, ?_⟩
    unfold b addToBuild
    split at build
    · rename_i none
      simp [none, build]
    · rename_i some
      simp [some, build.2]
  · have formed : Ticked c { d with mixer := { d.mixer with
        build := none, blockCounter := 0, framesFormed := bump d.mixer.framesFormed } } :=
      ticked_mixer run h fun ⟨inputs, masters, _⟩ => ⟨inputs, masters, Nat.zero_le 3, rfl⟩
    unfold queueOrDiscard
    split
    · exact ticked_quiet formed
    · exact ticked_mixer run formed fun ⟨inputs, masters, counter, build⟩ => ⟨inputs, masters, counter, build⟩

theorem ticked_mixerTick (h : Ticked c d) : Ticked c (mixerTick d) := by
  unfold mixerTick
  split
  · exact h
  · rename_i mode
    have run : c.port.mode = .run := h.mode.symm.trans mode
    have mixed := ticked_mixer run (ticked_takeBlocks run h) (mixerOk_mixed (takeBlocks d).2)
    exact ticked_buildFrame _ _ run (ticked_offerAuxBus _ _ _ (ticked_offerAuxBus _ _ _
      (ticked_setAttentionIf _ _ mixed)))

/-! ## The tick (R22) -/

theorem ticked_tickPart (silenceFirst : Bool) (p : TickPart) (h : Ticked c d) :
    Ticked c (tickPart silenceFirst p d) := by
  cases p with
  | mixer => exact ticked_mixerTick h
  | scheduler => exact ticked_schedulerTick h
  | link => exact ticked_linkTick silenceFirst h

/-- R22: the part as the three parts find it at a block tick: the ms counter risen by one, and a choice made. -/
def tickBegun (c : Chip) : Chip := { c with time := { c.time with ms := c.time.ms + 1 }, choices := c.choices + 1 }

theorem tickWork_eq (c : Chip) : tickWork c = (tickParts (Config.tickOrder c.choices)).foldl
    (fun d p => tickPart (Config.silenceFirst c.choices) p d) (tickBegun c) := rfl

theorem ticked_tickWork (c : Chip) : Ticked (tickBegun c) (tickWork c) := by
  rw [tickWork_eq]
  exact ticked_foldl (fun _ => ticked_tickPart _) _ (ticked_refl _)

/-- R22: the ms counter is all that a block tick changes of the timebase. -/
theorem tickWork_time (c : Chip) : (tickWork c).time = { c.time with ms := c.time.ms + 1 } := (ticked_tickWork c).time

end Sys2Proof.Clockwork

end


section
/-! What a picture boundary and an arriving cell leave alone, and the conditions they keep: the gatherers and the engine,
steering, the selector, the budget divider and the rate controller. -/

namespace Sys2Proof.Clockwork

open Sys2Proof.Machine Sys2Proof.Safety Sys2Proof.Claims

-- One theorem after another: side by side, each waits for the others on a thread of its own.
set_option Elab.async false

/-! ## What is kept -/

/-- The conditions of the banks, the budget, the rate states and the mixer are kept. -/
structure KeepsBlocks (c d : Chip) : Prop where
  banks : BanksOk c → BanksOk d
  budget : BudgetOk c → BudgetOk d
  rates : RatesOk c → RatesOk d
  inputs : MixerOk c → MixerOk d

/-- What the clock's boundaries and ticks leave of the part besides: the unit number, the lanes' counters, and every class
already set. -/
structure Clocked (c d : Chip) : Prop extends KeepsBlocks c d where
  unit : d.unit = c.unit
  lanes : d.lanes = c.lanes
  attention : ∀ a, attHas c.port.attention a = true → attHas d.port.attention a = true

/-- What the blocks' work at a boundary leaves of the part: the timebase as well. -/
structure Worked (c d : Chip) : Prop extends Clocked c d where
  time : d.time = c.time

theorem keepsBlocks_refl (c : Chip) : KeepsBlocks c c := ⟨fun h => h, fun h => h, fun h => h, fun h => h⟩

theorem KeepsBlocks.trans {b c d : Chip} (h : KeepsBlocks b c) (h' : KeepsBlocks c d) : KeepsBlocks b d :=
  ⟨fun ok => h'.banks (h.banks ok), fun ok => h'.budget (h.budget ok), fun ok => h'.rates (h.rates ok),
    fun ok => h'.inputs (h.inputs ok)⟩

theorem clocked_refl (c : Chip) : Clocked c c := ⟨keepsBlocks_refl c, rfl, rfl, fun _ h => h⟩

theorem Clocked.trans {b c d : Chip} (h : Clocked b c) (h' : Clocked c d) : Clocked b d :=
  ⟨h.toKeepsBlocks.trans h'.toKeepsBlocks, h'.unit.trans h.unit, h'.lanes.trans h.lanes,
    fun a set => h'.attention a (h.attention a set)⟩

theorem worked_refl (c : Chip) : Worked c c := ⟨clocked_refl c, rfl⟩

theorem Worked.trans {b c d : Chip} (h : Worked b c) (h' : Worked c d) : Worked b d :=
  ⟨h.toClocked.trans h'.toClocked, h'.time.trans h.time⟩

theorem Ticked.worked {c d : Chip} (h : Ticked c d) : Worked c d where
  banks := by unfold BanksOk; rw [h.steer]; exact fun ok => ok
  budget := by unfold BudgetOk; rw [h.budget]; exact fun ok => ok
  rates := h.rates
  inputs := h.inputs
  unit := h.unit
  lanes := h.lanes
  attention := h.attention
  time := h.time

/-- Nothing that the conditions of the banks, the budget, the rate states and the mixer read is another. -/
structure SameBlocks (c d : Chip) : Prop where
  bank0 : d.steer.bank0 = c.steer.bank0
  bank1 : d.steer.bank1 = c.steer.bank1
  budget : d.budget = c.budget
  rate : d.rate = c.rate
  mixer : d.mixer = c.mixer

theorem SameBlocks.keepsBlocks {c d : Chip} (same : SameBlocks c d) : KeepsBlocks c d where
  banks := by unfold BanksOk; rw [same.bank0, same.bank1]; exact fun ok => ok
  budget := by unfold BudgetOk; rw [same.budget]; exact fun ok => ok
  rates := by unfold RatesOk; rw [same.rate]; exact fun ok => ok
  inputs := by unfold MixerOk; rw [same.mixer]; exact fun ok => ok

variable {c d : Chip}

/-- A chain of such work may end with any change that touches none of it. -/
theorem worked_quiet {d' : Chip} (h : Worked c d)
    (same : SameBlocks d d' := by exact ⟨rfl, rfl, rfl, rfl, rfl⟩) (unit : d'.unit = d.unit := by rfl)
    (lanes : d'.lanes = d.lanes := by rfl) (attention : d'.port.attention = d.port.attention := by rfl)
    (time : d'.time = d.time := by rfl) : Worked c d' :=
  h.trans ⟨⟨same.keepsBlocks, unit, lanes, fun _ set => attention ▸ set⟩, time⟩

theorem worked_ticked {d' : Chip} (h : Worked c d) (t : Ticked d d') : Worked c d' := h.trans t.worked

theorem worked_foldl {α : Type} {f : Chip → α → Chip} (hf : ∀ d a, Worked c d → Worked c (f d a)) (l : List α)
    (h : Worked c d) : Worked c (l.foldl f d) := by
  induction l generalizing d with
  | nil => exact h
  | cons a l ih => exact ih (hf d a h)

theorem worked_setAttention (as : List AttClass) (h : Worked c d) : Worked c (setAttention as d) :=
  worked_ticked h (ticked_setAttention as (ticked_refl d))

theorem worked_resolve (p : Picture) (q : Option Nat) (sends : Nat) (o : PicOutcome) (h : Worked c d) :
    Worked c (resolve p q sends o d) :=
  worked_ticked h (ticked_resolve p q sends o (ticked_refl d))

/-- A context's rate state may change, if its condition is kept. -/
theorem worked_modRate {k : Ctx} {f : RateState → RateState} (h : Worked c d)
    (hf : RateOk d.rate[k] → RateOk (f d.rate[k])) : Worked c (modRate k f d) :=
  h.trans ⟨⟨⟨fun ok => ok, fun ok => ok, fun ok => forall_modAt ok hf, fun ok => ok⟩, rfl, rfl, fun _ set => set⟩, rfl⟩

/-- The mixer may change, if its condition is kept. -/
theorem worked_mixer {m : Mixer} (h : Worked c d) (ok : MixerOk d → MixerOk { d with mixer := m }) :
    Worked c { d with mixer := m } :=
  h.trans ⟨⟨⟨fun ok => ok, fun ok => ok, fun ok => ok, ok⟩, rfl, rfl, fun _ set => set⟩, rfl⟩

/-! ## The engine and the gatherers (chapter 4) -/

theorem worked_arbitrate (h : Worked c d) : Worked c (arbitrate d) := by
  rw [arbitrate_frame]
  exact worked_quiet h

theorem worked_reachStopped (k : Ctx) (h : Worked c d) : Worked c (reachStopped k d) :=
  worked_ticked h (ticked_reachStopped k (ticked_refl d))

/-- R67 to R70: the rate state that judges a picture is the one that the judgement changes. -/
theorem worked_takeCoded (o : Coding) (coded : List Byte) (h : Worked c d) : Worked c (takeCoded o coded d) := by
  unfold takeCoded
  extract_lets k e v
  have settled : Worked c (settleVerdict o coded v d) ∧ (settleVerdict o coded v d).rate = d.rate := by
    cases v
    · exact ⟨worked_resolve _ _ _ _ h, resolve_rate ..⟩
    · exact ⟨worked_resolve _ _ _ _ h, resolve_rate ..⟩
    · exact ⟨worked_quiet h, rfl⟩
  obtain ⟨settled, same⟩ := settled
  refine worked_modRate settled ?_
  rw [same]
  exact fun ok => rateOk_rateStep ok e _ o.programme

theorem worked_codingDone (coded : List Byte) (h : Worked c d) : Worked c (codingDone coded d) := by
  unfold codingDone
  split
  · exact h
  · split
    · exact worked_arbitrate (worked_takeCoded _ _ (worked_quiet h))
    · exact h

theorem worked_completePicture (k : Ctx) (g : Gathering) (h : Worked c d) : Worked c (completePicture k g d) := by
  unfold completePicture
  refine worked_arbitrate ?_
  split
  · exact worked_quiet h
  · exact worked_resolve _ _ _ _ (worked_quiet h)

theorem worked_endDamaged (k : Ctx) (g : Gathering) (h : Worked c d) : Worked c (endDamaged k g d) :=
  worked_completePicture _ _ (worked_quiet h)

theorem worked_startPicture (k : Ctx) (lane : LaneNo) (cell : Cell) (h : Worked c d) :
    Worked c (startPicture k lane cell d) := by
  unfold startPicture
  extract_lets ended g opened
  have ended : Worked c ended := by
    unfold ended
    split
    · exact worked_endDamaged _ _ h
    · exact h
  have opened : Worked c opened := worked_quiet ended
  split
  · exact worked_completePicture _ _ opened
  · exact opened

theorem worked_joinPicture (k : Ctx) (g : Gathering) (lane : LaneNo) (cell : Cell) (h : Worked c d) :
    Worked c (joinPicture k g lane cell d) := by
  unfold joinPicture
  extract_lets x
  split
  · exact worked_completePicture _ _ (worked_quiet h)
  · split
    · exact worked_completePicture _ _ (worked_quiet h)
    · exact worked_quiet h

theorem worked_gatherCell (k : Ctx) (lane : LaneNo) (cell : Cell) (h : Worked c d) :
    Worked c (gatherCell k lane cell d) := by
  unfold gatherCell
  split
  · split
    · exact worked_startPicture _ _ _ h
    · split
      · exact worked_joinPicture _ _ _ _ h
      · exact worked_quiet h
  · exact worked_quiet h

theorem worked_staleCheck (k : Ctx) (h : Worked c d) : Worked c (staleCheck k d) := by
  unfold staleCheck
  split
  · exact h
  · split
    · exact worked_quiet h
    · exact worked_endDamaged _ _ (worked_quiet h)

theorem worked_gatherBoundary (h : Worked c d) : Worked c (gatherBoundary d) := by
  refine worked_foldl (fun d k h => ?_) _ h
  unfold gatherBoundaryAt
  split
  · exact worked_staleCheck k h
  · have running : Worked c (modCtx k (fun x => { x with state := .running }) d) := worked_quiet h
    exact worked_modRate running fun ok => rateOk_of_same_settings ok (Nat.zero_le _) (rateOk_start ok).1 (rateOk_start ok).2
  all_goals exact h

/-! ## Steering (chapter 3) -/

theorem worked_modInput {i : InputNo} {f : Input → Input} (h : Worked c d)
    (hf : InputOk d.mixer.inputs[i] → InputOk (f d.mixer.inputs[i])) : Worked c (modInput i f d) :=
  worked_mixer h fun ok => mixerOk_modInput ok hf

theorem worked_carryOut (a : SteerAction) (lane : LaneNo) (k : CellKind) (cell : Cell) (h : Worked c d) :
    Worked c (carryOut a lane k cell d) := by
  have decided : Worked c (countDecision d) := worked_quiet h
  have mismatch : Worked c (countMismatch d) := worked_quiet h
  cases a with
  | discard => exact worked_quiet h
  | pass => exact worked_quiet h
  | code x =>
    unfold carryOut
    dsimp only
    split
    · exact worked_gatherCell _ _ _ decided
    · exact mismatch
  | mix i =>
    unfold carryOut
    dsimp only
    split
    · exact worked_modInput decided (inputOk_receiveBlock cell.payload)
    · exact mismatch

theorem worked_steerCell (lane : LaneNo) (k : CellKind) (cell : Cell) (h : Worked c d) :
    Worked c (steerCell lane k cell d) := by
  unfold steerCell
  split
  · exact h
  unfold evaluateCell
  split
  · rename_i i a _
    have carried := worked_carryOut a lane k cell h
    dsimp only
    split
    · exact worked_setAttention _ (worked_quiet carried)
    · exact carried
  · unfold defaultAction
    dsimp only
    split
    all_goals exact worked_quiet h

theorem worked_steerBoundary (h : Worked c d) : Worked c (steerBoundary d) := by
  unfold steerBoundary
  split
  · exact worked_setAttention _ (worked_quiet h)
  · exact h

/-! ## The selector (chapter 7) -/

/-- R91: the programme handed over to the mixer. -/
theorem worked_afvHandover (programme : Option Ctx) (h : Worked c d) : Worked c (afvHandover programme d) := by
  refine worked_mixer h fun ok => mixerOk_of_inputs ok (forall_mapAll ok.1 fun x input => ?_) ok.2.1
  split
  · exact inputOk_follow programme input ‹_›
  · exact input

theorem worked_offerTallyOf (k : Ctx) (h : Worked c d) : Worked c (offerTallyOf k d) := by
  rw [offerTallyOf_frame]
  exact worked_quiet h

theorem worked_offerTallySet (h : Worked c d) : Worked c (offerTallySet d) :=
  worked_foldl (fun _ k => worked_offerTallyOf k) _ h

theorem worked_selectorBoundary (h : Worked c d) : Worked c (selectorBoundary d) := by
  unfold selectorBoundary
  extract_lets op pre applied handed
  have applied : Worked c applied := by
    have taken : Worked c (if op then applyOp d else d) := by
      split
      · exact worked_setAttention _ (worked_quiet h)
      · exact h
    unfold applied applyPreset
    split
    · exact worked_quiet taken
    · exact taken
  have handed : Worked c handed := by
    unfold handed
    split
    · have followed := worked_afvHandover (applyPreset (if op then applyOp d else d)).sel.programme applied
      exact worked_ticked followed (ticked_autoClips _ (ticked_refl _))
    · exact applied
  split
  · exact worked_offerTallySet handed
  · exact handed

/-! ## The boundary (R14) -/

/-- R59: the division of the period's bytes. -/
theorem worked_budgetBoundary (h : Worked c d) : Worked c (budgetBoundary d) :=
  h.trans ⟨⟨⟨fun ok => ok, fun ok => budgetOk_divide ok.2, fun ok => ok, fun ok => ok⟩, rfl, rfl, fun _ set => set⟩, rfl⟩

/-- R65: each context's new target. -/
theorem worked_rateBoundary (h : Worked c d) : Worked c (rateBoundary d) :=
  h.trans ⟨⟨⟨fun ok => ok, fun ok => ok, fun ok => forall_tabulate fun k => rateOk_grantTarget _ (ok k), fun ok => ok⟩,
    rfl, rfl, fun _ set => set⟩, rfl⟩

theorem worked_allowanceBoundary (h : Worked c d) : Worked c (allowanceBoundary d) := worked_quiet h

theorem worked_boundaryWork (c : Chip) : Worked c (boundaryWork c) := by
  have selected := worked_selectorBoundary (worked_gatherBoundary (worked_steerBoundary (worked_refl c)))
  exact worked_allowanceBoundary (worked_rateBoundary (worked_budgetBoundary selected))

theorem boundaryWork_time (c : Chip) : (boundaryWork c).time = c.time := (worked_boundaryWork c).time

end Sys2Proof.Clockwork

end


section
/-! The 48 kHz clock (R15, R17, R18, R20, R22): what each sample, and each run of samples, makes of the timebase. -/

namespace Sys2Proof.Clockwork

open Sys2Proof.Machine Sys2Proof.Safety Sys2Proof.Claims

/-! ## Timecode (R13, R20) -/

theorem timecodeOk_iff (r : Rate) (t : Timecode) : timecodeOk r t = true ↔ InRange r t := by
  simp only [timecodeOk, InRange, Bool.and_eq_true, decide_eq_true_eq]
  omega

theorem rateHz_bounds (r : Rate) : 25 ≤ rateHz r ∧ rateHz r ≤ 60 := by cases r <;> decide

/-- R20: a picture of the day is followed by the next, the last by the first. -/
theorem countForward_next {r : Rate} {t : Timecode} (h : InRange r t) :
    InRange r (countForward r t) ∧
      dayPicture r (countForward r t) = (dayPicture r t + 1) % (24 * 60 * 60 * rateHz r) := by
  obtain ⟨hours, minutes, seconds, picture⟩ := h
  obtain ⟨h, m, s, p⟩ := t
  unfold countForward InRange dayPicture
  cases r
  all_goals
    simp only [rateHz] at *
    split
    · dsimp only; omega
    split
    · dsimp only; omega
    split
    · dsimp only; omega
    split
    · dsimp only; omega
    · simp only [Timecode.zero]; omega

/-! ## The timer (R15) -/

theorem restartTimer_eq (st : TimebaseState) (tc : Timecode) (t : Timebase) : restartTimer st tc t = restarted st tc t := by
  cases st
  · rfl
  · have length : lockSamples t.rate = 72000 / rateHz t.rate := by cases t.rate <;> decide
    simp only [restartTimer, restarted, timerLength, length]

theorem period_pos (r : Rate) : 800 ≤ 48000 / rateHz r := by cases r <;> decide

/-- R17, R18: the timebase that an expiry leaves. -/
theorem expireBoundary_time (c : Chip) : (expireBoundary c).time = expired c.time := by
  unfold expireBoundary expired
  split
  · rename_i locked
    simp only [loseReference, makeBoundary, setAttention_time, modTime, boundaryWork_time, restartTimer_eq, locked]
    rfl
  · rename_i free
    simp only [freeBoundary, makeBoundary, boundaryWork_time, modTime, restartTimer_eq, free]
    rfl

/-! ## One sample -/

/-- R15, R17, R18, R22: what a sample makes of the timebase: it is counted, the timer's expiry is taken where it falls at
the sample, and so is the block tick. -/
def sampled (t : Timebase) : Timebase :=
  let counted := countSample t
  let judged := if counted.length ≤ counted.elapsed then expired counted else counted
  { judged with ms := if counted.subTick = 0 then t.ms + 1 else t.ms }

theorem sampleStep_time (c : Chip) : (sampleStep c).time = sampled c.time := by
  obtain ⟨early, off, e⟩ | ⟨early, on, e⟩ | ⟨due, off, e⟩ | ⟨due, on, e⟩ | ⟨due, on, e⟩ := sampleStep_cases c
  · simp only [e, sampled, if_neg (Nat.not_le.mpr early), if_neg off]
    rfl
  · simp only [e, tickWork_time, sampled, if_neg (Nat.not_le.mpr early), if_pos on]
    rfl
  · simp only [e, expireBoundary_time, sampled, if_pos due, if_neg off]
    rfl
  · simp only [e, tickWork_time, expireBoundary_time, sampled, if_pos due, if_pos on]
    rfl
  · simp only [e, tickWork_time, expireBoundary_time, sampled, if_pos due, if_pos on]
    rfl

@[simp] theorem sampled_subTick (t : Timebase) : (sampled t).subTick = (t.subTick + 1) % 48 := by
  unfold sampled
  dsimp only
  split <;> rfl

@[simp] theorem sampled_ms (t : Timebase) : (sampled t).ms = if (t.subTick + 1) % 48 = 0 then t.ms + 1 else t.ms := rfl

/-- A sample short of the timer's end. -/
theorem sampled_early {t : Timebase} (h : t.elapsed + 1 < t.length) : sampled t = { t with
    elapsed := t.elapsed + 1, subTick := (sampled t).subTick, ms := (sampled t).ms } := by
  have early : ¬(countSample t).length ≤ (countSample t).elapsed := Nat.not_le.mpr h
  simp only [sampled, if_neg early]
  rfl

/-- The sample at the timer's end. -/
theorem sampled_due {t : Timebase} (h : t.length ≤ t.elapsed + 1) : sampled t = { expired t with
    subTick := (sampled t).subTick, ms := (sampled t).ms } := by
  have due : (countSample t).length ≤ (countSample t).elapsed := h
  simp only [sampled, if_pos due]
  rfl

theorem sampleStep_clocked (c : Chip) : Clocked c (sampleStep c) := by
  have counted : Clocked c (modTime countSample c) :=
    ⟨⟨fun ok => ok, fun ok => ok, fun ok => ok, fun ok => ok⟩, rfl, rfl, fun _ set => set⟩
  have chosen : Clocked c (madeChoice (modTime countSample c)) :=
    ⟨⟨fun ok => ok, fun ok => ok, fun ok => ok, fun ok => ok⟩, rfl, rfl, fun _ set => set⟩
  have ticked : ∀ d, Clocked d (tickWork d) := fun d =>
    Clocked.trans (c := tickBegun d)
      ⟨⟨fun ok => ok, fun ok => ok, fun ok => ok, fun ok => ok⟩, rfl, rfl, fun _ set => set⟩
      (ticked_tickWork d).worked.toClocked
  have timed : ∀ f (d : Chip), Clocked d (modTime f d) := fun f d =>
    ⟨⟨fun ok => ok, fun ok => ok, fun ok => ok, fun ok => ok⟩, rfl, rfl, fun _ set => set⟩
  have boundary : ∀ st tc d, Clocked d (makeBoundary st tc d) := fun st tc d =>
    (timed _ d).trans (worked_boundaryWork _).toClocked
  have expiry : ∀ d, Clocked d (expireBoundary d) := fun d => by
    unfold expireBoundary
    split
    · exact ((boundary _ _ d).trans (timed _ _)).trans (ticked_setAttention _ (ticked_refl _)).worked.toClocked
    · exact boundary _ _ d
  obtain ⟨-, -, e⟩ | ⟨-, -, e⟩ | ⟨-, -, e⟩ | ⟨-, -, e⟩ | ⟨-, -, e⟩ := sampleStep_cases c
  all_goals rw [e]
  · exact counted
  · exact counted.trans (ticked _)
  · exact counted.trans (expiry _)
  · exact (chosen.trans (expiry _)).trans (ticked _)
  · exact (chosen.trans (ticked _)).trans (expiry _)

/-- R17: the expiry in LOCKED sets REF_LOST. -/
theorem sampleStep_refLost {c : Chip} (locked : c.time.state = .locked) (due : c.time.length ≤ c.time.elapsed + 1) :
    attHas (sampleStep c).port.attention .refLost = true := by
  have lost : ∀ d : Chip, d.time.state = .locked → attHas (expireBoundary d).port.attention .refLost = true := fun d h => by
    simp only [expireBoundary, h, loseReference]
    exact (attHas_setAttention _ _ _).mpr (.inr (List.mem_singleton.mpr rfl))
  obtain ⟨early, -⟩ | ⟨early, -⟩ | ⟨-, -, e⟩ | ⟨-, -, e⟩ | ⟨-, -, e⟩ := sampleStep_cases c
  · exact absurd due (Nat.not_le.mpr early)
  · exact absurd due (Nat.not_le.mpr early)
  · rw [e]
    exact lost _ locked
  · rw [e]
    exact (ticked_tickWork _).attention _ (lost _ locked)
  · rw [e]
    exact lost _ (by rw [tickWork_time]; exact locked)

/-! ## A run of samples -/

theorem runClock_succ' (n : Nat) (c : Chip) : runClock (n + 1) c = sampleStep (runClock n c) := runClock_add n 1 c

theorem runClock_time (n : Nat) (c : Chip) : (runClock n c).time = sampled^[n] c.time := by
  induction n with
  | zero => rfl
  | succ n ih => rw [runClock_succ', sampleStep_time, ih, Function.iterate_succ_apply']

theorem runClock_clocked (n : Nat) (c : Chip) : Clocked c (runClock n c) :=
  runClock_keeps (P := Clocked c) (fun d h => h.trans (sampleStep_clocked d)) n (clocked_refl c)

/-- With no command waiting, a number of steps is a run of the clock. -/
theorem run_idle (n : Nat) (c : Chip) : Sys2Proof.core.run n (⟨c, []⟩ : State) = .next ⟨runClock n c, []⟩ := by
  induction n generalizing c with
  | zero => rfl
  | succ n ih => exact ih (sampleStep c)

/-- R22: the phase of the ticks after a run of samples. -/
theorem iterate_subTick (n : Nat) (t : Timebase) : (sampled^[n + 1] t).subTick = (t.subTick + (n + 1)) % 48 := by
  induction n with
  | zero => exact sampled_subTick t
  | succ n ih =>
    rw [Function.iterate_succ_apply', sampled_subTick, ih]
    omega

theorem iterate_subTick_mod (n : Nat) (t : Timebase) : (sampled^[n] t).subTick % 48 = (t.subTick + n) % 48 := by
  cases n with
  | zero => rfl
  | succ n => rw [iterate_subTick, Nat.mod_mod]

/-- R22: every 48 samples are a millisecond. -/
theorem iterate_ms (n : Nat) (t : Timebase) :
    (sampled^[n] t).ms = t.ms + BitVec.ofNat 32 ((t.subTick % 48 + n) / 48) := by
  induction n with
  | zero =>
    have : (t.subTick % 48 + 0) / 48 = 0 := by omega
    rw [this]
    exact (BitVec.add_zero t.ms).symm
  | succ n ih =>
    have phase := iterate_subTick_mod n t
    rw [Function.iterate_succ_apply', sampled_ms, ih]
    split
    · have : (t.subTick % 48 + (n + 1)) / 48 = (t.subTick % 48 + n) / 48 + 1 := by omega
      rw [this, BitVec.ofNat_add, BitVec.add_assoc]
      rfl
    · have : (t.subTick % 48 + (n + 1)) / 48 = (t.subTick % 48 + n) / 48 := by omega
      rw [this]

/-- R15: samples short of the timer's end. -/
theorem iterate_early {n : Nat} {t : Timebase} (h : n = 0 ∨ t.elapsed + n < t.length) : sampled^[n] t = { t with
    elapsed := t.elapsed + n, subTick := (sampled^[n] t).subTick, ms := (sampled^[n] t).ms } := by
  induction n with
  | zero => rfl
  | succ n ih =>
    have before := ih (.inr (by omega))
    have short : (sampled^[n] t).elapsed + 1 < (sampled^[n] t).length := by rw [before]; dsimp only; omega
    rw [Function.iterate_succ_apply']
    refine (sampled_early short).trans ?_
    rw [before]
    rfl

/-- R15: the samples to the timer's end, and what the expiry leaves (R17, R18). -/
theorem iterate_toExpiry (t : Timebase) : sampled^[samplesToExpiry t] t = { expired t with
    subTick := (sampled^[samplesToExpiry t] t).subTick, ms := (sampled^[samplesToExpiry t] t).ms } := by
  obtain ⟨n, left⟩ : ∃ n, samplesToExpiry t = n + 1 := ⟨samplesToExpiry t - 1, by unfold samplesToExpiry; omega⟩
  have bounds : (n = 0 ∨ t.elapsed + n < t.length) ∧ t.length ≤ t.elapsed + n + 1 := by
    unfold samplesToExpiry at left
    omega
  have before := iterate_early bounds.1
  have due : (sampled^[n] t).length ≤ (sampled^[n] t).elapsed + 1 := by rw [before]; exact bounds.2
  rw [left, Function.iterate_succ_apply']
  refine (sampled_due due).trans ?_
  rw [before]
  rfl

/-- Samples with no expiry and no tick among them: they are counted, and nothing else happens. -/
theorem runClock_quiet {n : Nat} {c : Chip} (early : n = 0 ∨ c.time.elapsed + n < c.time.length)
    (off : c.time.subTick % 48 + n < 48) : runClock n c = { c with time := { c.time with
      elapsed := c.time.elapsed + n, subTick := (sampled^[n] c.time).subTick } } := by
  induction n with
  | zero => rfl
  | succ n ih =>
    have before := ih (.inr (by omega)) (by omega)
    have phase := iterate_subTick_mod n c.time
    have short : ¬(countSample (runClock n c).time).length ≤ (countSample (runClock n c).time).elapsed := by
      rw [before]; simp only [countSample]; omega
    have between : ¬(countSample (runClock n c).time).subTick = 0 := by
      rw [before]; simp only [countSample]; omega
    obtain ⟨-, -, e⟩ | ⟨-, on, -⟩ | ⟨due, -⟩ | ⟨due, -⟩ | ⟨due, -⟩ := sampleStep_cases (runClock n c)
    · rw [runClock_succ', e, before, iterate_subTick]
      simp only [modTime, countSample]
      congr 2
      omega
    · exact absurd on between
    all_goals exact absurd due short

/-- R17: a run of the clock to the timer's end, in LOCKED, sets REF_LOST. -/
theorem runClock_refLost {c : Chip} (locked : c.time.state = .locked) :
    attHas (runClock (samplesToExpiry c.time) c).port.attention .refLost = true := by
  obtain ⟨n, left⟩ : ∃ n, samplesToExpiry c.time = n + 1 :=
    ⟨samplesToExpiry c.time - 1, by unfold samplesToExpiry; omega⟩
  have bounds : (n = 0 ∨ c.time.elapsed + n < c.time.length) ∧ c.time.length ≤ c.time.elapsed + n + 1 := by
    unfold samplesToExpiry at left
    omega
  have before := iterate_early bounds.1
  rw [left, runClock_succ']
  apply sampleStep_refLost
  · rw [runClock_time, before]; exact locked
  · rw [runClock_time, before]; exact bounds.2

/-- Settles O3: the phase of the tick wraps once in 48 samples, at which the tick is taken. -/
theorem fortyEightIdleStepsAreOneMillisecond : Obligations.FortyEightIdleStepsAreOneMillisecond := by
  unfold Obligations.FortyEightIdleStepsAreOneMillisecond
  intro ⟨c, pending⟩ idle phase
  obtain rfl : pending = [] := idle
  replace phase : c.time.subTick < 48 := phase
  refine ⟨_, run_idle 48 c, rfl, ?_, ?_⟩
  · have : (c.time.subTick % 48 + 48) / 48 = 1 := by omega
    rw [runClock_time, iterate_ms, this]
    rfl
  · rw [runClock_time, iterate_subTick 47]
    exact (Nat.add_mod_right ..).trans (Nat.mod_eq_of_lt phase)

end Sys2Proof.Clockwork

end


section
/-! Every step keeps the timebase, the banks, the budget's sum, the rate states and the mixer within their conditions:
what changes the timebase, the commands of the catalogue, the cells and messages, and the step. -/

namespace Sys2Proof.Clockwork

open Sys2Proof.Machine Sys2Proof.Safety Sys2Proof.Claims

-- One theorem after another: side by side, each waits for the others on a thread of its own.
set_option Elab.async false

/-! ## The conditions a step keeps -/

/-- The conditions of the timebase, the banks, the budget, the rate states and the mixer are kept. -/
structure Keeps (c d : Chip) : Prop extends KeepsBlocks c d where
  clock : TimeOk c → TimeOk d

variable {c d : Chip}

theorem timeOk_congr (e : d.time = c.time) (h : TimeOk c) : TimeOk d := by
  unfold TimeOk
  rw [e]
  exact h

theorem keeps_refl (c : Chip) : Keeps c c := ⟨keepsBlocks_refl c, fun h => h⟩

theorem Keeps.trans {b c d : Chip} (h : Keeps b c) (h' : Keeps c d) : Keeps b d :=
  ⟨h.toKeepsBlocks.trans h'.toKeepsBlocks, fun ok => h'.clock (h.clock ok)⟩

theorem Worked.keeps (h : Worked c d) : Keeps c d := ⟨h.toKeepsBlocks, timeOk_congr h.time⟩

theorem Ticked.keeps (h : Ticked c d) : Keeps c d := h.worked.keeps

/-- A chain of commands' work may end with any change that touches none of it. -/
theorem keeps_quiet {d' : Chip} (h : Keeps c d) (same : SameBlocks d d' := by exact ⟨rfl, rfl, rfl, rfl, rfl⟩)
    (time : d'.time = d.time := by rfl) : Keeps c d' :=
  h.trans ⟨same.keepsBlocks, timeOk_congr time⟩

/-- The timebase may change, if its condition is kept. -/
theorem keeps_modTime {f : Timebase → Timebase} (h : TimeOk c → TimeOk (modTime f c)) : Keeps c (modTime f c) :=
  ⟨⟨fun ok => ok, fun ok => ok, fun ok => ok, fun ok => ok⟩, h⟩

theorem keeps_modRate {k : Ctx} {f : RateState → RateState} (h : RateOk c.rate[k] → RateOk (f c.rate[k])) :
    Keeps c (modRate k f c) := (worked_modRate (worked_refl c) h).keeps

theorem keeps_mixer {m : Mixer} (h : MixerOk c → MixerOk { c with mixer := m }) : Keeps c { c with mixer := m } :=
  (worked_mixer (worked_refl c) h).keeps

theorem keeps_modInput {i : InputNo} {f : Input → Input} (h : InputOk c.mixer.inputs[i] → InputOk (f c.mixer.inputs[i])) :
    Keeps c (modInput i f c) := keeps_mixer fun ok => mixerOk_modInput ok h

/-! ## The timebase (chapter 2) -/

/-- R15: the timer restarted in a state at a timecode in range. -/
theorem timeOk_restartTimer (st : TimebaseState) {tc : Timecode} {t : Timebase} (range : timecodeOk t.rate tc = true)
    (phase : t.subTick < 48) (e : d.time = restartTimer st tc t) : TimeOk d := by
  have positive : 0 < timerLength st t.rate := by cases st <;> cases t.rate <;> decide
  unfold TimeOk
  rw [e]
  exact ⟨range, rfl, positive, phase⟩

/-- R13, R15, R20: a sample keeps the timebase within its condition. -/
theorem timeOk_sampled (h : TimeOk c) (e : d.time = sampled c.time) : TimeOk d := by
  obtain ⟨range, length, early, phase⟩ := h
  have off : (sampled c.time).subTick < 48 := by rw [sampled_subTick]; omega
  by_cases due : c.time.length ≤ c.time.elapsed + 1
  · have next := (countForward_next ((timecodeOk_iff _ _).mp range)).1
    refine timeOk_restartTimer (t := { c.time with
        refLosses := bumpIf (decide (c.time.state = .locked)) c.time.refLosses, subTick := (sampled c.time).subTick,
        ms := (sampled c.time).ms }) .freeRun ((timecodeOk_iff _ _).mpr next) off ?_
    rw [e, restartTimer_eq]
    exact sampled_due due
  · have short : c.time.elapsed + 1 < c.time.length := Nat.lt_of_not_le due
    unfold TimeOk
    rw [e, sampled_early short]
    exact ⟨range, length, short, off⟩

theorem keeps_sampleStep (c : Chip) : Keeps c (sampleStep c) :=
  ⟨(sampleStep_clocked c).toKeepsBlocks, fun ok => timeOk_sampled ok (sampleStep_time c)⟩

theorem keeps_runClock (n : Nat) (c : Chip) : Keeps c (runClock n c) :=
  runClock_keeps (P := Keeps c) (fun d h => h.trans (keeps_sampleStep d)) n (keeps_refl c)

theorem keeps_expiryIn (st : TimebaseState) (c : Chip) : Keeps c (expiryIn st c) := by
  unfold expiryIn
  split
  · exact keeps_runClock _ c
  · exact keeps_refl c

theorem keeps_restartTimer (st : TimebaseState) {tc : Timecode} (h : Keeps c d)
    (range : timecodeOk d.time.rate tc = true) : Keeps c (modTime (restartTimer st tc) d) := by
  refine h.trans (keeps_modTime fun ok => ?_)
  obtain ⟨-, -, -, phase⟩ := ok
  exact timeOk_restartTimer st range phase rfl

theorem keeps_makeBoundary (st : TimebaseState) {tc : Timecode} (h : Keeps c d)
    (range : timecodeOk d.time.rate tc = true) : Keeps c (makeBoundary st tc d) :=
  (keeps_restartTimer st h range).trans (worked_boundaryWork _).keeps

/-- R16, R19: a valid reference. -/
theorem keeps_takeReference {tc : Timecode} (range : timecodeOk c.time.rate tc = true) : Keeps c (takeReference tc c) := by
  unfold takeReference
  extract_lets taken
  have counted : Keeps c taken := keeps_modTime fun ok => ok
  split
  · exact keeps_makeBoundary .locked (counted.trans (keeps_modTime fun ok => ok)) range
  · split
    · exact keeps_restartTimer .locked counted range
    · exact keeps_makeBoundary .locked counted range

theorem judgeReference_valid {rate : Rate} {payload : List Byte} {tc : Timecode}
    (h : judgeReference rate payload = .valid tc) : timecodeOk rate tc = true := by
  unfold judgeReference at h
  split at h
  · dsimp only at h
    split at h
    · split at h
      · cases h
        assumption
      · cases h
    · cases h
  · cases h

theorem keeps_referenceCell (payload : List Byte) (c : Chip) : Keeps c (referenceCell payload c) := by
  unfold referenceCell
  split
  · exact keeps_modTime fun ok => ok
  · exact keeps_modTime fun ok => ok
  · exact keeps_takeReference (judgeReference_valid ‹_›)

/-- R21. -/
theorem keeps_setRate (rate : Byte) (c : Chip) : Keeps c (setRate rate c).1 := by
  unfold setRate
  split
  · exact keeps_refl c
  split
  · exact keeps_refl c
  rename_i r _
  split
  · exact keeps_refl c
  · refine keeps_modTime fun ok => ?_
    obtain ⟨range, -, -, phase⟩ := ok
    obtain ⟨hours, minutes, seconds, -⟩ := (timecodeOk_iff _ _).mp range
    have pictures := (rateHz_bounds r).1
    have first : InRange r { c.time.timecode with picture := 0 } := ⟨hours, minutes, seconds, by dsimp only; omega⟩
    exact timeOk_restartTimer .freeRun (t := { c.time with rate := r }) ((timecodeOk_iff _ _).mpr first) phase rfl

/-! ## Steering (chapter 3) -/

/-- R34: entries are stored with their operands brought into 0 to 4095. -/
theorem operands_storedEntry (e : SteerEntry) :
    (storedEntry e).first.toNat ≤ 4095 ∧ (storedEntry e).second.toNat ≤ 4095 := by
  have clamped : ∀ x : BitVec 16, (clampOperand x).toNat ≤ 4095 := fun x => by
    have range := clampNat_le (x := x.toNat) (show 0 ≤ 4095 by omega)
    rw [clampOperand, BitVec.toNat_ofNat, Nat.mod_eq_of_lt (by omega)]
    exact range.2
  exact ⟨clamped _, clamped _⟩

theorem operands_writeEntries {b : Vector SteerEntry 64} (es : List SteerEntry) (n : Nat)
    (h : ∀ e ∈ b.toList, e.first.toNat ≤ 4095 ∧ e.second.toNat ≤ 4095) :
    ∀ e ∈ (writeEntries b n es).toList, e.first.toNat ≤ 4095 ∧ e.second.toNat ≤ 4095 := by
  induction es generalizing b n with
  | nil => exact h
  | cons x es ih =>
    refine ih _ fun e he => ?_
    rw [Vector.toList_setIfInBounds] at he
    obtain he | rfl := List.mem_or_eq_of_mem_set he
    · exact h e he
    · exact operands_storedEntry x

theorem keeps_loadSteer (first count : Byte) (entries : List SteerEntry) (c : Chip) :
    Keeps c (loadSteer first count entries c).1 := by
  unfold loadSteer
  split
  · refine ⟨⟨fun ⟨bank0, bank1⟩ => ?_, fun ok => ok, fun ok => ok, fun ok => ok⟩, fun ok => ok⟩
    show BanksOk { c with steer := writeShadow first.toNat entries c.steer }
    unfold writeShadow
    split
    · exact ⟨operands_writeEntries _ _ bank0, bank1⟩
    · exact ⟨bank0, operands_writeEntries _ _ bank1⟩
  · exact keeps_refl c

/-! ## Budget and rate control (chapter 5) -/

/-- R75. -/
theorem keeps_setBudget (reserve : BitVec 16) (c : Chip) : Keeps c (setBudget reserve c).1 :=
  ⟨⟨fun ok => ok, fun ⟨sum, _⟩ => ⟨sum, (clampNat_le (Nat.zero_le _)).2⟩, fun ok => ok, fun ok => ok⟩, fun ok => ok⟩

theorem keeps_setContext (ctx weight : Byte) (minimum : BitVec 32) (boost bias slew marker : Byte)
    (latency : BitVec 16) (logMode : Byte) (c : Chip) :
    Keeps c (setContext ctx weight minimum boost bias slew marker latency logMode c).1 := by
  unfold setContext
  split
  · exact keeps_modRate fun ok => rateOk_setSettings ok _ _ _ _ _ _ marker _
  · exact keeps_refl c

theorem keeps_setReservoir (ctx depth qMin qMax qStart : Byte) (c : Chip) :
    Keeps c (setReservoir ctx depth qMin qMax qStart c).1 := by
  unfold setReservoir
  split
  · exact keeps_refl c
  split
  · exact keeps_refl c
  dsimp only
  split
  · exact keeps_refl c
  · exact keeps_modRate fun ok => rateOk_setShape ok _ _ _ _ (Nat.le_of_not_lt ‹_›)

theorem keeps_loadCurve (ctx : Byte) (entries : List Byte) (c : Chip) : Keeps c (loadCurve ctx entries c).1 := by
  unfold loadCurve
  repeat' split
  case h_2.isFalse => exact keeps_modRate fun ok => rateOk_setCurve ok entries
  all_goals exact keeps_refl c

/-! ## The mixer (chapter 6) -/

/-- R81: the condition does not read the gain table. -/
theorem keeps_loadGain (first count : Byte) (entries : List (BitVec 16)) (c : Chip) :
    Keeps c (loadGain first count entries c).1 := by
  unfold loadGain
  split
  · exact keeps_refl c
  split
  · exact keeps_refl c
  split
  · exact keeps_mixer fun ok => ok
  · exact keeps_refl c

/-- R89. -/
theorem keeps_setFader (input target step : Byte) (c : Chip) : Keeps c (setFader input target step c).1 := by
  unfold setFader
  split
  · exact keeps_refl c
  · exact keeps_modInput fun ok => inputOk_withFader ok (faderOk_setStep
      (faderOk_setTarget (inputOk_fader ok) (Nat.le_of_lt_succ target.isLt)) (clampNat_le (by omega)))

theorem keeps_setAfv (input link onIndex offIndex : Byte) (c : Chip) :
    Keeps c (setAfv input link onIndex offIndex c).1 := by
  unfold setAfv
  split
  · exact keeps_modInput fun ok => inputOk_setLink ok _ onIndex offIndex
  · exact keeps_refl c

theorem keeps_setSends (input pgmL pgmR auxA auxB : Byte) (c : Chip) :
    Keeps c (setSends input pgmL pgmR auxA auxB c).1 := by
  unfold setSends
  split
  · exact keeps_refl c
  · exact keeps_modInput fun ok => inputOk_setSends ok pgmL pgmR auxA auxB

/-- R93: a master index is a byte. -/
theorem mixerOk_storeBus (b : BusNo) (master : Byte) (mute : Bool) (h : MixerOk c) :
    MixerOk { c with mixer := storeBus b master.toNat mute c.mixer } :=
  mixerOk_of_inputs h h.1
    (forall_modAt (P := fun x : Bus => x.master ≤ 255) h.2.1 fun _ => Nat.le_of_lt_succ master.isLt)

theorem keeps_setBus (bus master mute : Byte) (stream : BitVec 16) (c : Chip) :
    Keeps c (setBus bus master mute stream c).1 := by
  unfold setBus
  split
  · rename_i b mu _ _
    split
    · split
      · exact keeps_refl c
      · have stored := keeps_mixer (mixerOk_storeBus (c := c) b master mu)
        refine stored.trans (keeps_mixer fun ok => ?_)
        unfold storeAuxStream
        split
        · exact ok
        · split
          all_goals exact ok
    · exact keeps_mixer (mixerOk_storeBus b master mu)
  · exact keeps_refl c

theorem keeps_setAudioSend (value : Byte) (c : Chip) : Keeps c (setAudioSend value c).1 := by
  unfold setAudioSend
  split
  · exact keeps_refl c
  · exact keeps_mixer fun ok => ok

/-- R87: the meters read and cleared. -/
theorem keeps_readMeters (c : Chip) : Keeps c (readMeters c).1 :=
  keeps_mixer fun ok => mixerOk_of_inputs ok ok.1
    (forall_mapAll (P := fun x : Bus => x.master ≤ 255) ok.2.1 fun _ master => master)

theorem keeps_audioInputLost (i : InputNo) (c : Chip) : Keeps c (audioInputLost i c) := by
  unfold audioInputLost
  split
  · rename_i event
    have run : c.port.mode = .run := by simpa using (Bool.and_eq_true_iff.mp event).1
    exact (ticked_takeBlock i run (ticked_refl c)).keeps
  · exact keeps_refl c

/-! ## The selector and the contexts (chapters 4 and 7) -/

theorem keeps_setTally (ctx : Byte) (stream : BitVec 16) (c : Chip) : Keeps c (setTally ctx stream c).1 := by
  unfold setTally
  split
  · exact keeps_refl c
  · dsimp only
    split
    · exact keeps_refl c
    · exact (worked_offerTallyOf _ (worked_quiet (worked_refl c))).keeps

theorem keeps_startContext (ctx : Byte) (c : Chip) : Keeps c (startContext ctx c).1 := by
  unfold startContext
  repeat' split
  all_goals exact keeps_quiet (keeps_refl c)

theorem worked_stopAtSelector (k : Ctx) (h : Worked c d) : Worked c (stopAtSelector k d) := by
  have programme : Worked c (stopProgramme k d) := by
    unfold stopProgramme
    split
    · exact worked_afvHandover _ (worked_setAttention _ (worked_quiet h))
    · exact h
  have stopped : Worked c (stopPreset k (stopProgramme k d)) := by
    unfold stopPreset
    split
    · exact worked_quiet programme
    · exact programme
  unfold stopAtSelector
  dsimp only
  split
  · exact worked_offerTallySet stopped
  · exact stopped

/-- R44. -/
theorem worked_stopRunning (k : Ctx) (h : Worked c d) : Worked c (stopRunning k d) := by
  have abandoned : Worked c (abandonFor k d) := by
    unfold abandonFor
    split
    · exact h
    · split
      · exact worked_resolve _ _ _ _ (worked_quiet h)
      · exact h
  have ready : Worked c (shedReady k (abandonFor k d)) := by
    unfold shedReady
    split
    · exact worked_resolve _ _ _ _ (worked_quiet abandoned)
    · exact abandoned
  have gathering : Worked c (shedGathering k (shedReady k (abandonFor k d))) := by
    unfold shedGathering
    split
    · exact worked_resolve _ _ _ _ (worked_quiet ready)
    · exact ready
  unfold stopRunning drainOrStop
  split
  · exact worked_reachStopped k gathering
  · exact worked_quiet gathering

theorem keeps_stopContext (ctx : Byte) (c : Chip) : Keeps c (stopContext ctx c).1 := by
  unfold stopContext
  split
  · exact keeps_refl c
  split
  · exact keeps_refl c
  split
  · exact (worked_arbitrate (worked_stopAtSelector _ (worked_reachStopped _ (worked_refl c)))).keeps
  · exact (worked_arbitrate (worked_stopAtSelector _ (worked_stopRunning _ (worked_refl c)))).keeps
  all_goals exact keeps_refl c

/-! ## The home link and the return path (chapter 8) -/

theorem keeps_linkOpen (c : Chip) : Keeps c (linkOpen c).1 := by
  unfold linkOpen
  split
  · exact keeps_refl c
  split
  · have entered : Ticked c (enterLink .hailing [] (modLink (fun l => { l with attempt := 1 }) c)) :=
      ticked_enterLink _ _ (ticked_quiet (ticked_refl c))
    exact (ticked_quiet entered).keeps
  · exact keeps_refl c

theorem keeps_handover (c : Chip) : Keeps c (handover c).1 := by
  unfold handover
  split
  · exact keeps_refl c
  split
  · exact (ticked_checkDrain (ticked_enterLink _ _ (ticked_quiet (ticked_refl c)))).keeps
  · exact keeps_refl c

theorem keeps_linkClose (c : Chip) : Keeps c (linkClose c).1 := by
  unfold linkClose
  split
  · exact keeps_refl c
  split
  · exact keeps_refl c
  · have lost : Ticked c (declareAllLost (modLink (fun l => { l with
        answerWindow := none, retryGap := none, silence := none, drainLimit := none, phase := none, attempt := 0 }) c)) :=
      ticked_declareAllLost (ticked_quiet (ticked_refl c))
    exact (ticked_enterLink _ _ (ticked_quiet lost)).keeps

theorem ticked_openLink (v : Nat) (h : Ticked c d) : Ticked c (openLink v d) := by
  have opened : Ticked c (enterLink .up [] (modLink (fun l => { storeCapacity v l with
      answerWindow := none, retryGap := none, phase := none, attempt := 0, credit := 0 }) d)) :=
    ticked_enterLink _ _ (ticked_quiet h)
  exact ticked_quiet opened

theorem ticked_takeBody (b : ReturnBody) (h : Ticked c d) : Ticked c (takeBody b d) := by
  have stray : Ticked c (countStray d) := ticked_quiet h
  cases b with
  | hailAnswer v =>
    cases state : d.link.state
    all_goals simp only [takeBody, state]
    case hailing => exact ticked_openLink v h
    all_goals exact stray
  | ack ns =>
    have acks : Ticked c (ackFrames ns d) := ticked_foldl (fun _ n => ticked_ackFrame n) ns h
    cases state : d.link.state
    all_goals simp only [takeBody, state]
    case down => exact stray
    all_goals exact acks
  | capacity v =>
    have capacity : Ticked c (takeCapacity v d) := ticked_setAttention _ (ticked_quiet h)
    cases state : d.link.state
    all_goals simp only [takeBody, state]
    case down => exact stray
    all_goals exact capacity

theorem ticked_heard (h : Ticked c d) : Ticked c (heard d) := by
  unfold heard
  split
  case h_3 =>
    have entered : Ticked c (enterLink .up [] d) := ticked_enterLink _ _ h
    exact ticked_quiet entered
  all_goals exact ticked_quiet h

theorem keeps_returnMessage (bytes : List Byte) (c : Chip) : Keeps c (returnMessage bytes c) := by
  have start := ticked_refl c
  unfold returnMessage
  split
  · exact (ticked_quiet start).keeps
  · exact (ticked_quiet start).keeps
  · split
    · exact (ticked_heard (ticked_takeBody _ (ticked_quiet start))).keeps
    · exact (ticked_quiet start).keeps

/-! ## The clip log (chapter 11) -/

theorem keeps_markIn (ctx : Byte) (text : List Byte) (rating : Byte) (c : Chip) :
    Keeps c (markIn ctx text rating c).1 := by
  unfold markIn
  repeat' split
  all_goals exact keeps_quiet (keeps_refl c)

theorem keeps_markOut (c : Chip) : Keeps c (markOut c).1 := by
  unfold markOut
  split
  · exact keeps_refl c
  split
  · exact keeps_refl c
  · exact (ticked_closeClip _ _ (ticked_quiet (ticked_refl c))).keeps

theorem keeps_setClipMode (autoSend : Byte) (autoClip : Vector Byte 6) (c : Chip) :
    Keeps c (setClipMode autoSend autoClip c).1 := by
  unfold setClipMode
  split
  all_goals exact keeps_quiet (keeps_refl c)

theorem ticked_labelClip (i : Nat) (x : Clip) (text : List Byte) (rating : Byte) (c : Chip) :
    Ticked c (labelClip i x text rating c).1 := by
  have start := ticked_refl c
  unfold labelClip
  extract_lets y ok
  split
  case h_5 | h_6 =>
    split
    · exact start
    · exact ticked_autoOffer _ _ (ticked_quiet start)
  all_goals
    repeat' split
    all_goals exact ticked_quiet start

theorem keeps_label (index : Byte) (text : List Byte) (rating : Byte) (c : Chip) :
    Keeps c (label index text rating c).1 := by
  unfold label
  repeat' split
  case h_2 => exact (ticked_labelClip _ _ text rating c).keeps
  all_goals exact keeps_refl c

theorem keeps_sendLabel (index : Byte) (c : Chip) : Keeps c (sendLabel index c).1 := by
  unfold sendLabel
  split
  · exact keeps_refl c
  split
  · exact keeps_refl c
  split
  · exact keeps_refl c
  split
  · exact (ticked_offerLabel _ _ (ticked_refl c)).keeps
  all_goals exact keeps_refl c

theorem keeps_voidClip (index : Byte) (c : Chip) : Keeps c (voidClip index c).1 := by
  unfold voidClip
  repeat' split
  all_goals exact keeps_quiet (keeps_refl c)

theorem keeps_setFence (position : Byte) (c : Chip) : Keeps c (setFence position c).1 := by
  unfold setFence
  dsimp only
  repeat' split
  all_goals exact keeps_quiet (keeps_refl c)

theorem keeps_clearClips (c : Chip) : Keeps c (clearClips c).1 := by
  unfold clearClips
  split
  all_goals exact keeps_quiet (keeps_refl c)

/-! ## Part modes and unit reset (chapter 12) -/

theorem keeps_goRun (c : Chip) : Keeps c (goRun c).1 := by
  unfold goRun
  split
  all_goals exact keeps_quiet (keeps_refl c)

/-- R97, R178: STANDBY empties the inputs and the frame being built. -/
theorem keeps_standBy (c : Chip) : Keeps c (standBy c).1 := by
  unfold standBy
  split
  · have cleaned : Keeps c { c with mixer := cleanStart c.mixer } := keeps_mixer fun ⟨inputs, masters, _⟩ =>
      ⟨forall_mapAll inputs fun _ => inputOk_cleaned, masters, Nat.zero_le 3, rfl⟩
    exact keeps_quiet cleaned
  · exact keeps_refl c

/-- R24, R40, R77, R99, R182: the blocks' part of a unit reset. -/
theorem keeps_resetBlocks (c : Chip) : Keeps c (resetBlocks c) where
  banks ok := ok
  budget := fun ⟨_, reserve⟩ => ⟨rfl, reserve⟩
  rates ok := forall_mapAll ok fun _ ok => rateOk_emptied ok 0 0
  inputs := fun ⟨inputs, masters, _⟩ =>
    ⟨forall_mapAll inputs fun _ => inputOk_resetInput,
      forall_mapAll (P := fun x : Bus => x.master ≤ 255) masters fun _ master => master, Nat.zero_le 3, rfl⟩
  clock ok := ok

theorem worked_offerTallyOff (c : Chip) : Worked c (offerTallyOff c) := by
  refine worked_foldl (fun d k h => ?_) _ (worked_refl _)
  split
  · exact h
  · rw [offerTally_frame]
    exact worked_quiet h

theorem keeps_unitReset (c : Chip) : Keeps c (unitReset c) :=
  (keeps_resetBlocks c).trans (worked_offerTallyOff _).keeps

theorem keeps_resetUnit (c : Chip) : Keeps c (resetUnit c).1 := by
  dsimp only [resetUnit]
  exact keeps_unitReset c

theorem keepsBlocks_unit {c : Chip} {unit : Fin 4} {choices : Nat} :
    KeepsBlocks c { c with unit := unit, choices := choices } :=
  SameBlocks.keepsBlocks ⟨rfl, rfl, rfl, rfl, rfl⟩

/-- R7: after power-on the conditions hold, whatever the part was. -/
theorem keeps_powerOnPart (straps : BitVec 4) (c : Chip) : Keeps c (powerOnPart straps c) := by
  have same : KeepsBlocks Chip.powerOn (powerOnPart straps c) := keepsBlocks_unit
  have banks := same.banks VanFabric.banksOk_powerOn
  have budget := same.budget VanFabric.budgetOk_powerOn
  have rates := same.rates VanFabric.ratesOk_powerOn
  have inputs := same.inputs VanFabric.mixerOk_powerOn
  exact ⟨⟨fun _ => banks, fun _ => budget, fun _ => rates, fun _ => inputs⟩, fun _ => VanFabric.timeOk_powerOn⟩

/-! ## Commands and cells (R2 to R6, R175, R176) -/

theorem keeps_takeAddressed (tag : Byte) (name : List Byte) {work : Chip → Chip × Reply}
    (hw : ∀ d, Keeps d (work d).1) : Keeps c (takeAddressed tag name work c) := by
  unfold takeAddressed
  split
  · exact keeps_quiet (keeps_refl c)
  · dsimp only
    rw [placeAnswer_frame]
    have held : Keeps c (holdPlace c) := keeps_quiet (keeps_refl c)
    exact keeps_quiet (held.trans (hw _))

theorem keeps_takeCommand {tag : Byte} {name : CommandName} {work : Chip → Chip × Reply}
    (hw : ∀ d, Keeps d (work d).1) : Keeps c (takeCommand tag name work c) := keeps_takeAddressed tag _ hw

/-- R101: a selection in both its forms. -/
theorem keeps_select (name : CommandName) (inRange : Bool) {take : Chip → Chip}
    (quiet : ∀ d, Keeps d (take d)) :
    (∀ tag, Keeps c (takeCommand tag name (fun d =>
      if inRange then (take d, reply .done) else refuse .refusedRange d) c)) ∧
    Keeps c (takeGlobal (fun d => if inRange then take d else countRefusedGlobal d) c) := by
  have counted : Keeps c { c with port := { c.port with globalsTaken := bump c.port.globalsTaken } } :=
    keeps_quiet (keeps_refl c)
  cases inRange
  · exact ⟨fun tag => keeps_takeCommand fun d => keeps_refl d, keeps_quiet counted⟩
  · exact ⟨fun tag => keeps_takeCommand quiet, counted.trans (quiet _)⟩

theorem keeps_preset (dest : Dest) (unit ctx : Byte) (c : Chip) : Keeps c (preset dest unit ctx c) := by
  obtain ⟨addressed, global⟩ := keeps_select (c := c) .preset (selectInRange unit ctx) (take := takePreset unit ctx)
    fun d => keeps_quiet (keeps_refl d)
  cases dest with
  | unit tag => exact addressed tag
  | all => exact global

theorem keeps_cutTo (dest : Dest) (unit ctx : Byte) (c : Chip) : Keeps c (cutTo dest unit ctx c) := by
  obtain ⟨addressed, global⟩ := keeps_select (c := c) .cutTo (selectInRange unit ctx) (take := takeCut unit ctx)
    fun d => keeps_quiet (keeps_refl d)
  cases dest with
  | unit tag => exact addressed tag
  | all => exact global

theorem keeps_take (dest : Dest) (c : Chip) : Keeps c (take dest c) := by
  cases dest with
  | unit tag => exact keeps_takeCommand fun d => keeps_quiet (keeps_refl d)
  | all => exact keeps_quiet (keeps_refl c)

theorem keeps_swapSteer (dest : Dest) (c : Chip) : Keeps c (swapSteer dest c) := by
  cases dest with
  | unit tag => exact keeps_takeCommand fun d => keeps_quiet (keeps_refl d)
  | all => exact keeps_quiet (keeps_refl c)

/-- A command whose work only answers, or is refused. -/
theorem keeps_takeReading {tag : Byte} {name : CommandName} {work : Chip → Chip × Reply}
    (reads : ∀ d, (work d).1 = d) : Keeps c (takeCommand tag name work c) :=
  keeps_takeCommand fun d => by rw [reads]; exact keeps_refl d

theorem readSteer_fst (bank first count : Byte) (d : Chip) : (readSteer bank first count d).1 = d := by
  unfold readSteer
  split
  · rfl
  · split
    all_goals rfl

/-- R176: every command of the catalogue; an event is no command. -/
theorem keeps_runCommand (i : Instr) (c : Chip) : Keeps c (runCommand i c) := by
  cases i with
  | setRate t r => exact keeps_takeCommand (keeps_setRate r)
  | loadSteer t f n es => exact keeps_takeCommand (keeps_loadSteer f n es)
  | readSteer t b f n => exact keeps_takeReading (readSteer_fst b f n)
  | steerDefault t a =>
    refine keeps_takeCommand fun d => ?_
    unfold steerDefault
    split
    all_goals exact keeps_quiet (keeps_refl d)
  | swapSteer dest => exact keeps_swapSteer dest c
  | startContext t k => exact keeps_takeCommand (keeps_startContext k)
  | stopContext t k => exact keeps_takeCommand (keeps_stopContext k)
  | setContext t k w m bo bi sl mk la mode => exact keeps_takeCommand (keeps_setContext k w m bo bi sl mk la mode)
  | setReservoir t k dp lo hi st => exact keeps_takeCommand (keeps_setReservoir k dp lo hi st)
  | loadCurve t k es => exact keeps_takeCommand (keeps_loadCurve k es)
  | setBudget t r => exact keeps_takeCommand (keeps_setBudget r)
  | loadGain t f n es => exact keeps_takeCommand (keeps_loadGain f n es)
  | readGain t f n => exact keeps_takeReading fun d => by unfold readGain; split; all_goals rfl
  | setFader t i x r => exact keeps_takeCommand (keeps_setFader i x r)
  | setAfv t i l on off => exact keeps_takeCommand (keeps_setAfv i l on off)
  | setSends t i a b x y => exact keeps_takeCommand (keeps_setSends i a b x y)
  | setBus t b m mute s => exact keeps_takeCommand (keeps_setBus b m mute s)
  | setAudioSend t v => exact keeps_takeCommand (keeps_setAudioSend v)
  | readMeters t => exact keeps_takeCommand keeps_readMeters
  | preset dest u k => exact keeps_preset dest u k c
  | take dest => exact keeps_take dest c
  | cutTo dest u k => exact keeps_cutTo dest u k c
  | setTally t k s => exact keeps_takeCommand (keeps_setTally k s)
  | linkOpen t => exact keeps_takeCommand keeps_linkOpen
  | handover t => exact keeps_takeCommand keeps_handover
  | linkClose t => exact keeps_takeCommand keeps_linkClose
  | setLink t v a r s k => exact keeps_takeCommand fun d => keeps_quiet (keeps_refl d)
  | readLog t =>
    refine keeps_takeCommand fun d => ?_
    unfold readLog
    split
    all_goals exact keeps_quiet (keeps_refl d)
  | markIn t k text rating => exact keeps_takeCommand (keeps_markIn k text rating)
  | markOut t => exact keeps_takeCommand keeps_markOut
  | setClipMode t a cs => exact keeps_takeCommand (keeps_setClipMode a cs)
  | label t i text rating => exact keeps_takeCommand (keeps_label i text rating)
  | sendLabel t i => exact keeps_takeCommand (keeps_sendLabel i)
  | voidClip t i => exact keeps_takeCommand (keeps_voidClip i)
  | setFence t n => exact keeps_takeCommand (keeps_setFence n)
  | clearClips t => exact keeps_takeCommand keeps_clearClips
  | readClip t i => exact keeps_takeReading fun d => by unfold readClip; split; all_goals rfl
  | go t => exact keeps_takeCommand keeps_goRun
  | standby t => exact keeps_takeCommand keeps_standBy
  | resetUnit t => exact keeps_takeCommand keeps_resetUnit
  | readStatus t b i => exact keeps_takeReading fun d => by unfold readStatus; split; all_goals rfl
  | setNotices t m => exact keeps_takeCommand fun d => keeps_quiet (keeps_refl d)
  | ackAttention t m => exact keeps_takeCommand fun d => keeps_quiet (keeps_refl d)
  | _ => exact keeps_refl c

theorem keeps_controlCell (unit : BitVec 4) (payload : List Byte) (c : Chip) : Keeps c (controlCell unit payload c) := by
  unfold controlCell
  split
  · exact keeps_quiet (keeps_refl c)
  split
  · unfold addressedCell
    split
    · exact keeps_takeAddressed _ _ keeps_refl
    · split
      · exact keeps_takeAddressed _ _ keeps_refl
      · exact keeps_runCommand _ c
  split
  · unfold globalCell
    split
    · exact keeps_runCommand _ c
    · exact keeps_quiet (keeps_refl c)
  · exact keeps_quiet (keeps_refl c)

theorem keeps_laneBytes (n : LaneNo) (bytes : List Byte) (c : Chip) : Keeps c (laneBytes n bytes c) := by
  have counted : ∀ f, Keeps c (modLane n f c) := fun f => keeps_quiet (keeps_refl c)
  unfold laneBytes
  split
  · exact counted _
  unfold receiveCell
  split
  · exact counted _
  · exact counted _
  · exact (counted _).trans (keeps_controlCell _ _ _)
  · exact (counted _).trans (keeps_referenceCell _ _)
  · exact (counted _).trans (worked_steerCell _ _ _ (worked_refl _)).keeps

theorem keeps_foSent (c : Chip) : Keeps c (foSent c) := by
  unfold foSent
  split
  · exact keeps_refl c
  · rw [startFo_frame]
    refine keeps_quiet ?_
    unfold refillOut
    repeat' split
    all_goals exact keeps_quiet (keeps_refl c)

/-! ## A step -/

theorem keeps_exec {i : Instr} {s t : State} (h : exec i s = .next t) : Keeps s.chip t.chip := by
  have start := ticked_refl s.chip
  have command : encodeParams i ≠ none → Keeps s.chip t.chip := fun hi => by
    rw [VanFabric.exec_command hi] at h
    cases h
    exact keeps_runCommand i s.chip
  cases i with
  | powerOnReset straps => cases h; exact keeps_powerOnPart straps _
  | cellArrival n bytes => cases h; exact keeps_laneBytes n bytes _
  | referenceLoss => cases h; exact keeps_expiryIn _ _
  | freeRunBoundary => cases h; exact keeps_expiryIn _ _
  | blockTick => cases h; exact keeps_runClock _ _
  | audioInputLost i => cases h; exact keeps_audioInputLost i _
  | pictureDeadline k n => cases h; exact (ticked_deadlinePasses k n start).keeps
  | ackWindowExpiry n => cases h; exact (ticked_ackExpiry n start).keeps
  | hailAnswerWindowExpiry => cases h; exact (ticked_windowExpiry start).keeps
  | hailRetryGapExpiry => cases h; exact (ticked_gapExpiry start).keeps
  | silenceExpiry => cases h; exact (ticked_silenceRunsOut start).keeps
  | drainLimitExpiry => cases h; exact (ticked_drainExpiry start).keeps
  | codingCompletion coded => cases h; exact (worked_codingDone coded (worked_refl _)).keeps
  | returnMessageArrival bytes => cases h; exact keeps_returnMessage bytes _
  | foSendCompletion => cases h; exact keeps_foSent _
  | _ => exact command (Option.some_ne_none _)

theorem keeps_step {s t : State} (h : step s = .next t) : Keeps s.chip t.chip := by
  obtain ⟨c, pending⟩ := s
  cases pending with
  | nil =>
    rw [step_idle] at h
    cases h
    exact keeps_sampleStep c
  | cons i rest => exact keeps_exec (s := ⟨c, rest⟩) h

/-- Settles O53: each operation that a step is made of keeps the five conditions, and a step is one of them. -/
theorem stepsKeepTimeRatesAndMixer : Obligations.StepsKeepTimeRatesAndMixer := by
  unfold Obligations.StepsKeepTimeRatesAndMixer
  intro s t h
  obtain ⟨⟨banks, budget, rates, inputs⟩, clock⟩ := keeps_step h
  exact ⟨clock, banks, budget, rates, inputs⟩

end Sys2Proof.Clockwork

end


section
/-! The timebase's events and its command (chapter 2): SET_RATE, a reference cell, the expiries of the expected-boundary
timer and the block tick. -/

namespace Sys2Proof.Clockwork

open Sys2Proof.Machine Sys2Proof.Safety Sys2Proof.Claims

/-- An event's row, from what its work makes of the part. -/
theorem ends_of_work {i : Instr} {s : State} {work : Chip → Chip} {d : Chip} (row : exec i s = s.onChip work)
    (hw : work s.chip = d) : Ends i s d := by
  subst hw
  exact row

/-! ## SET_RATE (R21) -/

/-- R175 to R177: what a command with room in the report queue is answered with, from what its work makes of the part
with a place held. -/
theorem answers_of_work {i : Instr} {s : State} {tag : Byte} {name : CommandName} {work : Chip → Chip × Reply}
    {code : ResultCode} {data : List Byte} {f : Chip → Chip} (room : HasRoom s)
    (row : exec i s = s.onChip (takeCommand tag name work))
    (hw : work (holdPlace s.chip) = (f (holdPlace s.chip), ⟨code, data⟩)) : Answers i s tag name code data f := by
  show exec i s = _
  rw [row, State.onChip, takeCommand_room room, hw]

theorem rateOf_rateHz {b : Byte} {r : Rate} (h : rateHz r = b.toNat) : rateOf b = some r := by
  obtain rfl : b = BitVec.ofNat 8 (rateHz r) := by rw [h, BitVec.ofNat_toNat, BitVec.setWidth_eq]
  cases r <;> rfl

theorem rateHz_of_rateOf {b : Byte} {r : Rate} (h : rateOf b = some r) : rateHz r = b.toNat := by
  unfold rateOf at h
  split at h
  · subst b; cases h; rfl
  split at h
  · subst b; cases h; rfl
  split at h
  · subst b; cases h; rfl
  split at h
  · subst b; cases h; rfl
  · cases h

/-- Settles O20: SET_RATE's tests in their order, the mode, the rate and whether it is the configured one. -/
theorem setRateRestartsTheTimebase : Obligations.SetRateRestartsTheTimebase := by
  unfold Obligations.SetRateRestartsTheTimebase
  intro tag rate s room
  have answers : ∀ {code data f}, setRate rate (holdPlace s.chip) = (f (holdPlace s.chip), ⟨code, data⟩) →
      Answers (.setRate tag rate) s tag .setRate code data f := answers_of_work room rfl
  refine ⟨fun run => answers ?_, fun standby none => answers ?_, fun standby same => answers ?_,
    fun standby r named other => answers ?_⟩
  · have : (holdPlace s.chip).port.mode ≠ .standby := by rw [holdPlace_mode, run]; nofun
    rw [setRate, if_pos this]
    rfl
  all_goals
    have taken : ¬(holdPlace s.chip).port.mode ≠ .standby := not_not_intro standby
    rw [setRate, if_neg taken]
  · have unnamed : rateOf rate = Option.none :=
      Option.eq_none_iff_forall_ne_some.mpr fun r h => none r (rateHz_of_rateOf h)
    rw [unnamed]
    rfl
  · rw [rateOf_rateHz same.symm]
    exact if_pos rfl
  · rw [rateOf_rateHz named]
    refine (if_neg other).trans ?_
    rw [modTime, changeRate, restartTimer_eq]
    rfl

/-! ## Reference cells (R13, R16, R19) -/

/-- R13: the rate code of the configured rate is the one that is no mismatch. -/
theorem rateOfCode_iff (b : Byte) (r : Rate) : rateOfCode b = some r ↔ b.toNat = (match r with
    | .r25 => 1
    | .r30 => 2
    | .r50 => 3
    | .r60 => 4) := by
  have code : ∀ n < 256, b = BitVec.ofNat 8 n ↔ b.toNat = n := fun n h => by
    rw [← BitVec.toNat_inj, BitVec.toNat_ofNat, Nat.mod_eq_of_lt h]
  simp only [rateOfCode, code 1 (by decide), code 2 (by decide), code 3 (by decide), code 4 (by decide)]
  cases r
  all_goals
    dsimp only
    grind

theorem judgeReference_length {r : Rate} {payload : List Byte} (h : payload.length ≠ 5) :
    judgeReference r payload = .invalid := by
  unfold judgeReference
  split
  · exact absurd rfl h
  · rfl

/-- R5: a REFERENCE cell on stream 1 is the timebase's. -/
theorem ends_reference {n : LaneNo} {bytes : List Byte} {x : Cell} {s : State} {d : Chip} (read : readCell bytes = some x)
    (kind : x.kind = 5#4) (stream : x.stream = 1#12) (h : referenceCell x.payload (countAccepted n s.chip) = d) :
    Ends (.cellArrival n bytes) s d := by
  refine VanFabric.ends_cellArrival read n s ?_
  have verdict : laneVerdict x = .reference := by
    rw [VanFabric.laneVerdict_of_kind (k := .reference) kind, stream]
    rfl
  rw [receiveCell, verdict]
  exact h

/-- Section 2.1: half a period is a whole number of samples at each rate. -/
theorem halfSamples_iff (r : Rate) (n : Nat) : n < halfSamples r ↔ 2 * n < 48000 / rateHz r := by
  cases r
  all_goals
    simp only [halfSamples, periodSamples, rateHz]
    omega

/-- R16: in LOCKED a valid reference makes a boundary. -/
theorem takeReference_locked {c : Chip} {tc : Timecode} (h : c.time.state = .locked) :
    takeReference tc c = boundaryWork { c with time := restarted .locked tc { c.time with
      refsTaken := bump c.time.refsTaken,
      jumps := bumpIf (decide (tc ≠ countForward c.time.rate c.time.timecode)) c.time.jumps } } := by
  have jump : isJump c.time tc = decide (tc ≠ countForward c.time.rate c.time.timecode) := by
    rw [isJump, decide_not]
    rfl
  simp only [takeReference, h, makeBoundary, modTime, restartTimer_eq, ← jump]
  rfl

/-- R19: in FREE_RUN, less than half a period after the last boundary, it makes none. -/
theorem takeReference_early {c : Chip} {tc : Timecode} (h : c.time.state = .freeRun)
    (early : 2 * c.time.elapsed < 48000 / rateHz c.time.rate) :
    takeReference tc c = { c with time := restarted .locked tc { c.time with refsTaken := bump c.time.refsTaken } } := by
  simp only [takeReference, h, if_pos ((halfSamples_iff _ _).mpr early), modTime, restartTimer_eq]

/-- R19: in FREE_RUN, half a period after the last boundary or later, it makes one. -/
theorem takeReference_late {c : Chip} {tc : Timecode} (h : c.time.state = .freeRun)
    (late : 48000 / rateHz c.time.rate ≤ 2 * c.time.elapsed) :
    takeReference tc c = boundaryWork { c with time := restarted .locked tc { c.time with
      refsTaken := bump c.time.refsTaken } } := by
  have late : ¬c.time.elapsed < halfSamples c.time.rate := fun early =>
    Nat.not_lt.mpr late ((halfSamples_iff _ _).mp early)
  simp only [takeReference, h, if_neg late, makeBoundary, modTime, restartTimer_eq]

/-- Settles O18: the three tests of R13 in their order, and then the state. -/
theorem referenceCellIsJudgedAndTaken : Obligations.ReferenceCellIsJudgedAndTaken := by
  unfold Obligations.ReferenceCellIsJudgedAndTaken
  intro n bytes x s read kind stream c t
  refine ⟨fun length => ends_reference read kind stream ?_, fun h m sec p code payload => ?_⟩
  · rw [referenceCell, judgeReference_length length]
    rfl
  intro carried configured taken
  have ends : ∀ {d}, referenceCell [h, m, sec, p, code] c = d → Ends (.cellArrival n bytes) s d := fun e =>
    ends_reference read kind stream (payload ▸ e)
  have judged : judgeReference c.time.rate [h, m, sec, p, code] = if rateOfCode code = some t.rate then
      (if timecodeOk t.rate carried then .valid carried else .invalid) else .mismatch := rfl
  have valid : code.toNat = configured → InRange t.rate carried →
      referenceCell [h, m, sec, p, code] c = takeReference carried c := fun rate inRange => by
    rw [referenceCell, judged, if_pos ((rateOfCode_iff code t.rate).mpr rate), if_pos ((timecodeOk_iff _ _).mpr inRange)]
  refine ⟨fun rate => ends ?_, fun rate outOfRange => ends ?_, fun rate inRange locked => ends ?_,
    fun rate inRange free early => ends ?_, fun rate inRange free late => ends ?_⟩
  · rw [referenceCell, judged, if_neg fun named => rate ((rateOfCode_iff code t.rate).mp named)]
    rfl
  · rw [referenceCell, judged, if_pos ((rateOfCode_iff code t.rate).mpr rate),
      if_neg fun ok => outOfRange ((timecodeOk_iff _ _).mp ok)]
    rfl
  · exact (valid rate inRange).trans (takeReference_locked locked)
  · exact (valid rate inRange).trans (takeReference_early free early)
  · exact (valid rate inRange).trans (takeReference_late free late)

/-! ## The expiries of the expected-boundary timer (R17, R18) -/

theorem freeBoundary_eq (c : Chip) : freeBoundary c = boundaryWork { c with
    time := restarted .freeRun (countForward c.time.rate c.time.timecode) c.time } := by
  rw [freeBoundary, makeBoundary, modTime, restartTimer_eq]

theorem expireBoundary_freeRun {c : Chip} (h : c.time.state = .freeRun) : expireBoundary c = freeBoundary c := by
  simp only [expireBoundary, h]

theorem expireBoundary_locked {c : Chip} (h : c.time.state = .locked) : expireBoundary c =
    setAttention [.refLost] (modTime (fun t => { t with refLosses := bump t.refLosses }) (freeBoundary c)) := by
  simp only [expireBoundary, h]
  rfl

/-- A run of the clock to the timer's end, with no tick on the way. -/
theorem runClock_toExpiry {c : Chip} (off : c.time.subTick + samplesToExpiry c.time < 48) :
    runClock (samplesToExpiry c.time) c = expireBoundary { c with time := { c.time with
      elapsed := c.time.elapsed + samplesToExpiry c.time, subTick := (c.time.subTick + samplesToExpiry c.time) % 48 } } := by
  obtain ⟨n, left⟩ : ∃ n, samplesToExpiry c.time = n + 1 :=
    ⟨samplesToExpiry c.time - 1, by unfold samplesToExpiry; omega⟩
  have bounds : (n = 0 ∨ c.time.elapsed + n < c.time.length) ∧ c.time.length ≤ c.time.elapsed + n + 1 := by
    unfold samplesToExpiry at left
    omega
  rw [left] at off ⊢
  have phase := iterate_subTick_mod n c.time
  have before := runClock_quiet bounds.1 (c := c) (by omega)
  have counted : modTime countSample (runClock n c) = { c with time := { c.time with
      elapsed := c.time.elapsed + (n + 1), subTick := (c.time.subTick + (n + 1)) % 48 } } := by
    rw [before]
    simp only [modTime, countSample]
    congr 2
    omega
  have due : (countSample (runClock n c).time).length ≤ (countSample (runClock n c).time).elapsed := by
    rw [before]
    exact bounds.2
  have between : (countSample (runClock n c).time).subTick ≠ 0 := by
    rw [before]
    simp only [countSample]
    omega
  obtain ⟨early, -⟩ | ⟨early, -⟩ | ⟨-, -, e⟩ | ⟨-, on, -⟩ | ⟨-, on, -⟩ := sampleStep_cases (runClock n c)
  · exact absurd due (Nat.not_le.mpr early)
  · exact absurd due (Nat.not_le.mpr early)
  · rw [runClock_succ', e, counted]
  all_goals exact absurd on between

/-- R18: a run of the clock to the timer's end in FREE_RUN, with no tick on the way. -/
theorem runClock_toExpiry_freeRun {c : Chip} (free : c.time.state = .freeRun)
    (off : c.time.subTick + samplesToExpiry c.time < 48) : runClock (samplesToExpiry c.time) c = boundaryWork { c with
      time := restarted .freeRun (countForward c.time.rate c.time.timecode) { c.time with
        subTick := (c.time.subTick + samplesToExpiry c.time) % 48 } } := by
  rw [runClock_toExpiry off, expireBoundary_freeRun (by exact free), freeBoundary_eq]
  rfl

/-- R17: a run of the clock to the timer's end in LOCKED, with no tick on the way. -/
theorem runClock_toExpiry_locked {c : Chip} (locked : c.time.state = .locked)
    (off : c.time.subTick + samplesToExpiry c.time < 48) : runClock (samplesToExpiry c.time) c =
      setAttention [.refLost] (modTime (fun t => { t with refLosses := bump t.refLosses }) (boundaryWork { c with
        time := restarted .freeRun (countForward c.time.rate c.time.timecode) { c.time with
          subTick := (c.time.subTick + samplesToExpiry c.time) % 48 } })) := by
  rw [runClock_toExpiry off, expireBoundary_locked (by exact locked), freeBoundary_eq]
  rfl

/-- The phase of the ticks at the timer's end. -/
theorem subTick_toExpiry (t : Timebase) :
    (sampled^[samplesToExpiry t] t).subTick = (t.subTick + samplesToExpiry t) % 48 := by
  obtain ⟨n, left⟩ : ∃ n, samplesToExpiry t = n + 1 := ⟨samplesToExpiry t - 1, by unfold samplesToExpiry; omega⟩
  rw [left]
  exact iterate_subTick n t

/-- Settles O19: counting forward, and the run of the clock that an expiry's row stands for. -/
theorem timerExpiryCountsTheTimecodeForward : Obligations.TimerExpiryCountsTheTimecodeForward := by
  unfold Obligations.TimerExpiryCountsTheTimecodeForward
  refine ⟨fun r t => countForward_next, ?_⟩
  intro ⟨c, pending⟩ t left passed d row
  have ends : ∀ st, t.state = st → expiryIn st c = runClock left c := fun st h => if_pos h
  have rowEnds : Ends row ⟨c, pending⟩ (runClock left c) := by
    show exec row _ = _
    dsimp only [row]
    split
    · rename_i locked
      rw [← ends .locked locked]
      rfl
    · rename_i free
      rw [← ends .freeRun free]
      rfl
  refine ⟨⟨_, rowEnds, ?_, fun locked => runClock_refLost locked⟩, fun locked off => ?_, fun free off => ?_, ?_,
    fun free => ?_, fun locked => ?_⟩
  · rw [runClock_time, iterate_toExpiry, subTick_toExpiry, iterate_ms]
    rfl
  · show Ends _ _ (setAttention [.refLost] (modTime (fun t => { t with refLosses := bump t.refLosses }) d))
    exact ends_of_work rfl ((ends .locked locked).trans (runClock_toExpiry_locked locked off))
  · exact ends_of_work rfl ((ends .freeRun free).trans (runClock_toExpiry_freeRun free off))
  · intro idle
    obtain rfl : pending = [] := idle
    exact rowEnds.trans (run_idle left c).symm
  · refine ends_of_work rfl (if_neg ?_)
    show ¬t.state = _
    rw [free]
    nofun
  · refine ends_of_work rfl (if_neg ?_)
    show ¬t.state = _
    rw [locked]
    nofun

/-! ## The block tick (R22) -/

/-- A run of the clock to the next tick, with no expiry on the way. -/
theorem runClock_toTick {c : Chip} (early : c.time.elapsed + samplesToTick c.time < c.time.length) :
    runClock (samplesToTick c.time) c = tickWork { c with time := { c.time with
      elapsed := c.time.elapsed + samplesToTick c.time, subTick := 0 } } := by
  obtain ⟨n, left, phase⟩ : ∃ n, samplesToTick c.time = n + 1 ∧ c.time.subTick % 48 + n + 1 = 48 :=
    ⟨47 - c.time.subTick % 48, by unfold samplesToTick; omega, by omega⟩
  rw [left] at early ⊢
  have subTick := iterate_subTick_mod n c.time
  have before := runClock_quiet (.inr (by omega)) (c := c) (n := n) (by omega)
  have counted : modTime countSample (runClock n c) = { c with time := { c.time with
      elapsed := c.time.elapsed + (n + 1), subTick := 0 } } := by
    rw [before]
    simp only [modTime, countSample]
    congr 2
    omega
  have short : ¬(countSample (runClock n c).time).length ≤ (countSample (runClock n c).time).elapsed := by
    rw [before]
    exact Nat.not_le.mpr early
  have on : (countSample (runClock n c).time).subTick = 0 := by
    rw [before]
    simp only [countSample]
    omega
  obtain ⟨-, off, -⟩ | ⟨-, -, e⟩ | ⟨due, -⟩ | ⟨due, -⟩ | ⟨due, -⟩ := sampleStep_cases (runClock n c)
  · exact absurd on off
  · rw [runClock_succ', e, counted]
  all_goals exact absurd due short

/-- R22: at the end of a run to the next tick one millisecond has been counted. -/
theorem iterate_toTick (t : Timebase) :
    (sampled^[samplesToTick t] t).subTick = 0 ∧ (sampled^[samplesToTick t] t).ms = t.ms + 1 := by
  obtain ⟨n, left, phase⟩ : ∃ n, samplesToTick t = n + 1 ∧ t.subTick % 48 + n + 1 = 48 :=
    ⟨47 - t.subTick % 48, by unfold samplesToTick; omega, by omega⟩
  have tick : (t.subTick % 48 + (n + 1)) / 48 = 1 := by omega
  rw [left, iterate_subTick, iterate_ms, tick]
  exact ⟨by omega, rfl⟩

/-- R15, R17, R18: the timebase at the next tick, where an expiry falls on the way to it; its timer does not end
again, a period being longer than a tick. -/
theorem iterate_toTick_due {t : Timebase} (due : t.length ≤ t.elapsed + samplesToTick t) :
    sampled^[samplesToTick t] t = { expired t with
      ms := t.ms + 1, subTick := 0, elapsed := samplesToTick t - samplesToExpiry t } := by
  obtain ⟨m, split, short⟩ : ∃ m, samplesToTick t = m + samplesToExpiry t ∧ m < 48 :=
    ⟨samplesToTick t - samplesToExpiry t, by unfold samplesToExpiry samplesToTick at *; omega,
      by unfold samplesToExpiry samplesToTick; omega⟩
  obtain ⟨subTick, ms⟩ := iterate_toTick t
  rw [← subTick, ← ms, split, Nat.add_sub_cancel, Function.iterate_add_apply]
  have start := iterate_toExpiry t
  have period : m < (sampled^[samplesToExpiry t] t).length := by
    rw [start]
    exact lt_of_lt_of_le short (le_trans (by decide) (period_pos t.rate))
  have fresh : (sampled^[samplesToExpiry t] t).elapsed = 0 := by rw [start]; rfl
  refine (iterate_early (.inr (by omega))).trans ?_
  rw [fresh, Nat.zero_add, start]

/-- R22: each part takes the tick once, whatever the order. -/
theorem tickParts_perm (o : TickOrder) (silenceFirst : Bool) :
    ((tickParts o).map (tickPart silenceFirst)).Perm [mixerTick, schedulerTick, linkTick silenceFirst] := by
  have parts : (tickParts o).Perm [.mixer, .scheduler, .link] := by cases o <;> decide
  exact parts.map (tickPart silenceFirst)

/-- Settles O21: the run of the clock that the tick's row stands for, by whether an expiry falls on the way. -/
theorem blockTickCountsTheMillisecond : Obligations.BlockTickCountsTheMillisecond := by
  unfold Obligations.BlockTickCountsTheMillisecond
  intro ⟨c, pending⟩ t n
  have clocked := runClock_clocked n c
  refine ⟨⟨runClock n c, rfl, clocked.unit, clocked.lanes, fun early => ?_, fun due => ⟨?_, fun locked => ?_⟩⟩, ?_⟩
  · have ends : runClock n c = tickWork { c with time := { t with elapsed := t.elapsed + n, subTick := 0 } } :=
      runClock_toTick early
    rw [ends]
    have ticked := ticked_tickWork { c with time := { t with elapsed := t.elapsed + n, subTick := 0 } }
    refine ⟨ticked.time, ⟨Config.silenceFirst c.choices,
      (tickParts (Config.tickOrder c.choices)).map (tickPart (Config.silenceFirst c.choices)), tickParts_perm _ _, ?_⟩,
      ticked.steer, ticked.engine, ticked.budget, ticked.sel, ticked.records, ticked.standby⟩
    rw [ticked.time, List.foldl_map]
    rfl
  · rw [runClock_time]
    exact iterate_toTick_due due
  · obtain ⟨m, split⟩ : ∃ m, n = samplesToExpiry t + m :=
      ⟨n - samplesToExpiry t, by have : 1 ≤ n := by simp only [n, samplesToTick]; omega
                                 unfold samplesToExpiry; omega⟩
    rw [split, runClock_add]
    exact (runClock_clocked m _).attention _ (runClock_refLost locked)
  · intro idle
    obtain rfl : pending = [] := idle
    exact (run_idle n c).symm

end Sys2Proof.Clockwork

end


section
/-! The link controller's four timers (R23, R115, R121, R123): their expiries, and how a block tick counts and takes
them. -/

namespace Sys2Proof.Clockwork

open Sys2Proof.Machine Sys2Proof.Safety Sys2Proof.Claims

/-! ## A change of link state, and a hail attempt (R112, R114) -/

theorem enterLink_eq (st : LinkState) (also : List AttClass) (c : Chip) : enterLink st also c = entered st also c := by
  cases st <;> rfl

theorem beginAttempt_eq (c : Chip) : beginAttempt c = hailed c := rfl

/-! ## The expiries -/

theorem windowExpiry_retry {c : Chip} (runs : c.link.answerWindow.isSome = true) (more : c.link.attempt < 3) :
    windowExpiry c = { c with link := { c.link with
      answerWindow := none, phase := some .gap, retryGap := some c.link.settings.retryGap } } := by
  obtain ⟨n, runs⟩ := Option.isSome_iff_exists.mp runs
  simp only [windowExpiry, runs, if_pos more, modLink]

theorem windowExpiry_failed {c : Chip} (runs : c.link.answerWindow.isSome = true) (last : 3 ≤ c.link.attempt) :
    windowExpiry c = entered .down [.linkFailed] { c with link := { c.link with
      answerWindow := none, phase := none, attempt := 0, hailsFailed := bump c.link.hailsFailed } } := by
  obtain ⟨n, runs⟩ := Option.isSome_iff_exists.mp runs
  simp only [windowExpiry, runs, if_neg (Nat.not_lt.mpr last), enterLink_eq, modLink]

theorem windowExpiry_stopped {c : Chip} (stopped : c.link.answerWindow = none) : windowExpiry c = c := by
  simp only [windowExpiry, stopped]

theorem gapExpiry_running {c : Chip} (runs : c.link.retryGap.isSome = true) :
    gapExpiry c = hailed { c with link := { c.link with retryGap := none, attempt := c.link.attempt + 1 } } := by
  obtain ⟨n, runs⟩ := Option.isSome_iff_exists.mp runs
  simp only [gapExpiry, runs, beginAttempt_eq, modLink]

theorem gapExpiry_stopped {c : Chip} (stopped : c.link.retryGap = none) : gapExpiry c = c := by
  simp only [gapExpiry, stopped]

theorem silenceRunsOut_up {c : Chip} (runs : c.link.silence.isSome = true) (up : c.link.state = .up) :
    silenceRunsOut c = entered .lost [] { c with link := { c.link with
      silence := none, silenceExpiries := bump c.link.silenceExpiries } } := by
  obtain ⟨n, runs⟩ := Option.isSome_iff_exists.mp runs
  simp only [silenceRunsOut, runs, up, enterLink_eq, modLink]

theorem silenceRunsOut_draining {c : Chip} (runs : c.link.silence.isSome = true) (draining : c.link.state = .draining) :
    silenceRunsOut c = drainEnd { c with link := { c.link with
      silence := none, silenceExpiries := bump c.link.silenceExpiries } } := by
  obtain ⟨n, runs⟩ := Option.isSome_iff_exists.mp runs
  simp only [silenceRunsOut, runs, draining, modLink]

/-- Log entry 5: a silence timer that does not run, or runs in another state, has no expiry. -/
theorem silenceRunsOut_stopped {c : Chip}
    (stopped : c.link.silence = none ∨ (c.link.state ≠ .up ∧ c.link.state ≠ .draining)) : silenceRunsOut c = c := by
  unfold silenceRunsOut
  split
  · rfl
  · rename_i n runs
    obtain ⟨notUp, notDraining⟩ := stopped.resolve_left (runs ▸ Option.some_ne_none n)
    dsimp only
    split
    · exact absurd ‹_› notUp
    · exact absurd ‹_› notDraining
    all_goals rfl

theorem drainExpiry_draining {c : Chip} (runs : c.link.drainLimit.isSome = true) (draining : c.link.state = .draining) :
    drainExpiry c = drainEnd c := by
  obtain ⟨n, runs⟩ := Option.isSome_iff_exists.mp runs
  simp only [drainExpiry, runs, if_pos draining]

theorem drainExpiry_stopped {c : Chip} (stopped : c.link.drainLimit = none ∨ c.link.state ≠ .draining) :
    drainExpiry c = c := by
  unfold drainExpiry
  split
  · rfl
  · rename_i n runs
    exact if_neg (stopped.resolve_left (runs ▸ Option.some_ne_none n))

/-! ## A tick (R23) -/

/-- R23: a timer ends at this tick, where it is not one with more to count. -/
theorem ranOut_countDown (t : Option Nat) : ranOut (countDown t) = true ↔ ¬∀ n, t = some n → 1 < n := by
  cases t with
  | none => simp [ranOut, countDown]
  | some n =>
    simp only [ranOut, countDown, Option.map_some, beq_iff_eq, Option.some.injEq, forall_eq']
    omega

/-- R23: a timer's row is taken at a tick where the timer ends at it. -/
theorem row_of_ranOut {i : Instr} {work : Chip → Chip} {x y : Chip} {b : Bool} {ends : Prop}
    (row : ∀ s : State, exec i s = s.onChip work) (iff : b = true ↔ ends) (h : y = if b then work x else x) :
    (ends → Ends i ⟨x, []⟩ y) ∧ (¬ends → y = x) :=
  ⟨fun e => ends_of_work (row _) ((if_pos (iff.mpr e)).symm.trans h.symm),
    fun e => h.trans (if_neg fun b => e (iff.mp b))⟩

/-- R23: the link controller with its timers counted, and the answer window taken where it ends at the tick. -/
def windowTaken (c : Chip) : Chip :=
  if ranOut (countDown c.link.answerWindow) then windowExpiry (modLink countLinkTimers c) else modLink countLinkTimers c

/-- R23: and then the retry gap, where it ends at the tick. -/
def gapTaken (c : Chip) : Chip := if ranOut (countDown c.link.retryGap) then gapExpiry (windowTaken c) else windowTaken c

theorem linkTick_eq (silenceFirst : Bool) (c : Chip) : linkTick silenceFirst c =
    if silenceFirst then takeDrain (takeSilence (gapTaken c)) else takeSilence (takeDrain (gapTaken c)) := rfl

/-- R23: with no timer that ends at it, a tick is only counted. -/
theorem linkTick_counts {c : Chip} (silenceFirst : Bool) (window : ¬ranOut (countDown c.link.answerWindow) = true)
    (gap : ¬ranOut (countDown c.link.retryGap) = true) (silence : ¬ranOut (countDown c.link.silence) = true)
    (limit : ¬ranOut (countDown c.link.drainLimit) = true) : linkTick silenceFirst c = modLink countLinkTimers c := by
  have taken : gapTaken c = modLink countLinkTimers c := (if_neg gap).trans (if_neg window)
  have noSilence : takeSilence (modLink countLinkTimers c) = modLink countLinkTimers c := if_neg silence
  have noLimit : takeDrain (modLink countLinkTimers c) = modLink countLinkTimers c := if_neg limit
  rw [linkTick_eq, taken, noSilence, noLimit, noSilence, ite_self]

/-- Settles O38: each expiry by its timer and the state, and the tick as it takes them in turn. -/
theorem linkTimersExpire : Obligations.LinkTimersExpire := by
  unfold Obligations.LinkTimersExpire
  intro s c l
  refine ⟨fun runs more => ends_of_work rfl (windowExpiry_retry runs more),
    fun runs last => ends_of_work rfl (windowExpiry_failed runs last),
    fun stopped => ends_of_work rfl (windowExpiry_stopped stopped),
    fun runs => ends_of_work rfl (gapExpiry_running runs), fun stopped => ends_of_work rfl (gapExpiry_stopped stopped),
    ⟨fun runs up => ends_of_work rfl (silenceRunsOut_up runs up),
      fun runs draining => ends_of_work rfl (silenceRunsOut_draining runs draining),
      fun stopped => ends_of_work rfl (silenceRunsOut_stopped stopped)⟩,
    fun runs draining => ends_of_work rfl (drainExpiry_draining runs draining),
    fun stopped => ends_of_work rfl (drainExpiry_stopped stopped), fun silenceFirst => ?_⟩
  intro d counted goesOn row silence limit
  have ends : ∀ t, ranOut (countDown t) = true ↔ ¬goesOn t := ranOut_countDown
  have counts : ∀ {t}, goesOn t → ¬ranOut (countDown t) = true := fun on out => (ends _).mp out on
  have silenceRow : ∀ x, silence x (takeSilence x) := fun x => row_of_ranOut (fun _ => rfl) beq_iff_eq rfl
  have limitRow : ∀ x, limit x (takeDrain x) := fun x => row_of_ranOut (fun _ => rfl) beq_iff_eq rfl
  refine ⟨fun window gap silence limit => linkTick_counts silenceFirst (counts window) (counts gap) (counts silence)
    (counts limit), windowTaken c, gapTaken c, if silenceFirst then takeSilence (gapTaken c) else takeDrain (gapTaken c),
    row_of_ranOut (fun _ => rfl) (ends _) rfl, row_of_ranOut (fun _ => rfl) (ends _) rfl, ?_, ?_⟩
  · rintro rfl
    exact ⟨silenceRow (gapTaken c), limitRow _⟩
  · rintro rfl
    exact ⟨limitRow (gapTaken c), silenceRow _⟩

end Sys2Proof.Clockwork

end


section
/-! The frame scheduler at a block tick (R131 to R136, R141, R143, R145): credit, ack windows, deadlines, and what a
selection sends. -/

namespace Sys2Proof.Clockwork

open Sys2Proof.Machine Sys2Proof.Safety Sys2Proof.Claims

/-! ## Rows taken one after another -/

theorem successively_append {l l' : List Instr} {c d e : Chip} (h : Successively l c d) (h' : Successively l' d e) :
    Successively (l ++ l') c e := by
  induction l generalizing c with
  | nil => cases h; exact h'
  | cons i l ih =>
    obtain ⟨b, first, rest⟩ := h
    exact ⟨b, first, ih rest⟩

theorem successively_foldl {α : Type} {row : α → Instr} {work : α → Chip → Chip}
    (h : ∀ a (s : State), exec (row a) s = s.onChip (work a)) (l : List α) (c : Chip) :
    Successively (l.map row) c (l.foldl (fun d a => work a d) c) := by
  induction l generalizing c with
  | nil => rfl
  | cons a l ih => exact ⟨work a c, h a _, ih _⟩

/-! ## Credit (R112, R131) -/

theorem linkSends_iff (st : LinkState) : linkSends st = true ↔ st = .up ∨ st = .lost ∨ st = .draining := by
  cases st <;> decide

/-- R112: the rate of a state that sends. -/
theorem creditRate_of_sends {l : Link} (h : linkSends l.state = true) :
    creditRate l = if l.state = .lost then 500 else l.capacity := by
  unfold creditRate
  split
  case h_4 lost => rw [lost, if_pos rfl]
  case h_3 up => rw [up, if_neg nofun]
  case h_5 draining => rw [draining, if_neg nofun]
  all_goals
    rename_i other
    rw [other] at h
    exact absurd h nofun

theorem earnCredit_eq (c : Chip) : earnCredit c = earned c := by
  unfold earnCredit earned
  by_cases sends : linkSends c.link.state = true
  · rw [if_pos sends, if_pos ((linkSends_iff _).mp sends), modLink, creditRate_of_sends sends]
  · rw [if_neg sends, if_neg fun h => sends ((linkSends_iff _).mpr h)]

/-! ## Ack windows (R23, R143) -/

theorem ranOut_countDown_any (t : Option Nat) : ranOut (countDown t) = t.any (fun n => decide (n ≤ 1)) := by
  cases t with
  | none => rfl
  | some n =>
    rw [Bool.eq_iff_iff]
    simp only [ranOut, countDown, Option.map_some, beq_iff_eq, Option.some.injEq, Option.any_some, decide_eq_true_eq]
    omega

/-- R23: the entries whose window ends at the tick, as counted, bear the frame numbers of those at their last tick. -/
theorem frames_ranOut (l : List Entry) :
    ((l.map (fun e => { e with timer := countDown e.timer })).filter (fun e => ranOut e.timer)).map (·.frame)
      = (l.filter (fun e => e.timer.any (fun n => decide (n ≤ 1)))).map (·.frame) := by
  rw [List.filter_map, List.map_map]
  refine congrArg₂ _ rfl (List.filter_congr fun e _ => ranOut_countDown_any e.timer)

theorem expireWindows_successively (c : Chip) :
    Successively ((c.sched.awaiting.filter (fun e => e.timer.any (fun n => decide (n ≤ 1)))).map
        (fun e => .ackWindowExpiry e.frame)) (modSched countAckTimers c) (expireWindows c) := by
  have rows := successively_foldl (row := .ackWindowExpiry) (work := ackExpiry) (fun _ _ => rfl)
    ((c.sched.awaiting.filter (fun e => e.timer.any (fun n => decide (n ≤ 1)))).map (·.frame))
    (modSched countAckTimers c)
  rw [List.map_map] at rows
  rw [← frames_ranOut, List.foldl_map] at rows
  exact rows

/-! ## Deadlines (R23, R145) -/

/-- A picture of one context judged leaves the other contexts' queues. -/
theorem changeQueued_other {j k : Ctx} (n : PicNum) (f : Queued → Queued) (c : Chip) (h : k ≠ j) :
    (changeQueued j n f c).sched.videoQueue[k] = c.sched.videoQueue[k] := by
  unfold changeQueued judgeQueued
  split
  · exact modAt_get_other _ _ h
  split
  · simp only [endDrainedContext_sched, resolve_sched]
    exact (modAt_get_other _ _ h).trans (modAt_get_other _ _ h)
  · exact modAt_get_other _ _ h

/-- R123: a drain that ends by both lists being empty settles no entry. -/
theorem checkDrain_videoQueue (c : Chip) : (checkDrain c).sched.videoQueue = c.sched.videoQueue := by
  unfold checkDrain
  split
  · rename_i ends
    obtain ⟨-, empty⟩ := Bool.and_eq_true_iff.mp ends
    obtain ⟨awaiting, resend⟩ := Bool.and_eq_true_iff.mp empty
    simp only [drainEnd, enterLink_sched, discardAudio, declareAllLost, modLink,
      List.isEmpty_iff.mp awaiting, List.isEmpty_iff.mp resend]
    rfl
  · rfl

theorem settle_other {j k : Ctx} {n : PicNum} {e : Entry} (of : isOf j n e = true) (delivered : Bool) (c : Chip)
    (h : k ≠ j) : (settle delivered e c).sched.videoQueue[k] = c.sched.videoQueue[k] := by
  unfold isOf at of
  unfold settle
  dsimp only
  split
  · rename_i i m part origin
    rw [origin] at of
    obtain ⟨rfl, -⟩ : i = j ∧ m = n := by simpa using of
    exact changeQueued_other _ _ _ h
  · rename_i origin
    rw [origin] at of
    exact absurd of nofun

theorem loseResend_other {j k : Ctx} {n : PicNum} {e : Entry} (of : isOf j n e = true) (c : Chip) (h : k ≠ j) :
    (loseResend e c).sched.videoQueue[k] = c.sched.videoQueue[k] := by
  unfold loseResend
  split
  · rw [checkDrain_videoQueue, settle_other of _ _ h]
    rfl
  · rfl

theorem deadlinePasses_other {j k : Ctx} (n : PicNum) (c : Chip) (h : k ≠ j) :
    (deadlinePasses j n c).sched.videoQueue[k] = c.sched.videoQueue[k] := by
  have lost : ∀ (i : PicNum) (l : List Entry) (d : Chip), (∀ e ∈ l, isOf j i e = true) →
      (l.foldl (fun d e => loseResend e d) d).sched.videoQueue[k] = d.sched.videoQueue[k] := fun i l d of => by
    induction l generalizing d with
    | nil => rfl
    | cons e l ih =>
      exact (ih _ fun e he => of e (.tail _ he)).trans (loseResend_other (of e (.head _)) d h)
  unfold deadlinePasses
  split
  · split
    · rfl
    · rw [makeLate, lost _ _ _ fun e he => (List.mem_filter.mp he).2, changeQueued_other _ _ _ h]
      rfl
  · rfl

theorem deadlinesOf_other {j k : Ctx} (c : Chip) (h : k ≠ j) :
    (deadlinesOf j c).sched.videoQueue[k] = c.sched.videoQueue[k] := by
  unfold deadlinesOf
  generalize c.sched.videoQueue[j].filter _ = l
  induction l generalizing c with
  | nil => rfl
  | cons q l ih => exact (ih _).trans (deadlinePasses_other _ c h)

/-- R145: context by context, each queue as it stood at the tick, since a context's deadlines leave the queues of the
others. -/
theorem deadlines_successively {c : Chip} (l : List Ctx) (distinct : l.Nodup) {d : Chip} (time : d.time = c.time)
    (queues : ∀ k ∈ l, d.sched.videoQueue[k] = c.sched.videoQueue[k]) :
    Successively (l.flatMap fun k => (c.sched.videoQueue[k].filter (deadlineDue c.time.ms)).map
      (fun q => .pictureDeadline k q.picture.number)) d (l.foldl (fun d k => deadlinesOf k d) d) := by
  induction l generalizing d with
  | nil => rfl
  | cons k l ih =>
    obtain ⟨fresh, distinct⟩ := List.nodup_cons.mp distinct
    have here : Successively ((c.sched.videoQueue[k].filter (deadlineDue c.time.ms)).map
        (fun q => .pictureDeadline k q.picture.number)) d (deadlinesOf k d) := by
      rw [← queues k (.head _), ← time]
      exact successively_foldl (work := fun q : Queued => deadlinePasses k q.picture.number) (fun _ _ => rfl) _ d
    refine successively_append here (ih distinct ((ticked_deadlinesOf k (ticked_refl d)).time.trans time) fun i hi => ?_)
    have other : i ≠ k := fun e => fresh (e ▸ hi)
    exact (deadlinesOf_other d other).trans (queues i (.tail _ hi))

theorem deadlineDue_eq (ms : Millis) (q : Queued) : deadlineDue ms q =
    (!q.late && decide (0 < (ms - q.deadline).toNat ∧ (ms - q.deadline).toNat < 2 ^ 31)) := by
  rw [deadlineDue, serialBefore, Bool.decide_and]

/-! ## The frame found and the frame sent (R129, R136, R189) -/

theorem homeFrame_length (h : HomeHeader) (payload : List Byte) : (homeFrame h payload).length = 32 + payload.length := by
  simp only [homeFrame, homeHeaderBytes, timecodeBytes, num16, List.length_append, List.length_cons, List.length_nil,
    be16_length, be24_length, be32_length, VanFabric.le32_length]

theorem foundSize_eq (c : Chip) (f : Found) : foundSize f = (frameOf c f).length := by
  cases f with
  | audio a => exact (homeFrame_length _ _).symm
  | resend e => rfl
  | label l => exact (homeFrame_length _ _).symm
  | video k q rotated => exact (homeFrame_length _ _).symm
  | pass x => exact (homeFrame_length _ _).symm

/-- R189: the flags byte of a VIDEO frame. -/
theorem videoFlags_eq (damaged programme : Bool) : flag8 damaged ||| (flag8 programme <<< 1)
    = BitVec.ofNat 8 ((if damaged then 1 else 0) + (if programme then 2 else 0)) := by
  cases damaged <;> cases programme <;> rfl

theorem frameOf_video (c : Chip) (k : Ctx) (q : Queued) (rotated : Bool) :
    frameOf c (.video k q rotated) = videoBytes q q.sent c := by
  simp only [frameOf, videoBytes, videoFlags_eq]
  rfl

/-- R140: a queue's record with a picture number changed. -/
def changed (n : PicNum) (f : Queued → Queued) (q : Queued) : Queued := if q.picture.number = n then f q else q

theorem changed_hit {n : PicNum} {q : Queued} (f : Queued → Queued) (h : q.picture.number = n) : changed n f q = f q :=
  if_pos h

theorem changed_miss {n : PicNum} {q : Queued} (f : Queued → Queued) (h : q.picture.number ≠ n) : changed n f q = q :=
  if_neg h

theorem changeQueued_eq (k : Ctx) (n : PicNum) (f : Queued → Queued) (c : Chip) :
    changeQueued k n f c = judgeQueued k n (modVideo k (List.map (changed n f)) c) := by
  have same : (fun q : Queued => if q.picture.number == n then f q else q) = changed n f := by
    funext q
    simp only [changed, beq_iff_eq]
  rw [changeQueued, same]

/-- A record whose counts do not resolve it stands in its queue (R150). -/
theorem judgeQueued_stands {k : Ctx} {n : PicNum} {c : Chip}
    (h : ∀ q ∈ c.sched.videoQueue[k], q.picture.number = n → resolvable q = false) : judgeQueued k n c = c := by
  unfold judgeQueued
  split
  · rfl
  · rename_i q found
    refine if_neg ?_
    have number : q.picture.number = n := by simpa using List.find?_some found
    rw [h q (List.mem_of_find?_eq_some found) number]
    nofun

/-- R140: a change after which the counts resolve no picture. -/
theorem changeQueued_stands {f : Queued → Queued} (stands : ∀ q, resolvable (f q) = false) (k : Ctx) (n : PicNum)
    (c : Chip) : changeQueued k n f c = modVideo k (List.map (changed n f)) c := by
  rw [changeQueued_eq]
  refine judgeQueued_stands fun q member number => ?_
  rw [modVideo, modAt_get_same] at member
  obtain ⟨r, -, rfl⟩ := List.mem_map.mp member
  by_cases hit : r.picture.number = n
  · rw [changed_hit f hit, stands]
  · rw [changed_miss f hit] at number
    exact absurd number hit

theorem endDrainedContext_eq (k : Ctx) (c : Chip) : endDrainedContext k c = stoppedIfEmpty k c := by
  simp only [endDrainedContext, stoppedIfEmpty, Bool.and_eq_true, decide_eq_true_eq, List.isEmpty_iff]
  rfl

/-- The record found, after the change. -/
theorem find_changed {f : Queued → Queued} (picture : ∀ q, (f q).picture = q.picture) (n : PicNum) (v : List Queued) :
    (v.map (changed n f)).find? (fun q => q.picture.number == n)
      = (v.find? (fun q => q.picture.number == n)).map f := by
  induction v with
  | nil => rfl
  | cons q v ih =>
    by_cases hit : q.picture.number = n
    · have still : (f q).picture.number = n := by rw [picture, hit]
      simp [changed_hit f hit, hit, still]
    · simp [changed_miss f hit, hit, ih]

/-- The rest of the queue is not changed. -/
theorem filter_changed {f : Queued → Queued} (picture : ∀ q, (f q).picture = q.picture) (n : PicNum) (v : List Queued) :
    (v.map (changed n f)).filter (fun q => !(q.picture.number == n)) = v.filter (fun q => q.picture.number != n) := by
  induction v with
  | nil => rfl
  | cons q v ih =>
    by_cases hit : q.picture.number = n
    · have still : (f q).picture.number = n := by rw [picture, hit]
      simp [changed_hit f hit, hit, still, ih]
    · simp [changed_miss f hit, hit, ih]

/-- R140, R150: a change of the record found. -/
theorem changeQueued_found {f : Queued → Queued} (picture : ∀ q, (f q).picture = q.picture) {k : Ctx} {n : PicNum}
    {c : Chip} {q : Queued} (found : findQueued k n c = some q) : changeQueued k n f c = recordChanged k n f q c := by
  have now : findQueued k n (modVideo k (List.map (changed n f)) c) = some (f q) := by
    rw [findQueued] at found
    rw [findQueued, modVideo, modAt_get_same, find_changed picture, found]
    rfl
  have left : modVideo k (fun v => v.filter fun r => !(r.picture.number == n)) (modVideo k (List.map (changed n f)) c)
      = modVideo k (fun v => v.filter fun r => r.picture.number != n) c := by
    simp only [modVideo, modAt_modAt, filter_changed picture]
  rw [changeQueued_eq, judgeQueued, now]
  dsimp only
  rw [left, endDrainedContext_eq]
  have counts : resolvable (f q) = true ↔
      (f q).outstanding = 0 ∧ (f q).fragments - (f q).sent - (f q).withdrawn = 0 := by
    simp only [resolvable, unsent, Bool.and_eq_true, beq_iff_eq]
  simp only [recordChanged, counts]
  rfl

/-- A change of a record that is not there. -/
theorem changeQueued_none (f : Queued → Queued) {k : Ctx} {n : PicNum} {c : Chip} (none : findQueued k n c = none) :
    changeQueued k n f c = c := by
  have miss : ∀ q ∈ c.sched.videoQueue[k], q.picture.number ≠ n := fun q member => by
    simpa using List.find?_eq_none.mp none q member
  have same : c.sched.videoQueue[k].map (changed n f) = c.sched.videoQueue[k] :=
    (List.map_congr_left fun q member => changed_miss f (miss q member)).trans (List.map_id _)
  have stands : modVideo k (List.map (changed n f)) c = c := by
    have queue : modAt c.sched.videoQueue k (List.map (changed n f)) = c.sched.videoQueue := by
      refine Vector.ext fun j hj => ?_
      have get := modAt_get c.sched.videoQueue k ⟨j, hj⟩ (List.map (changed n f))
      simp only [Fin.getElem_fin] at get
      rw [get]
      split
      · rename_i here
        subst here
        exact same
      · rfl
    rw [modVideo, queue]
  rw [changeQueued_eq, stands]
  exact judgeQueued_stands fun q member number => absurd number (miss q member)

/-- R136, R141: a resend on HT and paid for, its entry moved to the awaiting list. -/
def resent (e : Entry) (c : Chip) : Chip :=
  await { e with sendCount := 2 }
    (modSched (fun s => { s with resend := s.resend.drop 1, resends := bump s.resends })
      (charge e.bytes.length (putHt e.bytes c)))

theorem resendEntry_eq (e : Entry) (c : Chip) : resendEntry e c = noteResend e.origin (resent e c) := rfl

theorem sendFound_eq (c : Chip) (f : Found) : sendFound f c = sentNow c f := by
  cases f with
  | audio a => rfl
  | resend e =>
    obtain ⟨frame, origin, sendCount, timer, bytes⟩ := e
    cases origin with
    | label clip version => rfl
    | video k n j =>
      cases record : findQueued k n c with
      | some q =>
        have found : c.sched.videoQueue[k].find? (fun r => r.picture.number == n) = some q := record
        simp only [sentNow, found]
        exact changeQueued_found (f := fragmentResent) (c := resent _ c) (fun _ => rfl) found
      | none =>
        have found : c.sched.videoQueue[k].find? (fun r => r.picture.number == n) = none := record
        simp only [sentNow, found]
        exact changeQueued_none fragmentResent (c := resent _ c) found
  | label l => rfl
  | video k q rotated =>
    have stands : ∀ q, resolvable (fragmentSent q) = false := fun q => rfl
    have bytes := frameOf_video c k q rotated
    simp only [sendFound, sendVideo, sentNow, changeQueued_stands stands, bytes]
    rfl
  | pass x => rfl

/-! ## A selection ends (R134) -/

/-- R134: what stands in a queue, or has room in the lists, where a search finds it. -/
def Waits (s : Scheduler) : Found → Prop
  | .audio _ => s.audioQueue ≠ []
  | .resend _ => s.resend ≠ []
  | .label _ => listsHaveRoom s = true
  | .video _ _ _ => listsHaveRoom s = true
  | .pass _ => s.passQueue ≠ []

theorem waits_resend {s : Scheduler} {f : Found} (h : s.resend.head?.map .resend = some f) : Waits s f := by
  obtain ⟨e, head, rfl⟩ := Option.map_eq_some_iff.mp h
  exact List.ne_nil_of_mem (List.mem_of_mem_head? head)

theorem waits_pass {c : Chip} {f : Found} (h : findPass c = some f) : Waits c.sched f := by
  obtain ⟨x, head, rfl⟩ := Option.map_eq_some_iff.mp h
  exact List.ne_nil_of_mem (List.mem_of_mem_head? head)

/-- R135: the rotation finds a fragment. -/
theorem rotatedFragment_video {c : Chip} {l : List Ctx} {f : Found} (h : rotatedFragment c l = some f) :
    ∃ k q, f = .video k q true := by
  induction l with
  | nil => cases h
  | cons k l ih =>
    unfold rotatedFragment at h
    split at h
    · exact ih h
    · split at h
      · cases h
        exact ⟨_, _, rfl⟩
      · exact ih h

theorem findFragment_video {c : Chip} {f : Found} (h : findFragment c = some f) : ∃ k q r, f = .video k q r := by
  have rotated : ∀ {l}, rotatedFragment c l = some f → ∃ k q r, f = .video k q r := fun h =>
    have ⟨k, q, e⟩ := rotatedFragment_video h
    ⟨k, q, true, e⟩
  unfold findFragment at h
  split at h
  · split at h
    · cases h
      exact ⟨_, _, _, rfl⟩
    · exact rotated h
  · exact rotated h

theorem waits_new {c : Chip} {f : Found} (h : findNew c = some f) : Waits c.sched f := by
  unfold findNew at h
  split at h
  · rename_i room
    split at h
    · cases h
      exact room
    · split at h
      · rename_i fragment
        cases h
        obtain ⟨k, q, r, rfl⟩ := findFragment_video fragment
        exact room
      · exact waits_pass h
  · exact waits_pass h

theorem waits_of_found {c : Chip} {f : Found} (h : findFrame c = some f) : Waits c.sched f := by
  unfold findFrame at h
  split at h
  · exact waits_resend h
  split at h
  · rename_i queue
    cases h
    show c.sched.audioQueue ≠ []
    rw [queue]
    exact List.cons_ne_nil _ _
  split at h
  · rename_i queue
    cases h
    show c.sched.resend ≠ []
    rw [queue]
    exact List.cons_ne_nil _ _
  · exact waits_new h

/-- What a tick's selection can still send. -/
def selectionLeft (s : Scheduler) : Nat :=
  s.audioQueue.length + s.passQueue.length + s.resend.length + (48 - (s.awaiting.length + s.resend.length))

/-- A change of a queued picture leaves the rest of the scheduler. -/
theorem changeQueued_sched (k : Ctx) (n : PicNum) (f : Queued → Queued) (c : Chip) : (changeQueued k n f c).sched =
    { c.sched with videoQueue := (changeQueued k n f c).sched.videoQueue } := by
  unfold changeQueued judgeQueued
  split
  · rfl
  split
  · simp only [endDrainedContext_sched, resolve_sched]
    rfl
  · rfl

theorem selectionLeft_changeQueued (k : Ctx) (n : PicNum) (f : Queued → Queued) (c : Chip) :
    selectionLeft (changeQueued k n f c).sched = selectionLeft c.sched := by
  rw [changeQueued_sched]
  rfl

theorem selectionLeft_noteResend (o : Origin) (c : Chip) :
    selectionLeft (noteResend o c).sched = selectionLeft c.sched := by
  cases o with
  | video k n j => exact selectionLeft_changeQueued k n _ c
  | label i v => rfl

theorem noteResend_link (o : Origin) (c : Chip) : (noteResend o c).link = c.link := by
  cases o with
  | video k n j => exact changeQueued_link k n _ c
  | label i v => rfl

theorem labelSent_link (i : Nat) (c : Chip) : (labelSent i c).link = c.link := by
  unfold labelSent
  split
  · split
    · rfl
    · rfl
  · rfl

theorem labelSent_sched (i : Nat) (c : Chip) : (labelSent i c).sched = c.sched := by
  unfold labelSent
  split
  · split
    · rfl
    · rfl
  · rfl

/-- With each frame sent there is less to send: an AUDIO frame, a resend or a pass cell leaves its queue, and a label or a
fragment takes room in the lists. -/
theorem selectionLeft_sendFound {c : Chip} {f : Found} (h : findFrame c = some f) :
    selectionLeft (sendFound f c).sched < selectionLeft c.sched := by
  have waits := waits_of_found h
  have room : listsHaveRoom c.sched = true → c.sched.awaiting.length + c.sched.resend.length < 48 := of_decide_eq_true
  cases f with
  | audio a =>
    have := List.length_pos_iff.mpr waits
    simp only [sendFound, sendAudio, selectionLeft, modSched, numberFrame, charge, modLink, putHt, List.length_drop]
    omega
  | pass x =>
    have := List.length_pos_iff.mpr waits
    simp only [sendFound, sendPass, selectionLeft, modSched, numberFrame, charge, modLink, putHt, List.length_drop]
    omega
  | resend e =>
    have := List.length_pos_iff.mpr waits
    have moved : selectionLeft (resent e c).sched < selectionLeft c.sched := by
      simp only [resent, await, selectionLeft, modSched, charge, modLink, putHt, List.length_drop, List.length_append,
        List.length_singleton]
      omega
    rw [sendFound, resendEntry_eq, selectionLeft_noteResend]
    exact moved
  | label l =>
    have := room waits
    rw [sendFound, sendLabelFrame, labelSent_sched]
    simp only [await, selectionLeft, modSched, numberFrame, charge, modLink, putHt, List.length_append,
      List.length_singleton]
    omega
  | video k q rotated =>
    have := room waits
    rw [sendFound, sendVideo, selectionLeft_changeQueued]
    simp only [await, selectionLeft, modSched, numberFrame, charge, modLink, putHt, List.length_append,
      List.length_singleton]
    omega

/-- R134: a bound that covers what is left to send does not cut a selection short. -/
theorem selectFrames_enough {n m : Nat} {c : Chip} (hn : selectionLeft c.sched ≤ n) (hm : selectionLeft c.sched ≤ m) :
    selectFrames n c = selectFrames m c := by
  have nothing : ∀ {c f}, findFrame c = some f → selectionLeft c.sched ≠ 0 := fun found =>
    Nat.ne_zero_of_lt (selectionLeft_sendFound found)
  induction n generalizing m c with
  | zero =>
    cases m with
    | zero => rfl
    | succ m =>
      unfold selectFrames
      split
      · rfl
      · exact absurd (Nat.le_zero.mp hn) (nothing ‹_›)
  | succ n ih =>
    cases m with
    | zero =>
      unfold selectFrames
      split
      · rfl
      · exact absurd (Nat.le_zero.mp hm) (nothing ‹_›)
    | succ m =>
      unfold selectFrames
      split
      · rfl
      · rename_i f found
        have less := selectionLeft_sendFound found
        rw [ih (c := sendFound f c) (m := m) (by omega) (by omega)]

theorem selectionLeft_le (s : Scheduler) : selectionLeft s ≤ selectionBound s := by
  unfold selectionLeft selectionBound
  omega

/-- What is sent leaves the link's state. -/
theorem sendFound_linkState (f : Found) (c : Chip) : (sendFound f c).link.state = c.link.state := by
  cases f with
  | audio a => simp only [sendFound, sendAudio, modSched, numberFrame, charge, modLink, putHt]
  | resend e =>
    rw [sendFound, resendEntry_eq, noteResend_link]
    simp only [resent, await, modSched, charge, modLink, putHt]
  | label l =>
    rw [sendFound, sendLabelFrame, labelSent_link]
    simp only [await, modSched, numberFrame, charge, modLink, putHt]
  | video k q rotated =>
    rw [sendFound, sendVideo, changeQueued_link]
    simp only [await, modSched, numberFrame, charge, modLink, putHt]
  | pass x => simp only [sendFound, sendPass, modSched, numberFrame, charge, modLink, putHt]

/-! ## A selection (R134) -/

theorem selectFrames_none {c : Chip} (h : findFrame c = none) (n : Nat) : selectFrames n c = c := by
  cases n with
  | zero => rfl
  | succ n => simp only [selectFrames, h]

theorem selectFrames_uncovered {c : Chip} {f : Found} (h : findFrame c = some f)
    (short : c.link.credit < 8 * (frameOf c f).length) (n : Nat) : selectFrames n c = c := by
  cases n with
  | zero => rfl
  | succ n => simp only [selectFrames, h, foundSize_eq c f, if_neg (Nat.not_le.mpr short)]

theorem selectTick_of_selectFrames {c : Chip} (h : ∀ n, selectFrames n c = c) : selectTick c = c := by
  unfold selectTick
  split
  · exact h _
  · rfl

theorem selectTick_covered {c : Chip} {f : Found} (sends : linkSends c.link.state = true) (found : findFrame c = some f)
    (covered : 8 * (frameOf c f).length ≤ c.link.credit) : selectTick c = selectTick (sentNow c f) := by
  have less := selectionLeft_sendFound found
  have bound := selectionLeft_le c.sched
  have goesOn : linkSends (sendFound f c).link.state = true := by rw [sendFound_linkState, sends]
  obtain ⟨n, fuel⟩ : ∃ n, selectionBound c.sched = n + 1 := ⟨selectionBound c.sched - 1, by omega⟩
  rw [← sendFound_eq, selectTick, selectTick, if_pos sends, if_pos goesOn]
  calc selectFrames (selectionBound c.sched) c
      = selectFrames n (sendFound f c) := by
        rw [fuel]
        simp only [selectFrames, found, foundSize_eq c f, if_pos covered]
    _ = selectFrames (selectionBound (sendFound f c).sched) (sendFound f c) :=
      selectFrames_enough (by omega) (selectionLeft_le _)

/-- Settles O60: the tick's four steps in order, and a selection's five ways. -/
theorem selectionSendsWhatItFinds : Obligations.SelectionSendsWhatItFinds := by
  unfold Obligations.SelectionSendsWhatItFinds
  intro c sends
  have sends_iff : linkSends c.link.state = true ↔ sends := linkSends_iff _
  refine ⟨?_, expireWindows_successively c, ?_, fun silent => if_neg fun h => silent (sends_iff.mp h),
    fun none => selectTick_of_selectFrames (selectFrames_none none),
    fun f found short => selectTick_of_selectFrames (selectFrames_uncovered found short),
    fun f h found covered => selectTick_covered (sends_iff.mpr h) found covered⟩
  · rw [schedulerTick, earnCredit_eq]
  · intro passed
    have due : passed = deadlineDue c.time.ms := funext fun q => (deadlineDue_eq _ q).symm
    rw [due]
    exact deadlines_successively allCtx (by decide) rfl fun _ _ => rfl

end Sys2Proof.Clockwork

end


section
/-! Steering (chapter 3): the reading of an entry, the evaluation of a cell against the active bank, and the unit's
four commands. -/

namespace Sys2Proof.SteeringUnit

open Sys2Proof.Machine Sys2Proof.Safety Sys2Proof.Claims

/-! ## Reading an entry (R26 to R28, R188) -/

theorem kindInSet_iff (set : Byte) (k : CellKind) : kindInSet set k = true ↔
    (k = .video ∧ set.getLsbD 0 = true) ∨ (k = .audio ∧ set.getLsbD 1 = true) ∨
      (k = .data ∧ set.getLsbD 2 = true) := by
  cases k <;> simp [kindInSet, kindBit]

/-- R26: an operand in 0 to 4095 is the stream that it is read as. -/
theorem operand_toNat {x : BitVec 16} (h : x.toNat ≤ 4095) : (x.extractLsb' 0 12 : Stream).toNat = x.toNat := by
  rw [BitVec.extractLsb'_toNat, Nat.shiftRight_zero, Nat.mod_eq_of_lt (by omega)]

/-- R27: RANGE, PAIR and MASK, for operands as a bank holds them. -/
theorem matchHolds_iff {e : SteerEntry} (h : e.first.toNat ≤ 4095 ∧ e.second.toNat ≤ 4095) (s : Stream) :
    matchHolds e s = true ↔
      (e.matchType.toNat = 0 ∧ e.first.toNat ≤ s.toNat ∧ s.toNat ≤ e.second.toNat) ∨
        (e.matchType.toNat = 1 ∧ (s.toNat = e.first.toNat ∨ s.toNat = e.second.toNat)) ∨
        (e.matchType.toNat = 2 ∧ s.toNat &&& e.second.toNat = e.first.toNat &&& e.second.toNat) := by
  obtain ⟨first, second⟩ := h
  simp only [matchHolds, byte_eq_ofNat e.matchType (show 0 < 256 by decide),
    byte_eq_ofNat e.matchType (show 1 < 256 by decide), byte_eq_ofNat e.matchType (show 2 < 256 by decide)]
  split
  · rename_i range
    simp [range, BitVec.le_def, operand_toNat first, operand_toNat second]
  split
  · rename_i pair
    simp [pair, ← BitVec.toNat_inj, operand_toNat first, operand_toNat second]
  split
  · rename_i mask
    simp [mask, ← BitVec.toNat_inj, operand_toNat first, operand_toNat second]
  · simp [*]

/-- R188: the codes that name an action. -/
theorem actionOf_eq_none {b : Byte} : actionOf b = none ↔ ¬namesAction b.toNat := by
  simp only [actionOf, namesAction, byte_eq_ofNat b (show 0 < 256 by decide), byte_eq_ofNat b (show 48 < 256 by decide)]
  grind

/-- R28: an entry that decides a cell does so with the action that its code names. -/
theorem entryDecides_of_decides {e : SteerEntry} (operands : e.first.toNat ≤ 4095 ∧ e.second.toNat ≤ 4095)
    {k : CellKind} {s : Stream} {code : Nat} (h : Decides e k s code) : entryDecides e k s = actionOf e.action := by
  obtain ⟨kind, holds, -⟩ := h
  rw [entryDecides, (kindInSet_iff _ _).mpr kind, (matchHolds_iff operands s).mpr holds]
  rfl

/-- R28: an entry that decides a cell under no code that names an action leaves it undecided. -/
theorem entryDecides_eq_none {e : SteerEntry} (operands : e.first.toNat ≤ 4095 ∧ e.second.toNat ≤ 4095)
    {k : CellKind} {s : Stream} (h : ∀ m, namesAction m → ¬Decides e k s m) : entryDecides e k s = none := by
  unfold entryDecides
  split
  · rename_i both
    rw [Bool.and_eq_true, kindInSet_iff, matchHolds_iff operands] at both
    obtain ⟨kind, holds⟩ := both
    exact actionOf_eq_none.mpr fun names => h _ names ⟨kind, holds, rfl⟩
  · rfl

/-! ## The examination of a bank (R25, R28) -/

/-- R28: of a list of indices in order, the decision is that of an index that decides where none before it does. -/
theorem firstDecision_some {bank : Vector SteerEntry 64} {k : CellKind} {s : Stream} {l : List (Fin 64)}
    (sorted : l.Pairwise (· < ·)) {i : Fin 64} (mem : i ∈ l) {a : SteerAction}
    (decides : entryDecides bank[i] k s = some a) (before : ∀ j < i, entryDecides bank[j] k s = none) :
    firstDecision bank k s l = some (i, a) := by
  induction l with
  | nil => nomatch mem
  | cons j rest ih =>
    obtain ⟨least, sorted⟩ := List.pairwise_cons.mp sorted
    rcases List.mem_cons.mp mem with rfl | later
    · simp only [firstDecision, decides]
    · simp only [firstDecision, before j (least i later), ih sorted later]

theorem firstDecision_none {bank : Vector SteerEntry 64} {k : CellKind} {s : Stream}
    (h : ∀ j : Fin 64, entryDecides bank[j] k s = none) (l : List (Fin 64)) : firstDecision bank k s l = none := by
  induction l with
  | nil => rfl
  | cons j rest ih => simp only [firstDecision, h j, ih]

/-- R26, R34: the operands of the active bank's entries. -/
theorem operands_active {c : Chip} (h : BanksOk c) (i : Fin 64) :
    (activeOf c.steer)[i].first.toNat ≤ 4095 ∧ (activeOf c.steer)[i].second.toNat ≤ 4095 := by
  obtain ⟨bank0, bank1⟩ := h
  unfold activeOf
  split
  · exact bank0 _ (Vector.mem_toList_iff.mpr (Vector.getElem_mem _))
  · exact bank1 _ (Vector.mem_toList_iff.mpr (Vector.getElem_mem _))

/-! ## Actions (R29 to R32, R78, R139) -/

theorem joinPass_eq (x : Cell) (c : Chip) : joinPass ⟨x.stream, x.payload⟩ c = passed x c := by
  by_cases full : 32 ≤ c.sched.passQueue.length
  · simp [joinPass, passed, full, Nat.not_lt.mpr full]
  · simp [joinPass, passed, full, Nat.not_le.mp full]

theorem receiveBlock_eq (payload : List Byte) (x : Input) : receiveBlock payload x = inputAfterCell x payload := by
  unfold receiveBlock inputAfterCell
  by_cases block : payload.length = 144
  · by_cases full : 4 ≤ x.buffer.length
    · simp [block, full, Nat.not_lt.mpr full]
    · simp [block, full, Nat.not_le.mp full]
  · simp [block]

/-- R29, R30: an action is carried out as its code has it. -/
theorem carryOut_eq {b : Byte} {a : SteerAction} (h : actionOf b = some a) (n : LaneNo) (k : CellKind) (x : Cell)
    (c : Chip) : carryOut a n k x c = afterAction b.toNat n k x c := by
  simp only [actionOf, byte_eq_ofNat b (show 0 < 256 by decide), byte_eq_ofNat b (show 48 < 256 by decide)] at h
  unfold afterAction
  split at h
  · rename_i zero
    cases h
    rw [dif_neg (by omega), dif_neg (by omega), if_neg (by omega)]
    rfl
  split at h
  · rename_i code
    cases h
    rw [dif_pos code]
    rfl
  split at h
  · rename_i mix
    cases h
    have blocks : receiveBlock x.payload = fun i => inputAfterCell i x.payload := funext (receiveBlock_eq _)
    rw [dif_neg ‹_›, dif_pos mix, carryOut, blocks]
    rfl
  split at h
  · cases h
    rw [dif_neg ‹_›, dif_neg ‹_›, if_pos ‹_›]
    exact joinPass_eq x (decided c)
  · cases h

theorem afterAction_time (code : Nat) (n : LaneNo) (k : CellKind) (x : Cell) (c : Chip) :
    (afterAction code n k x c).time = c.time := by
  unfold afterAction
  split
  · split
    · exact (Clockwork.worked_gatherCell _ n x (Clockwork.worked_refl (decided c))).time
    · rfl
  split
  · split
    · rfl
    · rfl
  split
  · rfl
  · rfl

/-! ## A cell at the steering unit (R28, R31 to R33) -/

/-- R5: a cell of the three media kinds, on a stream from 2 up, reaches steering. -/
theorem ends_steering {n : LaneNo} {bytes : List Byte} {x : Cell} {k : CellKind} {s : State} {d : Chip}
    (read : readCell bytes = some x) (kind : x.kind = kindCode k) (media : k ∈ [CellKind.video, .audio, .data])
    (stream : 2 ≤ x.stream.toNat) (h : steerCell n k x (countAccepted n s.chip) = d) :
    Ends (.cellArrival n bytes) s d := by
  refine VanFabric.ends_cellArrival read n s ?_
  have code : (kindCode k).toNat ≤ 3 := by
    revert media
    cases k <;> decide
  rw [receiveCell, VanFabric.laneVerdict_of_kind kind, VanFabric.routeOf_steering code, if_neg (by omega)]
  exact h

theorem steerCell_run {c : Chip} (run : c.port.mode = .run) (n : LaneNo) (k : CellKind) (x : Cell) :
    steerCell n k x c = evaluateCell n k x c := by simp only [steerCell, run]

/-- R28, R29, R32: a cell that an entry of the active bank is the first to decide. -/
theorem evaluateCell_decided {c : Chip} (banks : BanksOk c) {k : CellKind} {x : Cell} {i : Fin 64} {code : Nat}
    (names : namesAction code) (decides : Decides (activeOf c.steer)[i] k x.stream code)
    (before : ∀ j < i, ∀ m, namesAction m → ¬Decides (activeOf c.steer)[j] k x.stream m) (n : LaneNo) :
    evaluateCell n k x c = if (activeOf c.steer)[i].kinds.getLsbD 7
      then recordNote i n x.stream (afterAction code n k x c) else afterAction code n k x c := by
  obtain ⟨-, -, rfl⟩ := id decides
  obtain ⟨a, named⟩ := Option.ne_none_iff_exists'.mp (mt actionOf_eq_none.mp (not_not_intro names))
  have decision : decideCell c.steer k x.stream = some (i, a) :=
    firstDecision_some (List.pairwise_lt_finRange 64) (List.mem_finRange i)
      ((entryDecides_of_decides (operands_active banks i) decides).trans named)
      (fun j earlier => entryDecides_eq_none (operands_active banks j) (before j earlier))
  rw [evaluateCell, decision, ← carryOut_eq named]
  rfl

/-- R31: a cell that no entry of the active bank decides. -/
theorem evaluateCell_undecided {c : Chip} (banks : BanksOk c) {k : CellKind} {x : Cell}
    (passes : ∀ j : Fin 64, ∀ m, namesAction m → ¬Decides (activeOf c.steer)[j] k x.stream m) (n : LaneNo) :
    evaluateCell n k x c = defaultAction x c := by
  have undecided : decideCell c.steer k x.stream = none :=
    firstDecision_none (fun j => entryDecides_eq_none (operands_active banks j) (passes j)) _
  rw [evaluateCell, undecided]

theorem defaultAction_discard {c : Chip} (h : c.steer.default = .discard) (x : Cell) : defaultAction x c
    = discarded { c with steer := { c.steer with noMatch := bump c.steer.noMatch } } := by
  rw [defaultAction, h]
  rfl

theorem defaultAction_pass {c : Chip} (h : c.steer.default = .pass) (x : Cell) : defaultAction x c
    = passed x { c with steer := { c.steer with noMatch := bump c.steer.noMatch } } := by
  rw [defaultAction, h]
  exact joinPass_eq x _

/-- Settles O15: the part's mode, and in RUN the first entry that decides, with its note flag, or the default action. -/
theorem steeringDecidesByFirstEntry : Obligations.SteeringDecidesByFirstEntry := by
  unfold Obligations.SteeringDecidesByFirstEntry
  intro n bytes x k s read kind media stream banks accepted
  have ends : ∀ {d}, steerCell n k x accepted = d → Ends (.cellArrival n bytes) s d :=
    ends_steering read kind media stream
  refine ⟨fun standby => ends ?_, fun run i code names decides before => ?_, fun run passes => ?_⟩
  · have mode : accepted.port.mode = .standby := standby
    simp only [steerCell, mode]
  · have evaluated := (steerCell_run (c := accepted) run n k x).trans
      (evaluateCell_decided (c := accepted) banks names decides before n)
    refine ⟨fun quiet => ends (evaluated.trans (if_neg (Bool.eq_false_iff.mp quiet))), fun noted => ends ?_⟩
    rw [evaluated, if_pos noted, recordNote, modSteer, afterAction_time]
  · have evaluated := (steerCell_run (c := accepted) run n k x).trans
      (evaluateCell_undecided (c := accepted) banks passes n)
    exact ⟨fun discard => ends (evaluated.trans (defaultAction_discard (c := accepted) discard x)),
      fun pass => ends (evaluated.trans (defaultAction_pass (c := accepted) pass x))⟩

/-! ## LOAD_STEER and READ_STEER (R34, R35) -/

theorem clampOperand_eq (x : BitVec 16) : clampOperand x = BitVec.ofNat 16 (min 4095 x.toNat) := by
  rw [clampOperand, clampNat_eq_min_max _ _ _ (by decide), Nat.zero_max]

/-- R26, R34: an entry as stored. -/
theorem storedEntry_eq (e : SteerEntry) : storedEntry e = { e with
    first := BitVec.ofNat 16 (min 4095 e.first.toNat), second := BitVec.ofNat 16 (min 4095 e.second.toNat),
    kinds := e.kinds &&& 0x87#8 } := by
  simp only [storedEntry, clampOperand_eq]

theorem steerRange_iff {first count : Nat} :
    steerRange first count = true ↔ 1 ≤ count ∧ count ≤ 8 ∧ first + count ≤ 64 := by
  simp [steerRange, and_assoc]

theorem steerRange_eq_false {first count : Nat} :
    steerRange first count = false ↔ ¬(1 ≤ count ∧ count ≤ 8 ∧ first + count ≤ 64) := by
  rw [← steerRange_iff, Bool.not_eq_true]

/-- R34: a bank after entries are written from an index on, index by index. -/
theorem writeEntries_get (es : List SteerEntry) (b : Vector SteerEntry 64) (n : Nat) (i : Fin 64)
    (default : SteerEntry) : (writeEntries b n es)[i] = if i.val < n ∨ n + es.length ≤ i.val then b[i]
      else storedEntry (es.getD (i.val - n) default) := by
  induction es generalizing b n with
  | nil => rw [if_pos (by simp; omega)]; rfl
  | cons e es ih =>
    rw [writeEntries, ih, List.length_cons]
    rcases Nat.lt_trichotomy i.val n with below | here | above
    · rw [if_pos (.inl (by omega)), if_pos (.inl below)]
      exact Vector.getElem_setIfInBounds_ne _ (by omega)
    · subst here
      rw [if_pos (.inl (by omega)), if_neg (by omega), Nat.sub_self]
      exact Vector.getElem_setIfInBounds_self _
    · obtain ⟨m, hm⟩ : ∃ m, i.val - n = m + 1 := ⟨i.val - n - 1, by omega⟩
      rw [hm, List.getD_cons_succ, show i.val - (n + 1) = m by omega]
      refine if_congr (by omega) ?_ rfl
      exact Vector.getElem_setIfInBounds_ne _ (by omega)

/-- R25: the bank that the active-bank pointer does not name. -/
def shadowOf (t : Steering) : Vector SteerEntry 64 := if t.activeBank = 0 then t.bank1 else t.bank0

/-- R34: the entries are written to the shadow. -/
theorem writeShadow_eq (first : Nat) (es : List SteerEntry) (t : Steering) : writeShadow first es t =
    if t.activeBank = 0 then { t with bank1 := writeEntries (shadowOf t) first es }
    else { t with bank0 := writeEntries (shadowOf t) first es } := by
  have other : shadowBank t = 0 ↔ ¬t.activeBank = 0 := by
    unfold shadowBank
    generalize t.activeBank = n
    revert n
    decide
  by_cases zero : t.activeBank = 0
  · rw [writeShadow, if_neg (fun h => other.mp h zero), if_pos zero, shadowOf, if_pos zero]
  · rw [writeShadow, if_pos (other.mpr zero), if_neg zero, shadowOf, if_neg zero]

theorem loadSteer_refused {first count : Byte} {entries : List SteerEntry}
    (h : ¬(1 ≤ count.toNat ∧ count.toNat ≤ 8 ∧ first.toNat + count.toNat ≤ 64) ∨ entries.length ≠ count.toNat)
    (c : Chip) : loadSteer first count entries c = refuse .refusedRange c := by
  refine if_neg fun taken => ?_
  rw [Bool.and_eq_true, steerRange_iff, countOk, beq_iff_eq] at taken
  exact h.elim (fun outside => outside taken.2) (fun other => other taken.1)

theorem loadSteer_taken {first count : Byte} {entries : List SteerEntry}
    (range : 1 ≤ count.toNat ∧ count.toNat ≤ 8 ∧ first.toNat + count.toNat ≤ 64)
    (length : entries.length = count.toNat) (c : Chip) : loadSteer first count entries c =
      ({ c with steer := writeShadow first.toNat entries c.steer }, doneReply (entries.any entryClamped)) := by
  refine if_pos ?_
  rw [Bool.and_eq_true, steerRange_iff, countOk, beq_iff_eq]
  exact ⟨length, range⟩

/-- R35: ACTIVE names the active bank, SHADOW the other, and a code from 2 up none. -/
theorem bankChoice_eq (t : Steering) (b : Byte) : bankChoice t b =
    if b.toNat < 2 then some (if b.toNat = 0 then t.activeBank else t.activeBank + 1) else none := by
  simp only [bankChoice, byte_eq_ofNat b (show 0 < 256 by decide), byte_eq_ofNat b (show 1 < 256 by decide), shadowBank]
  split
  · rw [if_pos (by omega)]
  split
  · rw [if_pos (by omega)]
  · rw [if_neg (by omega)]

theorem readSteer_refused {bank first count : Byte}
    (h : ¬(1 ≤ count.toNat ∧ count.toNat ≤ 8 ∧ first.toNat + count.toNat ≤ 64) ∨ 2 ≤ bank.toNat) (c : Chip) :
    readSteer bank first count c = refuse .refusedRange c := by
  rw [readSteer, bankChoice_eq]
  by_cases bankNamed : bank.toNat < 2
  · have outside := steerRange_eq_false.mpr (h.resolve_right (Nat.not_le.mpr bankNamed))
    simp only [if_pos bankNamed, outside]
    rfl
  · rw [if_neg bankNamed]

theorem readSteer_taken {bank first count : Byte}
    (range : 1 ≤ count.toNat ∧ count.toNat ≤ 8 ∧ first.toNat + count.toNat ≤ 64) (bankNamed : bank.toNat < 2)
    (c : Chip) : readSteer bank first count c = (c, ⟨.done, steerData c.steer
      (if bank.toNat = 0 then c.steer.activeBank else c.steer.activeBank + 1) first.toNat count.toNat⟩) := by
  rw [readSteer, bankChoice_eq, if_pos bankNamed]
  exact if_pos (steerRange_iff.mpr range)

/-! ## STEER_DEFAULT (R31) -/

theorem steerDefaultOf_eq (b : Byte) : steerDefaultOf b =
    if b.toNat = 0 then some .discard else if b.toNat = 1 then some .pass else none := by
  simp only [steerDefaultOf, byte_eq_ofNat b (show 0 < 256 by decide), byte_eq_ofNat b (show 1 < 256 by decide)]

/-- Settles O16: each command's tests, and what its work makes of the part. -/
theorem steeringPlanIsLoadedReadAndDefaulted : Obligations.SteeringPlanIsLoadedReadAndDefaulted := by
  unfold Obligations.SteeringPlanIsLoadedReadAndDefaulted
  refine ⟨fun tag first count bank entries s room => ?_, fun tag action s room => ?_⟩
  · intro inRange active
    have loads : ∀ {code data f}, loadSteer first count entries (holdPlace s.chip) = (f (holdPlace s.chip), ⟨code, data⟩) →
        Answers (.loadSteer tag first count entries) s tag .loadSteer code data f := Clockwork.answers_of_work room rfl
    have reads : ∀ {code data f}, readSteer bank first count (holdPlace s.chip) = (f (holdPlace s.chip), ⟨code, data⟩) →
        Answers (.readSteer tag bank first count) s tag .readSteer code data f := Clockwork.answers_of_work room rfl
    refine ⟨fun refused => loads (loadSteer_refused refused _), fun range length => ?_,
      fun refused => reads (readSteer_refused refused _),
      fun range bankNamed => reads (readSteer_taken range bankNamed _)⟩
    refine ⟨writeEntries (shadowOf s.chip.steer) first.toNat entries, loads ?_, fun i => ?_⟩
    · rw [loadSteer_taken range length, writeShadow_eq]
      rfl
    · rw [writeEntries_get entries _ _ i ⟨0, 0, 0, 0, 0⟩, length, storedEntry_eq]
      rfl
  · have answers : ∀ {code data f}, steerDefault action (holdPlace s.chip) = (f (holdPlace s.chip), ⟨code, data⟩) →
        Answers (.steerDefault tag action) s tag .steerDefault code data f := Clockwork.answers_of_work room rfl
    refine ⟨fun discard => answers ?_, fun pass => answers ?_, fun other => answers ?_⟩
    all_goals rw [steerDefault, steerDefaultOf_eq]
    · rw [if_pos discard]
      rfl
    · rw [if_neg (by omega), if_pos pass]
      rfl
    · rw [if_neg (by omega), if_neg (by omega)]
      rfl

/-! ## SWAP_STEER (R36) -/

/-- Settles O17: the addressed form is taken as every addressed command is, and the global form is counted. -/
theorem swapSteerSetsPendingSwap : Obligations.SwapSteerSetsPendingSwap := by
  unfold Obligations.SwapSteerSetsPendingSwap
  exact fun tag s => ⟨fun room => Clockwork.answers_of_work room rfl rfl, rfl⟩

end Sys2Proof.SteeringUnit

end


section
/-! The coding engine's arbiter (R51, R52): whom it grants, and what a grant does. -/

namespace Sys2Proof.CodingRoom

open Sys2Proof.Machine Sys2Proof.Safety Sys2Proof.Claims

/-! ## The rotation (R51) -/

/-- How far a context stands behind the rotation pointer, the context after it at 0 and its own at 5. -/
def rank (p k : Ctx) : Nat := (k - p - 1).val

/-- The rotation lists the contexts by their rank. -/
theorem rotation_split : ∀ p k : Ctx,
    rotation p = (rotation p).take (rank p k) ++ k :: (rotation p).drop (rank p k + 1) ∧
      ∀ j ∈ (rotation p).take (rank p k), rank p j < rank p k := by decide

/-- The first context of the rotation that passes a test is the one of least rank. -/
theorem find?_rotation {p k : Ctx} {test : Ctx → Bool} (passes : test k = true)
    (least : ∀ j, test j = true → rank p k ≤ rank p j) : (rotation p).find? test = some k := by
  obtain ⟨split, before⟩ := rotation_split p k
  refine List.find?_eq_some_iff_append.mpr ⟨passes, _, _, split, fun j hj => ?_⟩
  have fails : ¬test j = true := fun h => absurd (least j h) (Nat.not_le_of_lt (before j hj))
  simpa using fails

theorem mem_rotation : ∀ p k : Ctx, k ∈ rotation p := by decide

/-! ## A grant (R52) -/

/-- R51, R52: the part once a context's ready record is in the engine: q and the programme flag are sampled, and the
pointer moves but for the programme context. -/
def granted (k : Ctx) (r : Ready) (c : Chip) : Chip :=
  let onAir : Bool := decide (c.sel.programme = some k)
  { c with
    ctx := modAt c.ctx k (fun y => { y with ready := none }),
    engine := { c.engine with
      op := some ⟨r.picture, r.memory, c.rate[k].q, onAir⟩, grants := bump c.engine.grants,
      programmeGrants := bumpIf onAir c.engine.programmeGrants,
      pointer := if onAir then c.engine.pointer else k } }

theorem arbitrate_busy {c : Chip} (busy : c.engine.op.isSome = true) : arbitrate c = c := by
  obtain ⟨o, op⟩ := Option.isSome_iff_exists.mp busy
  rw [arbitrate, op]

theorem hasReady_iff (c : Chip) (k : Ctx) : hasReady c k = true ↔ c.ctx[k].ready ≠ none := by
  rw [hasReady, Option.isSome_iff_ne_none]

theorem programmeReady_eq_none {c : Chip} :
    programmeReady c = none ↔ ∀ p, c.sel.programme = some p → c.ctx[p].ready = none := by
  unfold programmeReady
  cases c.sel.programme with
  | none => simp
  | some p =>
    simp only [Option.some.injEq, forall_eq', ite_eq_right_iff, reduceCtorEq, imp_false, hasReady_iff, not_not]

theorem programmeReady_eq_some {c : Chip} {k : Ctx} :
    programmeReady c = some k ↔ c.sel.programme = some k ∧ c.ctx[k].ready ≠ none := by
  unfold programmeReady
  cases c.sel.programme with
  | none => simp
  | some p =>
    simp only [Option.ite_none_right_eq_some, Option.some.injEq, hasReady_iff]
    exact ⟨fun ⟨ready, e⟩ => ⟨e, e ▸ ready⟩, fun ⟨e, ready⟩ => ⟨e ▸ ready, e⟩⟩

theorem arbitrate_unready {c : Chip} (unready : ∀ k : Ctx, c.ctx[k].ready = none) : arbitrate c = c := by
  have programme : programmeReady c = none := programmeReady_eq_none.mpr fun p _ => unready p
  have rotated : (rotation c.engine.pointer).find? (hasReady c) = none :=
    List.find?_eq_none.mpr fun k _ => by rw [hasReady, unready k]; nofun
  unfold arbitrate
  rw [programme, rotated]
  split <;> rfl

/-- R51, step 1. -/
theorem arbitrate_programme {c : Chip} {k : Ctx} {r : Ready} (idle : c.engine.op = none) (ready : c.ctx[k].ready = some r)
    (onAir : c.sel.programme = some k) : arbitrate c = granted k r c := by
  have first : programmeReady c = some k := programmeReady_eq_some.mpr ⟨onAir, by rw [ready]; nofun⟩
  unfold arbitrate grantTo
  simp only [idle, first, ready, granted, onAir, decide_true, bumpIf_true, if_true, beq_self_eq_true]
  rfl

/-- R51, step 2. -/
theorem arbitrate_rotated {c : Chip} {k : Ctx} {r : Ready} (idle : c.engine.op = none) (ready : c.ctx[k].ready = some r)
    (programme : ∀ p, c.sel.programme = some p → c.ctx[p].ready = none)
    (first : (rotation c.engine.pointer).find? (hasReady c) = some k) : arbitrate c = granted k r c := by
  have offAir : c.sel.programme ≠ some k := fun onAir => by rw [programme k onAir] at ready; cases ready
  unfold arbitrate grantTo
  simp only [idle, programmeReady_eq_none.mpr programme, first, ready, granted, offAir, decide_false, bumpIf_false,
    beq_eq_false_iff_ne.mpr offAir]
  rfl

/-- Everything the arbiter can do: nothing, with an operation in the engine or no record ready, or one grant. -/
theorem arbitrate_cases (c : Chip) :
    (arbitrate c = c ∧ (c.engine.op = none → ∀ k : Ctx, c.ctx[k].ready = none)) ∨
      ∃ k r, c.engine.op = none ∧ c.ctx[k].ready = some r ∧ arbitrate c = granted k r c := by
  cases op : c.engine.op with
  | some o => exact .inl ⟨arbitrate_busy (by rw [op]; rfl), nofun⟩
  | none =>
    by_cases unready : ∀ k : Ctx, c.ctx[k].ready = none
    · exact .inl ⟨arbitrate_unready unready, fun _ => unready⟩
    refine .inr ?_
    cases programme : programmeReady c with
    | some k =>
      obtain ⟨onAir, ready⟩ := programmeReady_eq_some.mp programme
      obtain ⟨r, ready⟩ := Option.ne_none_iff_exists'.mp ready
      exact ⟨k, r, rfl, ready, arbitrate_programme op ready onAir⟩
    | none =>
      obtain ⟨j, waits⟩ := not_forall.mp unready
      obtain ⟨k, first⟩ := Option.isSome_iff_exists.mp
        (List.find?_isSome.mpr ⟨j, mem_rotation c.engine.pointer j, (hasReady_iff c j).mpr waits⟩)
      obtain ⟨r, ready⟩ := Option.ne_none_iff_exists'.mp ((hasReady_iff c k).mp (List.find?_some first))
      exact ⟨k, r, rfl, ready, arbitrate_rotated op ready (programmeReady_eq_none.mp programme) first⟩

/-- Settles O23: the programme context's record first, and otherwise the one of least rank in the rotation. -/
theorem arbiterGrantsProgrammeThenRotation : Obligations.ArbiterGrantsProgrammeThenRotation := by
  unfold Obligations.ArbiterGrantsProgrammeThenRotation
  intro c
  refine ⟨fun still => still.elim arbitrate_busy arbitrate_unready, fun k r idle ready => ?_⟩
  intro onAir first
  obtain programme | ⟨programme, least⟩ := first
  · exact arbitrate_programme idle ready (of_decide_eq_true programme)
  · refine arbitrate_rotated idle ready programme (find?_rotation ?_ least)
    exact (hasReady_iff c k).mpr (by rw [ready]; nofun)

end Sys2Proof.CodingRoom

end


section
/-! The contexts, the engine and the programme (R41, R45, R51, R53, R59, R104, R106, R178): what of the part their
conditions read, and what keeps them, the engine's grant taken last. -/

namespace Sys2Proof.CodingRoom

open Sys2Proof.Machine Sys2Proof.Safety Sys2Proof.Claims Sys2Proof.Clockwork

-- One theorem after another: side by side, each waits for the others on a thread of its own.
set_option Elab.async false

/-! ## The conditions, taken apart -/

/-- R41, R45, R59: what a context's state says of its records, its video queue and its rate state. -/
structure Stands (k : Ctx) (x : Context) (v : List Queued) (r : RateState) : Prop where
  still : x.state ≠ .running → x.gathering = none ∧ x.ready = none
  empty : x.state = .stopped ∨ x.state = .starting → v = []
  drains : x.state = .draining → v ≠ []
  bound : v.length ≤ 8
  gathers : ∀ g, x.gathering = some g → g.picture.ctx = k
  waits : ∀ y, x.ready = some y → y.picture.ctx = k
  quiet : x.state = .stopped ∨ x.state = .starting → r.target = 0 ∧ r.size = 0 ∧ r.fill = 0

/-- A context of the part stands as its state says. -/
def StandsIn (c : Chip) (k : Ctx) : Prop := Stands k c.ctx[k] c.sched.videoQueue[k] c.rate[k]

theorem standsIn_iff (c : Chip) (k : Ctx) : StandsIn c k ↔ ContextOk c k ∧ QuietRate c k :=
  ⟨fun ⟨still, empty, drains, bound, gathers, waits, quiet⟩ => ⟨⟨still, empty, drains, bound, gathers, waits⟩, quiet⟩,
    fun ⟨⟨still, empty, drains, bound, gathers, waits⟩, quiet⟩ => ⟨still, empty, drains, bound, gathers, waits, quiet⟩⟩

/-- The contexts and the operation in the engine. -/
structure RecordsOk (c : Chip) : Prop where
  stands : ∀ k, StandsIn c k
  coding : ∀ o, c.engine.op = some o → c.ctx[o.picture.ctx].state = .running

/-- Every condition but that an idle engine leaves no record ready, which the grant brings about. -/
structure Ungranted (c : Chip) : Prop extends RecordsOk c where
  programme : ProgrammeOk c
  standby : StandbyOk c

/-- The conditions of the contexts, the engine, the programme and STANDBY. -/
def Pictured (c : Chip) : Prop := PicturesOk c ∧ StandbyOk c

theorem pictured_iff (c : Chip) :
    Pictured c ↔ Ungranted c ∧ (c.engine.op = none → ∀ k : Ctx, c.ctx[k].ready = none) := by
  constructor
  · rintro ⟨⟨contexts, quiet, ⟨coding, idle⟩, programme⟩, standby⟩
    exact ⟨⟨⟨fun k => (standsIn_iff c k).mpr ⟨contexts k, quiet k⟩, coding⟩, programme, standby⟩, idle⟩
  · rintro ⟨⟨⟨stands, coding⟩, programme, standby⟩, idle⟩
    exact ⟨⟨fun k => ((standsIn_iff c k).mp (stands k)).1, fun k => ((standsIn_iff c k).mp (stands k)).2,
      ⟨coding, idle⟩, programme⟩, standby⟩

variable {c d : Chip}

theorem Pictured.ungranted (h : Pictured c) : Ungranted c := ((pictured_iff c).mp h).1

theorem Pictured.stands (h : Pictured c) (k : Ctx) : StandsIn c k := h.ungranted.stands k

theorem Ungranted.run (h : Ungranted c) (up : c.link.state ≠ .down) : c.port.mode = .run := by
  cases mode : c.port.mode with
  | run => rfl
  | standby => exact absurd (h.standby mode).1 up

/-! ## What the conditions read -/

/-- Nothing that the conditions read of the part is another: the contexts' states and records, the video queues, each
T, R and F, the operation in the engine, the programme, the part mode and the link state. -/
structure SamePictures (c d : Chip) : Prop where
  records : ∀ k : Ctx, d.ctx[k].state = c.ctx[k].state ∧ d.ctx[k].gathering = c.ctx[k].gathering ∧
    d.ctx[k].ready = c.ctx[k].ready
  queues : d.sched.videoQueue = c.sched.videoQueue
  rates : ∀ k : Ctx, d.rate[k].target = c.rate[k].target ∧ d.rate[k].size = c.rate[k].size ∧
    d.rate[k].fill = c.rate[k].fill
  op : d.engine.op = c.engine.op
  programme : d.sel.programme = c.sel.programme
  mode : d.port.mode = c.port.mode
  link : d.link.state = c.link.state

theorem samePictures_refl (c : Chip) : SamePictures c c :=
  ⟨fun _ => ⟨rfl, rfl, rfl⟩, rfl, fun _ => ⟨rfl, rfl, rfl⟩, rfl, rfl, rfl, rfl⟩

theorem SamePictures.trans {b c d : Chip} (h : SamePictures b c) (h' : SamePictures c d) : SamePictures b d where
  records k := by
    obtain ⟨state, gathering, ready⟩ := h.records k
    obtain ⟨state', gathering', ready'⟩ := h'.records k
    exact ⟨state'.trans state, gathering'.trans gathering, ready'.trans ready⟩
  queues := h'.queues.trans h.queues
  rates k := by
    obtain ⟨target, size, fill⟩ := h.rates k
    obtain ⟨target', size', fill'⟩ := h'.rates k
    exact ⟨target'.trans target, size'.trans size, fill'.trans fill⟩
  op := h'.op.trans h.op
  programme := h'.programme.trans h.programme
  mode := h'.mode.trans h.mode
  link := h'.link.trans h.link

theorem SamePictures.standsIn (same : SamePictures c d) {k : Ctx} (h : StandsIn c k) : StandsIn d k := by
  obtain ⟨state, gathering, ready⟩ := same.records k
  obtain ⟨target, size, fill⟩ := same.rates k
  obtain ⟨still, empty, drains, bound, gathers, waits, quiet⟩ := h
  constructor
  all_goals simp only [state, gathering, ready, target, size, fill, same.queues]
  all_goals assumption

theorem SamePictures.recordsOk (same : SamePictures c d) (h : RecordsOk c) : RecordsOk d where
  stands k := same.standsIn (h.stands k)
  coding o op := (same.records _).1.trans (h.coding o (same.op.symm.trans op))

theorem SamePictures.ungranted (same : SamePictures c d) (h : Ungranted c) : Ungranted d where
  toRecordsOk := same.recordsOk h.toRecordsOk
  programme k onAir := (same.records k).1.trans (h.programme k (same.programme.symm.trans onAir))
  standby mode := by
    obtain ⟨down, stopped⟩ := h.standby (same.mode.symm.trans mode)
    exact ⟨same.link.trans down, fun k => (same.records k).1.trans (stopped k)⟩

theorem SamePictures.pictured (same : SamePictures c d) (h : Pictured c) : Pictured d := by
  obtain ⟨ungranted, idle⟩ := (pictured_iff c).mp h
  exact (pictured_iff d).mpr ⟨same.ungranted ungranted, fun op k =>
    (same.records k).2.2.trans (idle (same.op.symm.trans op) k)⟩

/-- A chain of such work may end with any change that touches none of it. -/
theorem same_quiet {d' : Chip} (h : SamePictures c d) (same : SamePictures d d' := by
    exact ⟨fun _ => ⟨rfl, rfl, rfl⟩, rfl, fun _ => ⟨rfl, rfl, rfl⟩, rfl, rfl, rfl, rfl⟩) : SamePictures c d' :=
  h.trans same

/-- The conditions after any change that touches nothing they read. -/
theorem pictured_quiet (h : Pictured c) (same : SamePictures c d := by
    exact ⟨fun _ => ⟨rfl, rfl, rfl⟩, rfl, fun _ => ⟨rfl, rfl, rfl⟩, rfl, rfl, rfl, rfl⟩) : Pictured d :=
  same.pictured h

theorem ungranted_quiet (h : Ungranted c) (same : SamePictures c d := by
    exact ⟨fun _ => ⟨rfl, rfl, rfl⟩, rfl, fun _ => ⟨rfl, rfl, rfl⟩, rfl, rfl, rfl, rfl⟩) : Ungranted d :=
  same.ungranted h

/-- Work of a block tick that leaves the contexts, the queues, the rate states and the link state. -/
theorem same_ticked {d' : Chip} (h : SamePictures c d) (t : Ticked d d') (ctx : d'.ctx = d.ctx)
    (queues : d'.sched.videoQueue = d.sched.videoQueue) (rate : d'.rate = d.rate) (link : d'.link.state = d.link.state) :
    SamePictures c d' :=
  h.trans ⟨fun k => by rw [ctx]; exact ⟨rfl, rfl, rfl⟩, queues, fun k => by rw [rate]; exact ⟨rfl, rfl, rfl⟩,
    by rw [t.engine], by rw [t.sel], t.mode, link⟩

/-! ## One context changed -/

/-- A change of one context's record, queue or rate state. -/
theorem stands_at {k : Ctx} (h : ∀ j, j ≠ k → StandsIn c j) (here : StandsIn d k)
    (others : ∀ j, j ≠ k → d.ctx[j] = c.ctx[j] ∧ d.sched.videoQueue[j] = c.sched.videoQueue[j] ∧ d.rate[j] = c.rate[j]) :
    ∀ j, StandsIn d j := fun j => by
  by_cases e : j = k
  · exact e ▸ here
  · obtain ⟨ctx, queue, rate⟩ := others j e
    unfold StandsIn
    rw [ctx, queue, rate]
    exact h j e

theorem standsIn_modCtx {k : Ctx} {f : Context → Context}
    (h : Stands k (f c.ctx[k]) c.sched.videoQueue[k] c.rate[k]) : StandsIn (modCtx k f c) k := by
  unfold StandsIn
  rw [modCtx_ctx, modAt_get_same]
  exact h

theorem standsIn_modVideo {k : Ctx} {g : List Queued → List Queued}
    (h : Stands k c.ctx[k] (g c.sched.videoQueue[k]) c.rate[k]) : StandsIn (modVideo k g c) k := by
  unfold StandsIn
  rw [modVideo_sched, modAt_get_same]
  exact h

theorem stands_modCtx {k : Ctx} {f : Context → Context} (h : ∀ j, StandsIn c j)
    (here : Stands k (f c.ctx[k]) c.sched.videoQueue[k] c.rate[k]) : ∀ j, StandsIn (modCtx k f c) j :=
  stands_at (fun j _ => h j) (standsIn_modCtx here) fun _ other => ⟨modAt_get_other _ _ other, rfl, rfl⟩

theorem stands_modVideo {k : Ctx} {g : List Queued → List Queued} (h : ∀ j, StandsIn c j)
    (here : Stands k c.ctx[k] (g c.sched.videoQueue[k]) c.rate[k]) : ∀ j, StandsIn (modVideo k g c) j :=
  stands_at (fun j _ => h j) (standsIn_modVideo here) fun _ other => ⟨rfl, modAt_get_other _ _ other, rfl⟩

/-- R41: a RUNNING context's records are its own, and its video queue holds 8 at most. -/
theorem stands_running {k : Ctx} {x : Context} {v : List Queued} (r : RateState) (running : x.state = .running)
    (bound : v.length ≤ 8) (gathers : ∀ g, x.gathering = some g → g.picture.ctx = k)
    (waits : ∀ y, x.ready = some y → y.picture.ctx = k) : Stands k x v r where
  still other := absurd running other
  empty other := by rw [running] at other; exact other.elim nofun nofun
  drains other := CtxState.noConfusion (running.symm.trans other)
  bound := bound
  gathers := gathers
  waits := waits
  quiet other := by rw [running] at other; exact other.elim nofun nofun

/-- The states, the operation, the programme, the mode and the link as they were, with the contexts standing as their
states say. -/
theorem Ungranted.of_states (h : Ungranted c) (stands : ∀ k, StandsIn d k)
    (states : ∀ k : Ctx, d.ctx[k].state = c.ctx[k].state) (op : d.engine.op = c.engine.op := by rfl)
    (programme : d.sel.programme = c.sel.programme := by rfl) (mode : d.port.mode = c.port.mode := by rfl)
    (link : d.link.state = c.link.state := by rfl) : Ungranted d where
  stands := stands
  coding o coding := (states _).trans (h.coding o (op.symm.trans coding))
  programme k onAir := (states k).trans (h.programme k (programme.symm.trans onAir))
  standby standby := by
    obtain ⟨down, stopped⟩ := h.standby (mode.symm.trans standby)
    exact ⟨link.trans down, fun k => (states k).trans (stopped k)⟩

theorem modCtx_state {k : Ctx} {f : Context → Context} (state : (f c.ctx[k]).state = c.ctx[k].state) (j : Ctx) :
    (modCtx k f c).ctx[j].state = c.ctx[j].state := by
  rw [modCtx_ctx]
  by_cases e : j = k
  · subst e
    rw [modAt_get_same, state]
  · rw [modAt_get_other _ _ e]

/-- R46 to R50: a RUNNING context's records changed. -/
theorem ungranted_modCtx {k : Ctx} {f : Context → Context} (h : Ungranted c) (running : c.ctx[k].state = .running)
    (state : (f c.ctx[k]).state = .running) (gathers : ∀ g, (f c.ctx[k]).gathering = some g → g.picture.ctx = k)
    (waits : ∀ y, (f c.ctx[k]).ready = some y → y.picture.ctx = k) : Ungranted (modCtx k f c) :=
  h.of_states (stands_modCtx h.stands (stands_running _ state (h.stands k).bound gathers waits))
    (modCtx_state (state.trans running.symm))

/-! ## The grant (R51, R52) -/

theorem granted_ctx (k : Ctx) (r : Ready) (c : Chip) :
    (granted k r c).ctx = (modCtx k (fun y => { y with ready := none }) c).ctx := rfl

theorem stands_unready {k : Ctx} {x : Context} {v : List Queued} {r : RateState} (h : Stands k x v r) :
    Stands k { x with ready := none } v r := by
  obtain ⟨still, empty, drains, bound, gathers, waits, quiet⟩ := h
  exact ⟨fun other => ⟨(still other).1, rfl⟩, empty, drains, bound, gathers, nofun, quiet⟩

/-- R51, R53: after the arbiter an idle engine leaves no record ready, and what it granted is a RUNNING context's. -/
theorem pictured_arbitrate (h : Ungranted c) : Pictured (arbitrate c) := by
  obtain ⟨still, idle⟩ | ⟨k, r, idle, ready, grants⟩ := arbitrate_cases c
  · rw [still]
    exact (pictured_iff c).mpr ⟨h, idle⟩
  · have running : c.ctx[k].state = .running := by
      by_contra other
      rw [((h.stands k).still other).2] at ready
      cases ready
    have states : ∀ j : Ctx, (granted k r c).ctx[j].state = c.ctx[j].state := modCtx_state (c := c) rfl
    have own : r.picture.ctx = k := (h.stands k).waits r ready
    have taken : Ungranted (modCtx k (fun y => { y with ready := none }) c) :=
      h.of_states (stands_modCtx h.stands (stands_unready (h.stands k))) (modCtx_state rfl)
    rw [grants]
    refine (pictured_iff _).mpr ⟨⟨⟨fun j => taken.stands j, fun o op => ?_⟩, taken.programme, taken.standby⟩, nofun⟩
    cases op
    exact (states _).trans (own.symm ▸ running)

end Sys2Proof.CodingRoom

end


section
/-! What keeps the conditions of the contexts, the engine and the programme: the shared operations, the video queues, the
engine and the gatherers (chapters 4, 5, 10 and 11). -/

namespace Sys2Proof.CodingRoom

open Sys2Proof.Machine Sys2Proof.Safety Sys2Proof.Claims Sys2Proof.Clockwork

-- One theorem after another: side by side, each waits for the others on a thread of its own.
set_option Elab.async false

variable {c d : Chip}

/-! ## Reports, the clip log and delivery accounting -/

theorem same_setAttention (as : List AttClass) (h : SamePictures c d) : SamePictures c (setAttention as d) :=
  same_ticked h (ticked_setAttention as (ticked_refl d)) (setAttention_ctx ..) (by rw [setAttention_sched])
    (setAttention_rate ..) (by rw [setAttention_link])

theorem same_setAttentionIf (b : Bool) (as : List AttClass) (h : SamePictures c d) :
    SamePictures c (setAttentionIf b as d) := by
  cases b
  · exact h
  · exact same_setAttention as h

theorem same_placeAnswer (tag : Byte) (name : List Byte) (r : Reply) (h : SamePictures c d) :
    SamePictures c (placeAnswer tag name r d) := by
  have mode : (placeAnswer tag name r d).port.mode = d.port.mode := by rw [placeAnswer, placeReport_mode]
  rw [placeAnswer_frame]
  exact same_quiet h ⟨fun _ => ⟨rfl, rfl, rfl⟩, rfl, fun _ => ⟨rfl, rfl, rfl⟩, rfl, rfl, mode, rfl⟩

theorem same_offerLabel (i : Nat) (x : Clip) (h : SamePictures c d) : SamePictures c (offerLabel i x d) := by
  unfold offerLabel joinLabel
  split
  all_goals exact same_quiet h

theorem same_autoOffer (i : Nat) (x : Clip) (h : SamePictures c d) : SamePictures c (autoOffer i x d) := by
  unfold autoOffer
  split
  · exact same_setAttentionIf _ _ (same_offerLabel i x h)
  · exact h

theorem same_closeClip (i : Nat) (x : Clip) (h : SamePictures c d) : SamePictures c (closeClip i x d) :=
  same_autoOffer _ _ (same_quiet h)

theorem same_autoClips (p : Option Ctx) (h : SamePictures c d) : SamePictures c (autoClips p d) := by
  have closed : SamePictures c (autoClose p d) := by
    unfold autoClose
    split
    · split
      · exact same_closeClip _ _ (same_quiet h)
      · exact h
    · exact h
  unfold autoClips autoOpen
  split
  · exact closed
  split
  · split
    · exact same_setAttention _ (same_quiet closed)
    · exact same_quiet closed
  · exact closed

theorem same_labelSent (i : Nat) (h : SamePictures c d) : SamePictures c (labelSent i d) := by
  unfold labelSent
  split
  · split
    · exact same_quiet h
    · exact h
  · exact h

theorem same_labelDelivered (i : Nat) (h : SamePictures c d) : SamePictures c (labelDelivered i d) :=
  same_ticked h (ticked_labelDelivered i (ticked_refl d)) (labelDelivered_ctx ..) (by rw [labelDelivered_sched])
    (labelDelivered_rate ..) (by rw [labelDelivered_link])

theorem same_labelLost (i : Nat) (h : SamePictures c d) : SamePictures c (labelLost i d) :=
  same_ticked h (ticked_labelLost i (ticked_refl d)) (labelLost_ctx ..) (by rw [labelLost_sched])
    (labelLost_rate ..) (by rw [labelLost_link])

theorem same_logLabel (delivered : Bool) (i : Nat) (version : Byte) (sends : Nat) (h : SamePictures c d) :
    SamePictures c (logLabel delivered i version sends d) := by
  have ticked : Ticked d (logLabel delivered i version sends d) := ticked_writeLog _ (ticked_refl d)
  exact same_ticked h ticked (logLabel_ctx ..) (by rw [logLabel_sched]) (logLabel_rate ..) (by rw [logLabel_link])

theorem same_resolve (p : Picture) (q : Option Nat) (sends : Nat) (o : PicOutcome) (h : SamePictures c d) :
    SamePictures c (resolve p q sends o d) :=
  same_ticked h (ticked_resolve p q sends o (ticked_refl d)) (resolve_ctx ..) (by rw [resolve_sched]) (resolve_rate ..)
    (by rw [resolve_link])

/-! ## The video queues (R45, R140, R150) -/

/-- The conditions where the contexts' records, the operation, the programme, the mode and the link are as they were. -/
theorem Pictured.of_stands (h : Pictured c) (stands : ∀ k, StandsIn d k) (ctx : d.ctx = c.ctx := by rfl)
    (op : d.engine.op = c.engine.op := by rfl) (programme : d.sel.programme = c.sel.programme := by rfl)
    (mode : d.port.mode = c.port.mode := by rfl) (link : d.link.state = c.link.state := by rfl) : Pictured d := by
  obtain ⟨ungranted, idle⟩ := (pictured_iff c).mp h
  refine (pictured_iff d).mpr ⟨ungranted.of_states stands (fun k => by rw [ctx]) op programme mode link, fun none k => ?_⟩
  rw [ctx]
  exact idle (op.symm.trans none) k

/-- A video queue changed that stays empty or stays filled. -/
theorem pictured_modVideo {k : Ctx} {g : List Queued → List Queued} (h : Pictured c)
    (empty : c.sched.videoQueue[k] = [] → g c.sched.videoQueue[k] = [])
    (filled : c.ctx[k].state = .draining → g c.sched.videoQueue[k] ≠ [])
    (bound : (g c.sched.videoQueue[k]).length ≤ 8) : Pictured (modVideo k g c) := by
  have here : Stands k c.ctx[k] (g c.sched.videoQueue[k]) c.rate[k] := by
    obtain ⟨still, empty', drains, bound', gathers, waits, quiet⟩ := h.stands k
    exact ⟨still, fun other => empty (empty' other), filled, bound, gathers, waits, quiet⟩
  exact h.of_stands (stands_modVideo h.stands here)

/-- R45: a STOPPED context without records, its T, R and F 0. -/
theorem stands_stopped {k : Ctx} {x : Context} {r : RateState} (gathering : x.gathering = none) (ready : x.ready = none) :
    Stands k { x with state := .stopped } [] { r with target := 0, size := 0, fill := 0, q := r.shape.qStart } where
  still _ := ⟨gathering, ready⟩
  empty _ := rfl
  drains := nofun
  bound := Nat.zero_le 8
  gathers g held := by simp [gathering] at held
  waits y held := by simp [ready] at held
  quiet _ := ⟨rfl, rfl, rfl⟩

/-- R45: a context with no records and an empty video queue reaches STOPPED. -/
theorem stands_reachStopped {k : Ctx} (h : ∀ j, j ≠ k → StandsIn c j) (gathering : c.ctx[k].gathering = none)
    (ready : c.ctx[k].ready = none) (queue : c.sched.videoQueue[k] = []) : ∀ j, StandsIn (reachStopped k c) j := by
  refine stands_at h ?_ fun _ other => ⟨modAt_get_other _ _ other, rfl, modAt_get_other _ _ other⟩
  have ctx : (reachStopped k c).ctx[k] = { c.ctx[k] with state := .stopped } := modAt_get_same _ _ _
  have rate : (reachStopped k c).rate[k] = { c.rate[k] with
      target := 0, size := 0, fill := 0, q := c.rate[k].shape.qStart } := modAt_get_same _ _ _
  have queue' : (reachStopped k c).sched.videoQueue[k] = [] := queue
  unfold StandsIn
  rw [ctx, rate, queue']
  exact stands_stopped gathering ready

theorem reachStopped_state (k j : Ctx) (c : Chip) :
    (reachStopped k c).ctx[j].state = if j = k then .stopped else c.ctx[j].state := by
  have ctx : (reachStopped k c).ctx = modAt c.ctx k (fun x => { x with state := .stopped }) := rfl
  rw [ctx, modAt_get]
  split <;> rfl

theorem reachStopped_ready (k j : Ctx) (c : Chip) : (reachStopped k c).ctx[j].ready = c.ctx[j].ready := by
  have ctx : (reachStopped k c).ctx = modAt c.ctx k (fun x => { x with state := .stopped }) := rfl
  rw [ctx, modAt_get]
  split <;> rfl

/-- R45: a DRAINING context whose video queue has emptied, and nothing else with it, becomes STOPPED. -/
theorem pictured_drained {k : Ctx} {g : List Queued → List Queued} (h : Pictured c)
    (draining : c.ctx[k].state = .draining) (same : SamePictures (modVideo k g c) d)
    (emptied : d.sched.videoQueue[k] = []) : Pictured (reachStopped k d) := by
  obtain ⟨ungranted, idle⟩ := (pictured_iff c).mp h
  have other : c.ctx[k].state ≠ .running := fun running => CtxState.noConfusion (draining.symm.trans running)
  have stands : ∀ j, j ≠ k → StandsIn d j := fun j hj => by
    refine same.standsIn ?_
    have left := ungranted.stands j
    unfold StandsIn at left ⊢
    rwa [modVideo_sched, modAt_get_other _ _ hj]
  have states : ∀ j : Ctx, c.ctx[j].state = .running → (reachStopped k d).ctx[j].state = .running := fun j running => by
    have elsewhere : j ≠ k := fun e => other (e ▸ running)
    rw [reachStopped_state, if_neg elsewhere]
    exact (same.records j).1.trans running
  obtain ⟨-, gathering, ready⟩ := same.records k
  obtain ⟨gathering', ready'⟩ := (ungranted.stands k).still other
  refine (pictured_iff _).mpr ⟨⟨⟨stands_reachStopped stands (gathering.trans gathering') (ready.trans ready') emptied,
    fun o op => states _ (ungranted.coding o (same.op.symm.trans op))⟩,
    fun j onAir => states j (ungranted.programme j (same.programme.symm.trans onAir)), fun standby => ?_⟩, fun op j => ?_⟩
  · obtain ⟨-, stopped⟩ := ungranted.standby (same.mode.symm.trans standby)
    exact CtxState.noConfusion (draining.symm.trans (stopped k))
  · rw [reachStopped_ready]
    exact (same.records j).2.2.trans (idle (same.op.symm.trans op) j)

/-- R45, R150: a video queue that has grown no longer, and the stop of a DRAINING context that it leaves without records. -/
theorem pictured_endDrainedContext {k : Ctx} {g : List Queued → List Queued} (h : Pictured c)
    (shorter : (g c.sched.videoQueue[k]).length ≤ c.sched.videoQueue[k].length) (same : SamePictures (modVideo k g c) d) :
    Pictured (endDrainedContext k d) := by
  have queue : d.sched.videoQueue[k] = g c.sched.videoQueue[k] := by
    rw [same.queues, modVideo_sched, modAt_get_same]
  have state : d.ctx[k].state = c.ctx[k].state := (same.records k).1
  unfold endDrainedContext
  split
  · rename_i ends
    obtain ⟨drains, emptied⟩ : d.ctx[k].state = .draining ∧ d.sched.videoQueue[k] = [] := by
      simpa [-Fin.getElem_fin] using ends
    exact pictured_drained h (state.symm.trans drains) same emptied
  · rename_i stays
    refine same.pictured (pictured_modVideo h (fun empty => ?_) (fun draining emptied => stays ?_)
      (shorter.trans (h.stands k).bound))
    · rw [empty] at shorter ⊢
      exact List.length_eq_zero_iff.mp (Nat.le_zero.mp shorter)
    · simp [-Fin.getElem_fin, queue, emptied, state.trans draining]

theorem pictured_judgeQueued (k : Ctx) (n : PicNum) (h : Pictured c) : Pictured (judgeQueued k n c) := by
  unfold judgeQueued
  split
  · exact h
  · split
    · exact pictured_endDrainedContext h (List.length_filter_le _ _) (same_resolve _ _ _ _ (samePictures_refl _))
    · exact h

theorem pictured_changeQueued (k : Ctx) (n : PicNum) (f : Queued → Queued) (h : Pictured c) :
    Pictured (changeQueued k n f c) := by
  refine pictured_judgeQueued k n (pictured_modVideo h (fun empty => ?_) (fun draining => ?_) ?_)
  · rw [empty, List.map_nil]
  · exact fun emptied => (h.stands k).drains draining (List.map_eq_nil_iff.mp emptied)
  · rw [List.length_map]
    exact (h.stands k).bound

/-! ## The engine (R52, R53, R67) -/

theorem ungranted_modRate {k : Ctx} {f : RateState → RateState} (h : Ungranted c)
    (running : c.ctx[k].state = .running) : Ungranted (modRate k f c) := by
  refine h.of_states (stands_at (fun j _ => h.stands j) ?_ fun _ other => ⟨rfl, rfl, modAt_get_other _ _ other⟩)
    fun _ => rfl
  obtain ⟨-, -, -, bound, gathers, waits, -⟩ := h.stands k
  exact stands_running _ running bound gathers waits

/-- R67, R140: a judged picture leaves its context's queue with 8 records at most. -/
theorem ungranted_takeCoded {o : Coding} (coded : List Byte) (h : Ungranted c)
    (running : c.ctx[o.picture.ctx].state = .running) : Ungranted (takeCoded o coded c) := by
  unfold takeCoded
  extract_lets k e v
  have settled : Ungranted (settleVerdict o coded v c) ∧ (settleVerdict o coded v c).ctx = c.ctx := by
    cases verdict : v with
    | reservoir => exact ⟨(same_resolve _ _ _ _ (samePictures_refl c)).ungranted h, resolve_ctx ..⟩
    | queueFull => exact ⟨(same_resolve _ _ _ _ (samePictures_refl c)).ungranted h, resolve_ctx ..⟩
    | accepted =>
      have room : c.sched.videoQueue[k].length < 8 := by
        unfold v judge at verdict
        split at verdict
        · cases verdict
        · split at verdict
          · cases verdict
          · omega
      obtain ⟨-, -, -, -, gathers, waits, -⟩ := h.stands k
      refine ⟨h.of_states (stands_modVideo h.stands (stands_running _ running ?_ gathers waits)) fun _ => rfl, rfl⟩
      rw [List.length_append]
      exact room
  exact ungranted_modRate settled.1 (by rw [settled.2]; exact running)

theorem pictured_codingDone (coded : List Byte) (h : Pictured c) : Pictured (codingDone coded c) := by
  obtain ⟨⟨⟨stands, coding⟩, programme, standby⟩, -⟩ := (pictured_iff c).mp h
  unfold codingDone
  split
  · exact h
  · rename_i o op
    split
    · exact pictured_arbitrate (ungranted_takeCoded coded ⟨⟨stands, nofun⟩, programme, standby⟩ (coding o op))
    · exact h

/-! ## The gatherers (R46 to R50) -/

theorem same_modCtx {k : Ctx} {f : Context → Context} (state : (f c.ctx[k]).state = c.ctx[k].state)
    (gathering : (f c.ctx[k]).gathering = c.ctx[k].gathering) (ready : (f c.ctx[k]).ready = c.ctx[k].ready) :
    SamePictures c (modCtx k f c) := by
  refine ⟨fun j => ?_, rfl, fun _ => ⟨rfl, rfl, rfl⟩, rfl, rfl, rfl, rfl⟩
  rw [modCtx_ctx]
  by_cases e : j = k
  · subst e
    rw [modAt_get_same]
    exact ⟨state, gathering, ready⟩
  · rw [modAt_get_other _ _ e]
    exact ⟨rfl, rfl, rfl⟩

/-- R50: a RUNNING context's record completes. -/
theorem pictured_completePicture {k : Ctx} {g : Gathering} (h : Ungranted c) (running : c.ctx[k].state = .running)
    (own : g.picture.ctx = k) : Pictured (completePicture k g c) := by
  have ready : Ungranted (modCtx k (fun x => { x with
      gathering := none, ready := some ⟨g.picture, g.memory⟩, completed := bump x.completed }) c) :=
    ungranted_modCtx h running running nofun fun y waits => by cases waits; exact own
  unfold completePicture
  refine pictured_arbitrate ?_
  split
  · exact ready
  · exact (same_resolve _ _ _ _ (same_modCtx (f := fun x => { x with overruns := bump x.overruns }) rfl rfl rfl)).ungranted
      ready

theorem Pictured.gathers (h : Pictured c) {k : Ctx} {g : Gathering} (held : c.ctx[k].gathering = some g) :
    g.picture.ctx = k := (h.stands k).gathers g held

theorem Ungranted.waits (h : Ungranted c) {k : Ctx} {y : Ready} (held : c.ctx[k].ready = some y) :
    y.picture.ctx = k := (h.stands k).waits y held

theorem pictured_endDamaged {k : Ctx} {g : Gathering} (h : Ungranted c) (running : c.ctx[k].state = .running)
    (own : g.picture.ctx = k) : Pictured (endDamaged k g c) := by
  have same : SamePictures c (modCtx k (fun _ => (damageIf true g c.ctx[k]).2) c) := same_modCtx rfl rfl rfl
  exact pictured_completePicture (same.ungranted h) ((same.records k).1.trans running) own

/-- R46 to R48: a RUNNING context's gathering record opened or changed, its ready record left. -/
theorem pictured_gathering {k : Ctx} {f : Context → Context} (h : Pictured c) (running : c.ctx[k].state = .running)
    (state : (f c.ctx[k]).state = c.ctx[k].state) (ready : (f c.ctx[k]).ready = c.ctx[k].ready)
    (gathers : ∀ g, (f c.ctx[k]).gathering = some g → g.picture.ctx = k) : Pictured (modCtx k f c) := by
  obtain ⟨ungranted, idle⟩ := (pictured_iff c).mp h
  refine (pictured_iff _).mpr ⟨ungranted_modCtx ungranted running (state.trans running) gathers fun y waits =>
    ungranted.waits (ready.symm.trans waits), fun op j => ?_⟩
  rw [modCtx_ctx]
  by_cases e : j = k
  · subst e
    rw [modAt_get_same, ready]
    exact idle op j
  · rw [modAt_get_other _ _ e]
    exact idle op j

theorem arbitrate_state (j : Ctx) (c : Chip) : (arbitrate c).ctx[j].state = c.ctx[j].state := by
  obtain ⟨still, -⟩ | ⟨k, r, -, -, grants⟩ := arbitrate_cases c
  · rw [still]
  · rw [grants, granted_ctx, modCtx_state rfl]

theorem completePicture_state (k j : Ctx) (g : Gathering) (c : Chip) :
    (completePicture k g c).ctx[j].state = c.ctx[j].state := by
  unfold completePicture
  dsimp only
  rw [arbitrate_state]
  split
  · exact modCtx_state rfl j
  · rw [resolve_ctx, modCtx_state rfl, modCtx_state rfl]

theorem endDamaged_state (k j : Ctx) (g : Gathering) (c : Chip) : (endDamaged k g c).ctx[j].state = c.ctx[j].state := by
  unfold endDamaged
  dsimp only
  rw [completePicture_state]
  exact modCtx_state rfl j

/-- R47. -/
theorem pictured_startPicture {k : Ctx} (lane : LaneNo) (cell : Cell) (h : Pictured c)
    (running : c.ctx[k].state = .running) : Pictured (startPicture k lane cell c) := by
  unfold startPicture
  extract_lets freed g begun
  have freed : Pictured freed ∧ freed.ctx[k].state = .running := by
    unfold freed
    split
    · rename_i old held
      exact ⟨pictured_endDamaged h.ungranted running (h.gathers held), (endDamaged_state ..).trans running⟩
    · exact ⟨h, running⟩
  obtain ⟨freed, running⟩ := freed
  have begun' : Pictured begun := pictured_gathering freed running rfl rfl fun y held => by cases held; rfl
  split
  · exact pictured_completePicture begun'.ungranted ((modCtx_state rfl k).trans running) rfl
  · exact begun'

/-- R48: a record is marked DAMAGED without any other change to its context, its owner or its state. -/
theorem damageIf_keeps (b : Bool) (g : Gathering) (x : Context) : (damageIf b g x).1.picture.ctx = g.picture.ctx ∧
    (damageIf b g x).2.state = x.state ∧ (damageIf b g x).2.gathering = x.gathering ∧
      (damageIf b g x).2.ready = x.ready := by
  cases b
  all_goals exact ⟨rfl, rfl, rfl, rfl⟩

/-- R48. -/
theorem pictured_joinPicture {k : Ctx} {g : Gathering} (lane : LaneNo) (cell : Cell) (h : Pictured c)
    (running : c.ctx[k].state = .running) (held : c.ctx[k].gathering = some g) :
    Pictured (joinPicture k g lane cell c) := by
  have own : g.picture.ctx = k := h.gathers held
  unfold joinPicture
  extract_lets y x full part src begun
  split
  · have same : SamePictures c (modCtx k (fun _ => full.2) c) := same_modCtx rfl rfl rfl
    exact pictured_completePicture (same.ungranted h.ungranted) ((same.records k).1.trans running) own
  · obtain ⟨owner, state, -, ready⟩ := damageIf_keeps (!followsOn g lane cell)
      { g with fed := true, expected := cell.sequence + 1, memory := g.memory ++ cell.payload } x
    have begun' : Pictured begun :=
      pictured_gathering h running state ready fun y held => by cases held; exact owner.trans own
    split
    · exact pictured_completePicture begun'.ungranted ((modCtx_state state k).trans running) (owner.trans own)
    · exact begun'

/-- R41, R46 to R49. -/
theorem pictured_gatherCell (k : Ctx) (lane : LaneNo) (cell : Cell) (h : Pictured c) :
    Pictured (gatherCell k lane cell c) := by
  unfold gatherCell
  split
  · rename_i running
    split
    · exact pictured_startPicture lane cell h running
    · split
      · rename_i g held
        exact pictured_joinPicture lane cell h running held
      · exact pictured_quiet h (same_modCtx rfl rfl rfl)
  · exact pictured_quiet h (same_modCtx rfl rfl rfl)

/-! ## The gatherers at a picture boundary (R43, R50) -/

theorem pictured_staleCheck {k : Ctx} (h : Pictured c) (running : c.ctx[k].state = .running) :
    Pictured (staleCheck k c) := by
  unfold staleCheck
  split
  · exact h
  · rename_i g held
    split
    · have own : g.picture.ctx = k := h.gathers held
      exact pictured_gathering h running rfl rfl fun y fed => by cases fed; exact own
    · have same : SamePictures c (modCtx k (fun x => { x with staleGathers := bump x.staleGathers }) c) :=
        same_modCtx rfl rfl rfl
      exact pictured_endDamaged (same.ungranted h.ungranted) ((same.records k).1.trans running) (h.gathers held)

/-- R43: in RUN a context that has no operation in the engine may take any state that its records and its queue allow. -/
theorem pictured_newState {k : Ctx} {st : CtxState} (h : Pictured c) (run : c.port.mode = .run)
    (idle : c.ctx[k].state ≠ .running)
    (stands : Stands k { c.ctx[k] with state := st } c.sched.videoQueue[k] c.rate[k]) :
    Pictured (modCtx k (fun x => { x with state := st }) c) := by
  obtain ⟨⟨⟨all, coding⟩, programme, standby⟩, waits⟩ := (pictured_iff c).mp h
  have states : ∀ j : Ctx, c.ctx[j].state = .running →
      (modCtx k (fun x => { x with state := st }) c).ctx[j].state = .running := fun j running => by
    have elsewhere : j ≠ k := fun e => idle (e ▸ running)
    rw [modCtx_ctx, modAt_get_other _ _ elsewhere]
    exact running
  refine (pictured_iff _).mpr ⟨⟨⟨stands_modCtx all stands, fun o op => states _ (coding o op)⟩,
    fun j onAir => states j (programme j onAir), fun mode => PartMode.noConfusion (run.symm.trans mode)⟩, fun op j => ?_⟩
  rw [modCtx_ctx, modAt_get]
  split
  all_goals exact waits op j

/-- R43. -/
theorem pictured_beginRunning {k : Ctx} (h : Pictured c) (starting : c.ctx[k].state = .starting) :
    Pictured (beginRunning k c) := by
  have run : c.port.mode = .run := by
    cases mode : c.port.mode with
    | run => rfl
    | standby => exact CtxState.noConfusion (starting.symm.trans ((h.2 mode).2 k))
  have other : c.ctx[k].state ≠ .running := fun running => CtxState.noConfusion (starting.symm.trans running)
  obtain ⟨-, -, -, bound, gathers, waits, -⟩ := h.stands k
  have began := pictured_newState (st := .running) h run other (stands_running _ rfl bound gathers waits)
  have now : (modCtx k (fun x => { x with state := .running }) c).ctx[k].state = .running := by
    rw [modCtx_ctx, modAt_get_same]
  obtain ⟨ungranted, idle⟩ := (pictured_iff _).mp began
  exact (pictured_iff _).mpr ⟨ungranted_modRate ungranted now, idle⟩

theorem pictured_foldl {α : Type} {f : Chip → α → Chip} (hf : ∀ d a, Pictured d → Pictured (f d a)) (l : List α)
    (h : Pictured c) : Pictured (l.foldl f c) := by
  induction l generalizing c with
  | nil => exact h
  | cons a l ih => exact ih (hf c a h)

theorem pictured_gatherBoundary (h : Pictured c) : Pictured (gatherBoundary c) := by
  refine pictured_foldl (fun d k h => ?_) _ h
  unfold gatherBoundaryAt
  split
  · rename_i running
    exact pictured_staleCheck h running
  · rename_i starting
    exact pictured_beginRunning h starting
  all_goals exact h

end Sys2Proof.CodingRoom

end


section
/-! What keeps the conditions of the contexts, the engine and the programme, continued: the home link, the frame scheduler,
the mixer, the selector and the picture boundary (chapters 2, 3 and 5 to 9). -/

namespace Sys2Proof.CodingRoom

open Sys2Proof.Machine Sys2Proof.Safety Sys2Proof.Claims Sys2Proof.Clockwork

-- One theorem after another: side by side, each waits for the others on a thread of its own.
set_option Elab.async false

variable {c d : Chip}

/-! ## Settlement (section 9.5) -/

theorem pictured_settle (delivered : Bool) (e : Entry) (h : Pictured c) : Pictured (settle delivered e c) := by
  have counted : Pictured (countLost delivered c) := pictured_quiet h
  unfold settle
  dsimp only
  split
  · exact pictured_changeQueued _ _ _ counted
  · refine (same_logLabel _ _ _ _ ?_).pictured counted
    split
    · exact same_labelDelivered _ (samePictures_refl _)
    · exact same_labelLost _ (samePictures_refl _)

theorem pictured_declareAllLost (h : Pictured c) : Pictured (declareAllLost c) :=
  pictured_foldl (fun _ e => pictured_settle false e) _ (pictured_quiet h)

/-! ## The home link (chapter 8) -/

/-- R178: in RUN the link may enter any state, and in STANDBY it may enter DOWN. -/
theorem pictured_enterLink {st : LinkState} (also : List AttClass) (h : Pictured c)
    (allowed : c.port.mode = .run ∨ st = .down) : Pictured (enterLink st also c) := by
  refine (same_setAttention _ (samePictures_refl _)).pictured ?_
  obtain ⟨pictures, standby⟩ := h
  refine ⟨pictures, fun mode => ⟨?_, (standby mode).2⟩⟩
  obtain run | down := allowed
  · exact PartMode.noConfusion (run.symm.trans mode)
  · exact down

theorem Pictured.run (h : Pictured c) (up : c.link.state ≠ .down) : c.port.mode = .run := h.ungranted.run up

theorem pictured_windowExpiry (h : Pictured c) : Pictured (windowExpiry c) := by
  unfold windowExpiry
  split
  · exact h
  · split
    · exact pictured_quiet h
    · exact pictured_enterLink _ (pictured_quiet h) (.inr rfl)

theorem pictured_gapExpiry (h : Pictured c) : Pictured (gapExpiry c) := by
  unfold gapExpiry
  split
  all_goals exact pictured_quiet h

/-- R123: a drain, which is never one of STANDBY, ends. -/
theorem pictured_drainEnd (h : Pictured c) (run : c.port.mode = .run) : Pictured (drainEnd c) := by
  unfold drainEnd
  extract_lets complete stopped
  have lost : Pictured (declareAllLost stopped) := pictured_declareAllLost (pictured_quiet h)
  have ticked : Ticked c (declareAllLost stopped) := ticked_declareAllLost (ticked_quiet (ticked_refl c))
  exact pictured_enterLink _ (pictured_quiet lost) (.inl (ticked.mode.trans run))

theorem Pictured.run_of_draining (h : Pictured c) (draining : c.link.state = .draining) : c.port.mode = .run :=
  h.run fun down => LinkState.noConfusion (draining.symm.trans down)

theorem pictured_checkDrain (h : Pictured c) : Pictured (checkDrain c) := by
  unfold checkDrain
  split
  · rename_i ends
    exact pictured_drainEnd h (h.run_of_draining (of_decide_eq_true (Bool.and_eq_true_iff.mp ends).1))
  · exact h

theorem pictured_drainExpiry (h : Pictured c) : Pictured (drainExpiry c) := by
  unfold drainExpiry
  split
  · exact h
  · split
    · rename_i draining
      exact pictured_drainEnd h (h.run_of_draining draining)
    · exact h

theorem pictured_silenceRunsOut (h : Pictured c) : Pictured (silenceRunsOut c) := by
  unfold silenceRunsOut
  split
  · exact h
  · dsimp only
    split
    · rename_i up
      exact pictured_enterLink _ (pictured_quiet h) (.inl (h.run fun down => LinkState.noConfusion (up.symm.trans down)))
    · rename_i draining
      exact pictured_drainEnd (pictured_quiet h) (h.run_of_draining draining)
    all_goals exact h

theorem pictured_linkTick (silenceFirst : Bool) (h : Pictured c) : Pictured (linkTick silenceFirst c) := by
  have silence : ∀ {d}, Pictured d → Pictured (takeSilence d) := fun h => by
    unfold takeSilence
    split
    · exact pictured_silenceRunsOut h
    · exact h
  have drain : ∀ {d}, Pictured d → Pictured (takeDrain d) := fun h => by
    unfold takeDrain
    split
    · exact pictured_drainExpiry h
    · exact h
  unfold linkTick
  extract_lets counted window gap windowed gapped
  have counted : Pictured counted := pictured_quiet h
  have windowed : Pictured windowed := by
    unfold windowed
    split
    · exact pictured_windowExpiry counted
    · exact counted
  have gapped : Pictured gapped := by
    unfold gapped
    split
    · exact pictured_gapExpiry windowed
    · exact windowed
  split
  · exact drain (silence gapped)
  · exact silence (drain gapped)

theorem mode_run (run : ¬c.port.mode = .standby) : c.port.mode = .run := by
  cases mode : c.port.mode with
  | run => rfl
  | standby => exact absurd mode run

theorem pictured_linkOpen (h : Pictured c) : Pictured (linkOpen c).1 := by
  unfold linkOpen
  split
  · exact h
  · rename_i run
    split
    · exact pictured_quiet (pictured_enterLink (st := .hailing) [] (pictured_quiet
        (d := modLink (fun l => { l with attempt := 1 }) c) h) (.inl (mode_run run)))
    · exact h

theorem pictured_handover (h : Pictured c) : Pictured (handover c).1 := by
  unfold handover
  split
  · exact h
  · rename_i run
    split
    · exact pictured_checkDrain (pictured_enterLink _ (pictured_quiet h) (.inl (mode_run run)))
    · exact h

theorem pictured_linkClose (h : Pictured c) : Pictured (linkClose c).1 := by
  unfold linkClose
  split
  · exact h
  split
  · exact h
  · have lost : Pictured (declareAllLost (modLink (fun l => { l with
        answerWindow := none, retryGap := none, silence := none, drainLimit := none, phase := none, attempt := 0 }) c)) :=
      pictured_declareAllLost (pictured_quiet h)
    exact pictured_enterLink _ (pictured_quiet lost) (.inr rfl)

/-! ## The frame scheduler (chapter 9) -/

theorem pictured_ackFrame (n : FrameNum) (h : Pictured c) : Pictured (ackFrame n c) := by
  unfold ackFrame
  split
  · exact pictured_checkDrain (pictured_settle _ _ (pictured_quiet h))
  · split
    · exact pictured_checkDrain (pictured_settle _ _ (pictured_quiet h))
    · exact pictured_quiet h

theorem pictured_ackExpiry (n : FrameNum) (h : Pictured c) : Pictured (ackExpiry n c) := by
  unfold ackExpiry
  split
  · unfold expire
    split
    · exact pictured_quiet h
    · exact pictured_checkDrain (pictured_settle _ _ (pictured_quiet h))
  · exact h

theorem pictured_loseResend (e : Entry) (h : Pictured c) : Pictured (loseResend e c) := by
  unfold loseResend
  split
  · exact pictured_checkDrain (pictured_settle _ _ (pictured_quiet h))
  · exact h

theorem pictured_deadlinePasses (k : Ctx) (n : PicNum) (h : Pictured c) : Pictured (deadlinePasses k n c) := by
  unfold deadlinePasses
  split
  · split
    · exact h
    · exact pictured_foldl (fun _ e => pictured_loseResend e) _ (pictured_changeQueued _ _ _ (pictured_quiet h))
  · exact h

theorem same_putHt (bytes : List Byte) (h : SamePictures c d) : SamePictures c (putHt bytes d) := same_quiet h

theorem same_charge (n : Nat) (h : SamePictures c d) : SamePictures c (charge n d) := same_quiet h

theorem same_numberFrame (h : SamePictures c d) : SamePictures c (numberFrame d) := same_quiet h

/-- R136: a frame goes out numbered and charged for. -/
theorem same_frameOut (bytes : List Byte) (h : SamePictures c d) :
    SamePictures c (numberFrame (charge bytes.length (putHt bytes d))) :=
  same_numberFrame (same_charge _ (same_putHt bytes h))

theorem same_modSched {f : Scheduler → Scheduler} (h : SamePictures c d)
    (queues : (f d.sched).videoQueue = d.sched.videoQueue := by rfl) : SamePictures c (modSched f d) :=
  h.trans ⟨fun _ => ⟨rfl, rfl, rfl⟩, queues, fun _ => ⟨rfl, rfl, rfl⟩, rfl, rfl, rfl, rfl⟩

theorem same_await (e : Entry) (h : SamePictures c d) : SamePictures c (await e d) := same_modSched h

theorem same_sendAudio (a : AudioFrame) (h : SamePictures c d) : SamePictures c (sendAudio a d) := by
  have sent := same_frameOut (audioBytes a d) h
  exact same_modSched (f := fun s => { s with audioQueue := s.audioQueue.drop 1, audioSent := bump s.audioSent }) sent

theorem same_sendPass (x : PassCell) (h : SamePictures c d) : SamePictures c (sendPass x d) := by
  have sent := same_frameOut (passBytes x d) h
  exact same_modSched (f := fun s => { s with passQueue := s.passQueue.drop 1, passSent := bump s.passSent }) sent

theorem pictured_sendFound (f : Found) (h : Pictured c) : Pictured (sendFound f c) := by
  cases f with
  | audio a => exact (same_sendAudio a (samePictures_refl c)).pictured h
  | pass x => exact (same_sendPass x (samePictures_refl c)).pictured h
  | label l =>
    exact (same_labelSent _ (same_await _ (same_modSched (same_frameOut _ (samePictures_refl c))))).pictured h
  | video k q rotated =>
    exact pictured_changeQueued _ _ _
      ((same_await _ (same_modSched (same_frameOut _ (samePictures_refl c)))).pictured h)
  | resend e =>
    have sent : Pictured (await { e with sendCount := 2 }
        (modSched (fun s => { s with resend := s.resend.drop 1, resends := bump s.resends })
          (charge e.bytes.length (putHt e.bytes c)))) :=
      (same_await _ (same_modSched (same_charge _ (same_putHt _ (samePictures_refl c))))).pictured h
    show Pictured (resendEntry e c)
    unfold resendEntry noteResend
    split
    · exact pictured_changeQueued _ _ _ sent
    · exact sent

theorem pictured_selectFrames (fuel : Nat) (h : Pictured c) : Pictured (selectFrames fuel c) := by
  induction fuel generalizing c with
  | zero => exact h
  | succ fuel ih =>
    unfold selectFrames
    split
    · exact h
    · split
      · exact ih (pictured_sendFound _ h)
      · exact h

theorem pictured_schedulerTick (h : Pictured c) : Pictured (schedulerTick c) := by
  have earned : Pictured (earnCredit c) := by
    unfold earnCredit
    split
    · exact pictured_quiet h
    · exact h
  have expired : Pictured (expireWindows (earnCredit c)) :=
    pictured_foldl (fun _ (e : Entry) => pictured_ackExpiry e.frame) _ (pictured_quiet earned)
  have due : Pictured (applyDeadlines (expireWindows (earnCredit c))) := pictured_foldl
    (fun _ k h => pictured_foldl (fun _ (q : Queued) => pictured_deadlinePasses k q.picture.number) _ h) _ expired
  unfold schedulerTick selectTick
  split
  · exact pictured_selectFrames _ due
  · exact due

/-! ## The return path (section 8.3) -/

theorem pictured_takeBody (b : ReturnBody) (h : Pictured c) : Pictured (takeBody b c) := by
  have stray : Pictured (countStray c) := pictured_quiet h
  cases b with
  | hailAnswer v =>
    cases state : c.link.state
    all_goals simp only [takeBody, state]
    case hailing =>
      have run : c.port.mode = .run := h.run fun down => LinkState.noConfusion (state.symm.trans down)
      exact pictured_quiet (pictured_enterLink (st := .up) [] (pictured_quiet
        (d := modLink (fun l => { storeCapacity v l with
          answerWindow := none, retryGap := none, phase := none, attempt := 0, credit := 0 }) c) h) (.inl run))
    all_goals exact stray
  | ack ns =>
    have acks : Pictured (ackFrames ns c) := pictured_foldl (fun _ n => pictured_ackFrame n) ns h
    cases state : c.link.state
    all_goals simp only [takeBody, state]
    case down => exact stray
    all_goals exact acks
  | capacity v =>
    have capacity : Pictured (takeCapacity v c) :=
      (same_setAttention _ (same_quiet (samePictures_refl c))).pictured h
    cases state : c.link.state
    all_goals simp only [takeBody, state]
    case down => exact stray
    all_goals exact capacity

theorem pictured_heard (h : Pictured c) : Pictured (heard c) := by
  unfold heard
  split
  case h_3 lost =>
    have run : c.port.mode = .run := h.run fun down => LinkState.noConfusion (lost.symm.trans down)
    exact pictured_quiet (pictured_enterLink (st := .up) [] h (.inl run))
  all_goals exact pictured_quiet h

theorem pictured_returnMessage (bytes : List Byte) (h : Pictured c) : Pictured (returnMessage bytes c) := by
  unfold returnMessage
  split
  · exact pictured_quiet h
  · exact pictured_quiet h
  · split
    · exact pictured_heard (pictured_takeBody _ (pictured_quiet h))
    · exact pictured_quiet h

/-! ## The mixer (chapter 6) -/

theorem same_takeBlock (i : InputNo) (h : SamePictures c d) : SamePictures c (takeBlock i d).1 := by
  unfold takeBlock
  dsimp only
  split
  · exact same_quiet h
  · split
    · dsimp only
      split
      · exact same_setAttention _ (same_quiet h)
      · exact same_quiet h
    · exact h

theorem same_takeBlocks (h : SamePictures c d) : SamePictures c (takeBlocks d).1 := by
  have fold : ∀ (l : List InputNo) (acc : Chip × List (List Sample)), SamePictures c acc.1 →
      SamePictures c (l.foldl (fun acc i =>
        let t := takeBlock i acc.1
        (t.1, acc.2 ++ [t.2])) acc).1 := by
    intro l
    induction l with
    | nil => exact fun _ h => h
    | cons i l ih => exact fun acc h => ih _ (same_takeBlock i h)
  exact fold allInputs (d, []) h

theorem same_offerAuxBus (source : OutSource) (stream : Stream) (out : List Int) (h : SamePictures c d) :
    SamePictures c (offerAuxBus source stream out d) := by
  unfold offerAuxBus
  split
  · exact h
  · rw [offerAux_frame]
    exact same_quiet h

theorem same_buildFrame (left right : List Sample) (h : SamePictures c d) : SamePictures c (buildFrame left right d) := by
  unfold buildFrame queueOrDiscard
  dsimp only
  repeat' split
  all_goals exact same_quiet h

theorem same_quietMixer (m : Mixer) (h : SamePictures c d) : SamePictures c { d with mixer := m } := same_quiet h

theorem pictured_mixerTick (h : Pictured c) : Pictured (mixerTick c) := by
  unfold mixerTick
  split
  · exact h
  · have mixed := same_quietMixer (countMix (moveFaders (takeBlocks c).1.mixer) (takeBlocks c).2)
      (same_takeBlocks (samePictures_refl c))
    exact (same_buildFrame _ _ (same_offerAuxBus _ _ _ (same_offerAuxBus _ _ _
      (same_setAttentionIf _ _ mixed)))).pictured h

theorem pictured_audioInputLost (i : InputNo) (h : Pictured c) : Pictured (audioInputLost i c) := by
  unfold audioInputLost
  split
  · exact (same_takeBlock i (samePictures_refl c)).pictured h
  · exact h

/-! ## The block tick (R22) -/

theorem pictured_tickWork (h : Pictured c) : Pictured (tickWork c) := by
  rw [tickWork_eq]
  refine pictured_foldl (fun d p h => ?_) _ (pictured_quiet h)
  cases p with
  | mixer => exact pictured_mixerTick h
  | scheduler => exact pictured_schedulerTick h
  | link => exact pictured_linkTick _ h

/-! ## Steering (chapter 3) -/

theorem pictured_carryOut (a : SteerAction) (lane : LaneNo) (k : CellKind) (cell : Cell) (h : Pictured c) :
    Pictured (carryOut a lane k cell c) := by
  cases a with
  | discard => exact pictured_quiet h
  | code x =>
    show Pictured (if k = .video then gatherCell x lane cell (countDecision c) else countMismatch c)
    split
    · exact pictured_gatherCell _ _ _ (pictured_quiet h)
    · exact pictured_quiet h
  | mix i =>
    show Pictured (if k = .audio then modInput i (receiveBlock cell.payload) (countDecision c) else countMismatch c)
    split
    all_goals exact pictured_quiet h
  | pass => exact pictured_quiet h

theorem pictured_steerCell (lane : LaneNo) (k : CellKind) (cell : Cell) (h : Pictured c) :
    Pictured (steerCell lane k cell c) := by
  unfold steerCell
  split
  · exact h
  unfold evaluateCell
  split
  · rename_i i a decided
    have done : Pictured (carryOut a lane k cell c) := pictured_carryOut a lane k cell h
    dsimp only
    split
    · exact (same_setAttention _ (same_quiet (samePictures_refl _))).pictured done
    · exact done
  · unfold defaultAction
    dsimp only
    split
    all_goals exact pictured_quiet h

/-! ## The selector (R104 to R109) -/

theorem same_offerTallyOf (k : Ctx) (h : SamePictures c d) : SamePictures c (offerTallyOf k d) := by
  unfold offerTallyOf
  split
  · exact h
  · rw [offerTally_frame]
    exact same_quiet h

theorem same_foldl {α : Type} {f : Chip → α → Chip} (hf : ∀ d a, SamePictures c d → SamePictures c (f d a)) (l : List α)
    (h : SamePictures c d) : SamePictures c (l.foldl f d) := by
  induction l generalizing d with
  | nil => exact h
  | cons a l ih => exact ih (hf d a h)

theorem same_offerTallySet (h : SamePictures c d) : SamePictures c (offerTallySet d) :=
  same_foldl (fun _ => same_offerTallyOf) _ h

theorem newProgramme_running {k : Ctx} (onAir : newProgramme c = some k) : c.ctx[k].state = .running := by
  unfold newProgramme at onAir
  split at onAir
  · split at onAir
    · rename_i running
      cases onAir
      exact running
    · cases onAir
  · cases onAir

/-- R104: the programme that an operation brings is RUNNING or none. -/
theorem pictured_applyOp (h : Pictured c) : Pictured (applyOp c) := by
  refine (same_setAttention _ (samePictures_refl _)).pictured ?_
  obtain ⟨⟨contexts, rates, engine, -⟩, standby⟩ := h
  exact ⟨⟨contexts, rates, engine, fun _ onAir => newProgramme_running (c := c) onAir⟩, standby⟩

theorem pictured_selectorBoundary (h : Pictured c) : Pictured (selectorBoundary c) := by
  unfold selectorBoundary
  extract_lets op pre applied handed
  have applied : Pictured applied := by
    have operated : Pictured (if op then applyOp c else c) := by
      split
      · exact pictured_applyOp h
      · exact h
    unfold applied applyPreset
    split
    · exact pictured_quiet operated
    · exact operated
  have handed : Pictured handed := by
    unfold handed
    split
    · exact (same_autoClips _ (same_quiet (samePictures_refl _))).pictured applied
    · exact applied
  split
  · exact (same_offerTallySet (samePictures_refl _)).pictured handed
  · exact handed

/-! ## The division of a period's bytes (R59, R65) -/

/-- R64: a context that does not share in the division has target 0. -/
theorem divide_target (c : Chip) {k : Ctx} (shares : sharing c.ctx[k].state = false) : (divide c).targets[k] = 0 := by
  unfold divide
  dsimp only
  rw [tabulate_get, targetOf, shares]
  rfl

/-- R59, R65: the targets granted leave T, R and F 0 in a context that is STOPPED or STARTING. -/
theorem pictured_division (h : Pictured c) : Pictured (rateBoundary (budgetBoundary c)) := by
  refine h.of_stands fun k => ?_
  obtain ⟨still, empty, drains, bound, gathers, waits, quiet⟩ := h.stands k
  refine ⟨still, empty, drains, bound, gathers, waits, fun idle => ?_⟩
  have shares : sharing c.ctx[k].state = false := by
    obtain stopped | starting := idle
    · exact congrArg sharing stopped
    · exact congrArg sharing starting
  have target : (budgetBoundary c).budget.targets[k] = 0 := divide_target c shares
  have rate : (rateBoundary (budgetBoundary c)).rate[k] = grantTarget 0 c.rate[k] := by
    rw [rateBoundary, tabulate_get, target]
    rfl
  rw [rate]
  exact ⟨rfl, Nat.zero_mul _, by simp [grantTarget]⟩

/-! ## The picture boundary and the clock (R14, R15, R22) -/

theorem pictured_allowanceBoundary (h : Pictured c) : Pictured (allowanceBoundary c) := pictured_quiet h

theorem pictured_boundaryWork (h : Pictured c) : Pictured (boundaryWork c) := by
  have steered : Pictured (steerBoundary c) := by
    unfold steerBoundary
    split
    · exact (same_setAttention _ (same_quiet (samePictures_refl c))).pictured h
    · exact h
  exact pictured_allowanceBoundary (pictured_division (pictured_selectorBoundary (pictured_gatherBoundary steered)))

theorem pictured_makeBoundary (st : TimebaseState) (tc : Timecode) (h : Pictured c) : Pictured (makeBoundary st tc c) :=
  pictured_boundaryWork (pictured_quiet h)

theorem same_modTime (f : Timebase → Timebase) (h : SamePictures c d) : SamePictures c (modTime f d) := same_quiet h

theorem pictured_expireBoundary (h : Pictured c) : Pictured (expireBoundary c) := by
  unfold expireBoundary
  split
  · have made := pictured_makeBoundary .freeRun (countForward c.time.rate c.time.timecode) h
    exact (same_setAttention _ (same_modTime _ (samePictures_refl _))).pictured made
  · exact pictured_makeBoundary _ _ h

theorem pictured_sampleStep (h : Pictured c) : Pictured (sampleStep c) := by
  have counted : Pictured (modTime countSample c) := pictured_quiet h
  have chosen : Pictured (madeChoice (modTime countSample c)) := pictured_quiet h
  obtain ⟨-, -, e⟩ | ⟨-, -, e⟩ | ⟨-, -, e⟩ | ⟨-, -, e⟩ | ⟨-, -, e⟩ := sampleStep_cases c
  all_goals rw [e]
  · exact counted
  · exact pictured_tickWork counted
  · exact pictured_expireBoundary counted
  · exact pictured_tickWork (pictured_expireBoundary chosen)
  · exact pictured_expireBoundary (pictured_tickWork chosen)

theorem pictured_runClock (n : Nat) (h : Pictured c) : Pictured (runClock n c) :=
  runClock_keeps (fun _ kept => pictured_sampleStep kept) n h

theorem pictured_expiryIn (st : TimebaseState) (h : Pictured c) : Pictured (expiryIn st c) := by
  unfold expiryIn
  split
  · exact pictured_runClock _ h
  · exact h

theorem pictured_referenceCell (payload : List Byte) (h : Pictured c) : Pictured (referenceCell payload c) := by
  unfold referenceCell
  split
  · exact pictured_quiet h
  · exact pictured_quiet h
  unfold takeReference
  dsimp only
  split
  · exact pictured_makeBoundary _ _ (pictured_quiet h)
  · split
    · exact pictured_quiet h
    · exact pictured_makeBoundary _ _ (pictured_quiet h)

end Sys2Proof.CodingRoom

end


section
/-! What keeps the conditions of the contexts, the engine and the programme, concluded: the commands, the cells and the steps
(chapters 1 to 12). -/

namespace Sys2Proof.CodingRoom

open Sys2Proof.Machine Sys2Proof.Safety Sys2Proof.Claims Sys2Proof.Clockwork

-- One theorem after another: side by side, each waits for the others on a thread of its own.
set_option Elab.async false

variable {c d : Chip}

/-! ## The timebase and steering (chapters 2 and 3) -/

theorem same_setRate (rate : Byte) (c : Chip) : SamePictures c (setRate rate c).1 := by
  unfold setRate
  repeat' split
  all_goals exact same_quiet (samePictures_refl c)

theorem same_loadSteer (first count : Byte) (entries : List SteerEntry) (c : Chip) :
    SamePictures c (loadSteer first count entries c).1 := by
  unfold loadSteer
  split
  all_goals exact same_quiet (samePictures_refl c)

theorem same_steerDefault (a : Byte) (c : Chip) : SamePictures c (steerDefault a c).1 := by
  unfold steerDefault
  split
  all_goals exact same_quiet (samePictures_refl c)

/-! ## Budget and rate control (chapter 5) -/

/-- R72 to R74: settings of a context's rate control, its T, R and F left. -/
theorem same_modRate {k : Ctx} {f : RateState → RateState} (target : ∀ r, (f r).target = r.target := by exact fun _ => rfl)
    (size : ∀ r, (f r).size = r.size := by exact fun _ => rfl)
    (fill : ∀ r, (f r).fill = r.fill := by exact fun _ => rfl) : SamePictures c (modRate k f c) := by
  refine ⟨fun _ => ⟨rfl, rfl, rfl⟩, rfl, fun j => ?_, rfl, rfl, rfl, rfl⟩
  have rate : (modRate k f c).rate = modAt c.rate k f := rfl
  rw [rate, modAt_get]
  split
  · rename_i e
    subst e
    exact ⟨target _, size _, fill _⟩
  · exact ⟨rfl, rfl, rfl⟩

theorem same_setContext (ctx weight : Byte) (minimum : BitVec 32) (boost bias slew marker : Byte)
    (latency : BitVec 16) (logMode : Byte) (c : Chip) :
    SamePictures c (setContext ctx weight minimum boost bias slew marker latency logMode c).1 := by
  unfold setContext
  split
  · exact same_modRate
  · exact samePictures_refl c

theorem same_setReservoir (ctx depth qMin qMax qStart : Byte) (c : Chip) :
    SamePictures c (setReservoir ctx depth qMin qMax qStart c).1 := by
  unfold setReservoir
  split
  · exact samePictures_refl c
  split
  · exact samePictures_refl c
  dsimp only
  split
  · exact samePictures_refl c
  · exact same_modRate

theorem same_loadCurve (ctx : Byte) (entries : List Byte) (c : Chip) : SamePictures c (loadCurve ctx entries c).1 := by
  unfold loadCurve
  repeat' split
  case h_2.isFalse => exact same_modRate
  all_goals exact samePictures_refl c

/-! ## The mixer (chapter 6) -/

theorem same_loadGain (first count : Byte) (entries : List (BitVec 16)) (c : Chip) :
    SamePictures c (loadGain first count entries c).1 := by
  unfold loadGain
  repeat' split
  all_goals exact same_quiet (samePictures_refl c)

theorem same_setFader (input target step : Byte) (c : Chip) : SamePictures c (setFader input target step c).1 := by
  unfold setFader
  split
  all_goals exact same_quiet (samePictures_refl c)

theorem same_setAfv (input link onIndex offIndex : Byte) (c : Chip) :
    SamePictures c (setAfv input link onIndex offIndex c).1 := by
  unfold setAfv
  split
  all_goals exact same_quiet (samePictures_refl c)

theorem same_setSends (input pgmL pgmR auxA auxB : Byte) (c : Chip) :
    SamePictures c (setSends input pgmL pgmR auxA auxB c).1 := by
  unfold setSends
  split
  all_goals exact same_quiet (samePictures_refl c)

theorem same_setBus (bus master mute : Byte) (stream : BitVec 16) (c : Chip) :
    SamePictures c (setBus bus master mute stream c).1 := by
  unfold setBus
  split
  · split
    · split
      all_goals exact same_quiet (samePictures_refl c)
    · exact same_quiet (samePictures_refl c)
  · exact samePictures_refl c

theorem same_setAudioSend (value : Byte) (c : Chip) : SamePictures c (setAudioSend value c).1 := by
  unfold setAudioSend
  split
  all_goals exact same_quiet (samePictures_refl c)

theorem same_readMeters (c : Chip) : SamePictures c (readMeters c).1 := same_quiet (samePictures_refl c)

/-! ## The clip log and the send-event log (chapters 10 and 11) -/

theorem same_readLog (c : Chip) : SamePictures c (readLog c).1 := by
  unfold readLog
  split
  all_goals exact same_quiet (samePictures_refl c)

theorem same_markIn (ctx : Byte) (text : List Byte) (rating : Byte) (c : Chip) :
    SamePictures c (markIn ctx text rating c).1 := by
  unfold markIn
  repeat' split
  all_goals exact same_quiet (samePictures_refl c)

theorem same_markOut (c : Chip) : SamePictures c (markOut c).1 := by
  unfold markOut
  split
  · exact samePictures_refl c
  split
  · exact samePictures_refl c
  · exact same_closeClip _ _ (same_quiet (samePictures_refl c))

theorem same_setClipMode (autoSend : Byte) (autoClip : Vector Byte 6) (c : Chip) :
    SamePictures c (setClipMode autoSend autoClip c).1 := by
  unfold setClipMode
  split
  all_goals exact same_quiet (samePictures_refl c)

theorem same_labelClip (i : Nat) (x : Clip) (text : List Byte) (rating : Byte) (c : Chip) :
    SamePictures c (labelClip i x text rating c).1 := by
  have start := samePictures_refl c
  unfold labelClip
  extract_lets y ok
  split
  case h_5 | h_6 =>
    split
    · exact start
    · exact same_autoOffer _ _ (same_quiet start)
  all_goals
    repeat' split
    all_goals exact same_quiet start

theorem same_label (index : Byte) (text : List Byte) (rating : Byte) (c : Chip) :
    SamePictures c (label index text rating c).1 := by
  unfold label
  repeat' split
  case h_2 => exact same_labelClip _ _ text rating c
  all_goals exact samePictures_refl c

theorem same_sendLabel (index : Byte) (c : Chip) : SamePictures c (sendLabel index c).1 := by
  unfold sendLabel
  split
  · exact samePictures_refl c
  split
  · exact samePictures_refl c
  split
  · exact samePictures_refl c
  split
  · exact same_offerLabel _ _ (samePictures_refl c)
  all_goals exact samePictures_refl c

theorem same_voidClip (index : Byte) (c : Chip) : SamePictures c (voidClip index c).1 := by
  unfold voidClip
  repeat' split
  all_goals exact same_quiet (samePictures_refl c)

theorem same_setFence (position : Byte) (c : Chip) : SamePictures c (setFence position c).1 := by
  unfold setFence
  dsimp only
  repeat' split
  all_goals exact same_quiet (samePictures_refl c)

theorem same_clearClips (c : Chip) : SamePictures c (clearClips c).1 := by
  unfold clearClips
  split
  all_goals exact same_quiet (samePictures_refl c)

/-! ## The selector's settings (chapter 7) -/

theorem same_setTally (ctx : Byte) (stream : BitVec 16) (c : Chip) : SamePictures c (setTally ctx stream c).1 := by
  unfold setTally
  split
  · exact samePictures_refl c
  · dsimp only
    split
    · exact samePictures_refl c
    · exact same_offerTallyOf _ (same_quiet (samePictures_refl c))

/-! ## START_CONTEXT (R42) -/

theorem pictured_startContext (ctx : Byte) (h : Pictured c) : Pictured (startContext ctx c).1 := by
  unfold startContext
  split
  · exact h
  rename_i mode
  split
  · exact h
  rename_i k _
  obtain ⟨still, empty, drains, bound, gathers, waits, quiet⟩ := h.stands k
  split
  · rename_i stopped
    refine pictured_newState (st := .starting) h (mode_run mode) (by rw [stopped]; nofun)
      ⟨fun _ => still (by rw [stopped]; nofun), fun _ => empty (.inl stopped), nofun, bound, gathers, waits,
        fun _ => quiet (.inl stopped)⟩
  · rename_i draining
    exact pictured_newState (st := .running) h (mode_run mode) (by rw [draining]; nofun)
      (stands_running _ rfl bound gathers waits)
  all_goals exact h

/-! ## STOP_CONTEXT (R44, R53, R106) -/

/-- A part in RUN whose context k has been stopped, before the selector is told: the programme may still be k. -/
structure Leaving (k : Ctx) (c : Chip) : Prop extends RecordsOk c where
  programme : ∀ j, c.sel.programme = some j → j ≠ k → c.ctx[j].state = .running
  run : c.port.mode = .run

/-- Context k has taken another state, with no operation of its own in the engine. -/
theorem leaving_of_ungranted {k : Ctx} (h : Ungranted c) (run : c.port.mode = .run)
    (free : ∀ o, c.engine.op = some o → o.picture.ctx ≠ k) (stands : ∀ j, StandsIn d j)
    (others : ∀ j, j ≠ k → d.ctx[j] = c.ctx[j]) (op : d.engine.op = c.engine.op := by rfl)
    (programme : d.sel.programme = c.sel.programme := by rfl) (mode : d.port.mode = c.port.mode := by rfl) :
    Leaving k d where
  stands := stands
  coding o coding := by
    have held := op.symm.trans coding
    rw [others _ (free o held)]
    exact h.coding o held
  programme j onAir other := by
    rw [others j other]
    exact h.programme j (programme.symm.trans onAir)
  run := mode.trans run

theorem leaving_reachStopped {k : Ctx} (h : Ungranted c) (run : c.port.mode = .run)
    (free : ∀ o, c.engine.op = some o → o.picture.ctx ≠ k) (gathering : c.ctx[k].gathering = none)
    (ready : c.ctx[k].ready = none) (queue : c.sched.videoQueue[k] = []) : Leaving k (reachStopped k c) :=
  leaving_of_ungranted h run free (stands_reachStopped (fun j _ => h.stands j) gathering ready queue)
    fun _ other => modAt_get_other _ _ other

/-- R106: the selector leaves no stopped context in programme. -/
theorem ungranted_stopAtSelector {k : Ctx} (h : Leaving k c) : Ungranted (stopAtSelector k c) := by
  have programme : Ungranted (stopProgramme k c) := by
    obtain ⟨records, others, run⟩ := h
    have other : c.port.mode ≠ .standby := fun mode => PartMode.noConfusion (run.symm.trans mode)
    unfold stopProgramme
    split
    · have cleared : Ungranted { c with sel := { c.sel with
          programme := none, programmeStops := bump c.sel.programmeStops } } :=
        ⟨⟨records.stands, records.coding⟩, nofun, fun mode => absurd mode other⟩
      have noticed := (same_setAttention [.takeDegraded] (samePictures_refl _)).ungranted cleared
      exact ungranted_quiet noticed
    · rename_i offAir
      exact ⟨records, fun j onAir => others j onAir fun e => offAir (e ▸ onAir), fun mode => absurd mode other⟩
  have stopped : Ungranted (stopPreset k (stopProgramme k c)) := by
    unfold stopPreset
    split
    · exact ungranted_quiet programme
    · exact programme
  unfold stopAtSelector
  dsimp only
  split
  · exact (same_offerTallySet (samePictures_refl _)).ungranted stopped
  · exact stopped

/-- Context k is RUNNING, in a part in RUN. -/
structure Runs (k : Ctx) (c : Chip) : Prop extends Ungranted c where
  running : c.ctx[k].state = .running
  run : c.port.mode = .run

theorem Runs.resolve {k : Ctx} (h : Runs k c) (p : Picture) (q : Option Nat) (sends : Nat) (o : PicOutcome) :
    Runs k (resolve p q sends o c) := by
  have same := same_resolve p q sends o (samePictures_refl c)
  exact ⟨same.ungranted h.toUngranted, (same.records k).1.trans h.running, same.mode.trans h.run⟩

theorem Runs.modCtx {k : Ctx} {f : Context → Context} (h : Runs k c) (state : (f c.ctx[k]).state = .running)
    (gathers : ∀ g, (f c.ctx[k]).gathering = some g → g.picture.ctx = k)
    (waits : ∀ y, (f c.ctx[k]).ready = some y → y.picture.ctx = k) : Runs k (modCtx k f c) where
  toUngranted := ungranted_modCtx h.toUngranted h.running state gathers waits
  running := by rw [modCtx_ctx, modAt_get_same, state]
  run := h.run

/-- R53: the operation of a stopped context's picture is abandoned. -/
theorem runs_abandonFor {k : Ctx} (h : Runs k c) :
    Runs k (abandonFor k c) ∧ ∀ o, (abandonFor k c).engine.op = some o → o.picture.ctx ≠ k := by
  unfold abandonFor
  split
  · rename_i op
    exact ⟨h, fun o coding => by rw [op] at coding; cases coding⟩
  rename_i o op
  split
  · obtain ⟨⟨⟨stands, -⟩, programme, standby⟩, running, run⟩ := h
    have freed : Runs k { c with engine := { c.engine with op := none, abandoned := bump c.engine.abandoned } } :=
      ⟨⟨⟨stands, nofun⟩, programme, standby⟩, running, run⟩
    refine ⟨freed.resolve .., ?_⟩
    rw [resolve_engine]
    exact nofun
  · rename_i other
    exact ⟨h, fun o' coding => by rw [op] at coding; cases coding; exact other⟩

/-- R44: a RUNNING context's ready record is shed. -/
theorem runs_shedReady {k : Ctx} (h : Runs k c) :
    Runs k (shedReady k c) ∧ (shedReady k c).ctx[k].ready = none ∧ (shedReady k c).engine = c.engine := by
  unfold shedReady
  split
  · have cleared := h.modCtx (f := fun x => { x with ready := none }) h.running (h.stands k).gathers nofun
    refine ⟨cleared.resolve .., ?_, resolve_engine ..⟩
    rw [resolve_ctx, modCtx_ctx, modAt_get_same]
  · rename_i ready
    exact ⟨h, ready, rfl⟩

/-- R44: and the record it is gathering. -/
theorem runs_shedGathering {k : Ctx} (h : Runs k c) :
    Runs k (shedGathering k c) ∧ (shedGathering k c).ctx[k].gathering = none ∧
      (shedGathering k c).ctx[k].ready = c.ctx[k].ready ∧ (shedGathering k c).engine = c.engine := by
  unfold shedGathering
  split
  · have cleared := h.modCtx (f := fun x => { x with gathering := none }) h.running nofun (h.stands k).waits
    refine ⟨cleared.resolve .., ?_, ?_, resolve_engine ..⟩
    all_goals rw [resolve_ctx, modCtx_ctx, modAt_get_same]
  · rename_i gathering
    exact ⟨h, gathering, rfl, rfl⟩

/-- R44: without records a context drains its video queue, or is STOPPED at once. -/
theorem leaving_drainOrStop {k : Ctx} (h : Ungranted c) (run : c.port.mode = .run)
    (free : ∀ o, c.engine.op = some o → o.picture.ctx ≠ k) (gathering : c.ctx[k].gathering = none)
    (ready : c.ctx[k].ready = none) : Leaving k (drainOrStop k c) := by
  unfold drainOrStop
  split
  · rename_i empty
    exact leaving_reachStopped h run free gathering ready (List.isEmpty_iff.mp empty)
  · rename_i filled
    have left : c.sched.videoQueue[k] ≠ [] := fun empty => filled (List.isEmpty_iff.mpr empty)
    have drains : Stands k { c.ctx[k] with state := .draining } c.sched.videoQueue[k] c.rate[k] := by
      obtain ⟨-, -, -, bound, gathers, waits, -⟩ := h.stands k
      exact ⟨fun _ => ⟨gathering, ready⟩, fun other => other.elim nofun nofun, fun _ => left, bound, gathers, waits,
        fun other => other.elim nofun nofun⟩
    exact leaving_of_ungranted h run free (stands_modCtx h.stands drains) fun _ other => modAt_get_other _ _ other

theorem leaving_stopRunning {k : Ctx} (h : Runs k c) : Leaving k (stopRunning k c) := by
  obtain ⟨abandoned, free⟩ := runs_abandonFor h
  obtain ⟨shed, ready, engine⟩ := runs_shedReady abandoned
  obtain ⟨shed', gathering, ready', engine'⟩ := runs_shedGathering shed
  refine leaving_drainOrStop shed'.toUngranted shed'.run (fun o op => free o ?_) gathering (ready'.trans ready)
  rw [engine', engine] at op
  exact op

theorem pictured_stopContext (ctx : Byte) (h : Pictured c) : Pictured (stopContext ctx c).1 := by
  have ungranted := h.ungranted
  unfold stopContext
  split
  · exact h
  rename_i mode
  split
  · exact h
  rename_i k _
  split
  · rename_i starting
    have other : c.ctx[k].state ≠ .running := fun running => CtxState.noConfusion (starting.symm.trans running)
    obtain ⟨gathering, ready⟩ := (h.stands k).still other
    have free : ∀ o, c.engine.op = some o → o.picture.ctx ≠ k := fun o op own =>
      other (own ▸ ungranted.coding o op)
    exact pictured_arbitrate (ungranted_stopAtSelector
      (leaving_reachStopped ungranted (mode_run mode) free gathering ready ((h.stands k).empty (.inr starting))))
  · rename_i running
    exact pictured_arbitrate (ungranted_stopAtSelector (leaving_stopRunning ⟨ungranted, running, mode_run mode⟩))
  all_goals exact h

end Sys2Proof.CodingRoom

end


section
/-! The steps and the conditions of the contexts, the engine and the programme: the part modes, a reset, the cells and the
step relation (chapters 1 and 12). -/

namespace Sys2Proof.CodingRoom

open Sys2Proof.Machine Sys2Proof.Safety Sys2Proof.Claims Sys2Proof.Clockwork

-- One theorem after another: side by side, each waits for the others on a thread of its own.
set_option Elab.async false

variable {c d : Chip}

/-! ## Part modes and unit reset (R97, R178, R182) -/

theorem pictured_goRun (h : Pictured c) : Pictured (goRun c).1 := by
  obtain ⟨pictures, standby⟩ := h
  unfold goRun
  split
  · exact ⟨pictures, nofun⟩
  · exact ⟨pictures, standby⟩

theorem allQuiet_stopped (quiet : allQuiet c = true) : c.link.state = .down ∧ ∀ k : Ctx, c.ctx[k].state = .stopped := by
  obtain ⟨down, stopped⟩ := Bool.and_eq_true_iff.mp quiet
  refine ⟨eq_of_beq down, fun k => eq_of_beq (List.all_eq_true.mp stopped _ ?_)⟩
  exact Vector.mem_toList_iff.mpr (Vector.getElem_mem k.isLt)

/-- R178: STANDBY is entered with the link DOWN and every context STOPPED. -/
theorem pictured_standBy (h : Pictured c) : Pictured (standBy c).1 := by
  obtain ⟨pictures, standby⟩ := h
  unfold standBy
  split
  · rename_i quiet
    exact ⟨pictures, fun _ => allQuiet_stopped quiet⟩
  · exact ⟨pictures, standby⟩

/-- R40, R77, R182: after the blocks' part of a reset every context is STOPPED without records. -/
theorem pictured_resetBlocks (c : Chip) : Pictured (resetBlocks c) := by
  have ctx : ∀ k : Ctx, (resetBlocks c).ctx[k] = resetCtx c.ctx[k] := fun k => mapAll_get _ _ k
  have rate : ∀ k : Ctx, (resetBlocks c).rate[k] = resetRate c.rate[k] := fun k => mapAll_get _ _ k
  have queue : ∀ k : Ctx, (resetBlocks c).sched.videoQueue[k] = [] := fun k => Vector.getElem_replicate _
  have stands : ∀ k, StandsIn (resetBlocks c) k := fun k => by
    unfold StandsIn
    rw [ctx, rate, queue]
    exact ⟨fun _ => ⟨rfl, rfl⟩, fun _ => rfl, nofun, Nat.zero_le 8, nofun, nofun, fun _ => ⟨rfl, rfl, rfl⟩⟩
  have stopped : ∀ k : Ctx, (resetBlocks c).ctx[k].state = .stopped := fun k => by rw [ctx]; rfl
  refine (pictured_iff _).mpr ⟨⟨⟨stands, nofun⟩, nofun, fun _ => ⟨rfl, stopped⟩⟩, fun _ k => ?_⟩
  rw [ctx]
  rfl

theorem same_offerTallyOff (c : Chip) : SamePictures c (offerTallyOff c) := by
  refine same_foldl (fun d k h => ?_) _ (samePictures_refl c)
  split
  · exact h
  · rw [offerTally_frame]
    exact same_quiet h

theorem pictured_unitReset (c : Chip) : Pictured (unitReset c) :=
  (same_offerTallyOff (resetBlocks c)).pictured (pictured_resetBlocks c)

theorem pictured_resetUnit (c : Chip) : Pictured (resetUnit c).1 := by
  dsimp only [resetUnit]
  exact pictured_unitReset c

/-- R7. -/
theorem pictured_powerOnPart (straps : BitVec 4) (c : Chip) : Pictured (powerOnPart straps c) :=
  pictured_quiet (c := Chip.powerOn) ⟨VanFabric.picturesOk_powerOn, VanFabric.standbyOk_powerOn⟩

/-! ## Commands and cells (R2 to R6, R175, R176) -/

theorem pictured_takeAddressed (tag : Byte) (name : List Byte) {work : Chip → Chip × Reply} (h : Pictured c)
    (hw : ∀ d, Pictured d → Pictured (work d).1) : Pictured (takeAddressed tag name work c) := by
  have held : Pictured (holdPlace c) := pictured_quiet h
  unfold takeAddressed
  split
  · exact pictured_quiet h
  · exact (same_placeAnswer _ _ _ (samePictures_refl _)).pictured (hw _ held)

theorem pictured_takeCommand {tag : Byte} {name : CommandName} {work : Chip → Chip × Reply} (h : Pictured c)
    (hw : ∀ d, Pictured d → Pictured (work d).1) : Pictured (takeCommand tag name work c) :=
  pictured_takeAddressed tag _ h hw

/-- A command that leaves what the conditions read. -/
theorem pictured_takeQuiet {tag : Byte} {name : CommandName} {work : Chip → Chip × Reply} (h : Pictured c)
    (hw : ∀ d, SamePictures d (work d).1) : Pictured (takeCommand tag name work c) :=
  pictured_takeCommand h fun d kept => (hw d).pictured kept

/-- R101: a selection in both its forms. -/
theorem pictured_select (name : CommandName) (inRange : Bool) {take : Chip → Chip} (h : Pictured c)
    (quiet : ∀ d, SamePictures d (take d)) :
    (∀ tag, Pictured (takeCommand tag name (fun d =>
      if inRange then (take d, reply .done) else refuse .refusedRange d) c)) ∧
    Pictured (takeGlobal (fun d => if inRange then take d else countRefusedGlobal d) c) := by
  have counted : Pictured { c with port := { c.port with globalsTaken := bump c.port.globalsTaken } } := pictured_quiet h
  cases inRange
  · exact ⟨fun tag => pictured_takeQuiet h samePictures_refl, pictured_quiet counted⟩
  · exact ⟨fun tag => pictured_takeQuiet h quiet, (quiet _).pictured counted⟩

theorem pictured_preset (dest : Dest) (unit ctx : Byte) (h : Pictured c) : Pictured (preset dest unit ctx c) := by
  obtain ⟨addressed, global⟩ := pictured_select .preset (selectInRange unit ctx) (take := takePreset unit ctx) h
    fun d => same_quiet (samePictures_refl d)
  cases dest with
  | unit tag => exact addressed tag
  | all => exact global

theorem pictured_cutTo (dest : Dest) (unit ctx : Byte) (h : Pictured c) : Pictured (cutTo dest unit ctx c) := by
  obtain ⟨addressed, global⟩ := pictured_select .cutTo (selectInRange unit ctx) (take := takeCut unit ctx) h
    fun d => same_quiet (samePictures_refl d)
  cases dest with
  | unit tag => exact addressed tag
  | all => exact global

theorem pictured_take (dest : Dest) (h : Pictured c) : Pictured (take dest c) := by
  cases dest with
  | unit tag => exact pictured_takeQuiet h fun d => same_quiet (samePictures_refl d)
  | all => exact pictured_quiet h

theorem pictured_swapSteer (dest : Dest) (h : Pictured c) : Pictured (swapSteer dest c) := by
  cases dest with
  | unit tag => exact pictured_takeQuiet h fun d => same_quiet (samePictures_refl d)
  | all => exact pictured_quiet h

/-- A command whose work only answers, or is refused. -/
theorem pictured_takeReading {tag : Byte} {name : CommandName} {work : Chip → Chip × Reply} (h : Pictured c)
    (reads : ∀ d, (work d).1 = d) : Pictured (takeCommand tag name work c) :=
  pictured_takeQuiet h fun d => by rw [reads]; exact samePictures_refl d

/-- R176: every command of the catalogue; an event is no command. -/
theorem pictured_runCommand (i : Instr) (h : Pictured c) : Pictured (runCommand i c) := by
  cases i with
  | setRate t r => exact pictured_takeQuiet h (same_setRate r)
  | loadSteer t f n es => exact pictured_takeQuiet h (same_loadSteer f n es)
  | readSteer t b f n => exact pictured_takeReading h (readSteer_fst b f n)
  | steerDefault t a => exact pictured_takeQuiet h (same_steerDefault a)
  | swapSteer dest => exact pictured_swapSteer dest h
  | startContext t k => exact pictured_takeCommand h fun _ => pictured_startContext k
  | stopContext t k => exact pictured_takeCommand h fun _ => pictured_stopContext k
  | setContext t k w m bo bi sl mk la mode => exact pictured_takeQuiet h (same_setContext k w m bo bi sl mk la mode)
  | setReservoir t k dp lo hi st => exact pictured_takeQuiet h (same_setReservoir k dp lo hi st)
  | loadCurve t k es => exact pictured_takeQuiet h (same_loadCurve k es)
  | setBudget t r => exact pictured_takeQuiet h fun d => same_quiet (samePictures_refl d)
  | loadGain t f n es => exact pictured_takeQuiet h (same_loadGain f n es)
  | readGain t f n => exact pictured_takeReading h fun d => by unfold readGain; split; all_goals rfl
  | setFader t i x r => exact pictured_takeQuiet h (same_setFader i x r)
  | setAfv t i l on off => exact pictured_takeQuiet h (same_setAfv i l on off)
  | setSends t i a b x y => exact pictured_takeQuiet h (same_setSends i a b x y)
  | setBus t b m mute s => exact pictured_takeQuiet h (same_setBus b m mute s)
  | setAudioSend t v => exact pictured_takeQuiet h (same_setAudioSend v)
  | readMeters t => exact pictured_takeQuiet h same_readMeters
  | preset dest u k => exact pictured_preset dest u k h
  | take dest => exact pictured_take dest h
  | cutTo dest u k => exact pictured_cutTo dest u k h
  | setTally t k s => exact pictured_takeQuiet h (same_setTally k s)
  | linkOpen t => exact pictured_takeCommand h fun _ => pictured_linkOpen
  | handover t => exact pictured_takeCommand h fun _ => pictured_handover
  | linkClose t => exact pictured_takeCommand h fun _ => pictured_linkClose
  | setLink t v a r s k => exact pictured_takeQuiet h fun d => same_quiet (samePictures_refl d)
  | readLog t => exact pictured_takeQuiet h same_readLog
  | markIn t k text rating => exact pictured_takeQuiet h (same_markIn k text rating)
  | markOut t => exact pictured_takeQuiet h same_markOut
  | setClipMode t a cs => exact pictured_takeQuiet h (same_setClipMode a cs)
  | label t i text rating => exact pictured_takeQuiet h (same_label i text rating)
  | sendLabel t i => exact pictured_takeQuiet h (same_sendLabel i)
  | voidClip t i => exact pictured_takeQuiet h (same_voidClip i)
  | setFence t n => exact pictured_takeQuiet h (same_setFence n)
  | clearClips t => exact pictured_takeQuiet h same_clearClips
  | readClip t i => exact pictured_takeReading h fun d => by unfold readClip; split; all_goals rfl
  | go t => exact pictured_takeCommand h fun _ => pictured_goRun
  | standby t => exact pictured_takeCommand h fun _ => pictured_standBy
  | resetUnit t => exact pictured_takeCommand h fun d _ => pictured_resetUnit d
  | readStatus t b i => exact pictured_takeReading h fun d => by unfold readStatus; split; all_goals rfl
  | setNotices t m => exact pictured_takeQuiet h fun d => same_quiet (samePictures_refl d)
  | ackAttention t m => exact pictured_takeQuiet h fun d => same_quiet (samePictures_refl d)
  | _ => exact h

theorem pictured_controlCell (unit : BitVec 4) (payload : List Byte) (h : Pictured c) :
    Pictured (controlCell unit payload c) := by
  unfold controlCell
  split
  · exact pictured_quiet h
  split
  · unfold addressedCell
    split
    · exact pictured_takeAddressed _ _ h fun _ kept => kept
    · split
      · exact pictured_takeAddressed _ _ h fun _ kept => kept
      · exact pictured_runCommand _ h
  split
  · unfold globalCell
    split
    · exact pictured_runCommand _ h
    · exact pictured_quiet h
  · exact pictured_quiet h

theorem pictured_laneBytes (n : LaneNo) (bytes : List Byte) (h : Pictured c) : Pictured (laneBytes n bytes c) := by
  have counted : ∀ f, Pictured (modLane n f c) := fun f => pictured_quiet h
  unfold laneBytes
  split
  · exact counted _
  unfold receiveCell
  split
  · exact counted _
  · exact counted _
  · exact pictured_controlCell _ _ (counted _)
  · exact pictured_referenceCell _ (counted _)
  · exact pictured_steerCell _ _ _ (counted _)

theorem same_refillOut (h : SamePictures c d) : SamePictures c (refillOut d) := by
  unfold refillOut
  repeat' split
  all_goals exact same_quiet h

theorem same_startFo (h : SamePictures c d) : SamePictures c (startFo d) := by
  rw [startFo_frame]
  exact same_quiet h

theorem pictured_foSent (h : Pictured c) : Pictured (foSent c) := by
  unfold foSent
  split
  · exact h
  · exact (same_startFo (same_refillOut (same_quiet (samePictures_refl c)))).pictured h

/-! ## A step -/

theorem pictured_exec {i : Instr} {s t : State} (row : exec i s = .next t) (h : Pictured s.chip) : Pictured t.chip := by
  have command : encodeParams i ≠ none → Pictured t.chip := fun hi => by
    rw [VanFabric.exec_command hi] at row
    cases row
    exact pictured_runCommand i h
  cases i with
  | powerOnReset straps => cases row; exact pictured_powerOnPart straps _
  | cellArrival n bytes => cases row; exact pictured_laneBytes n bytes h
  | referenceLoss => cases row; exact pictured_expiryIn _ h
  | freeRunBoundary => cases row; exact pictured_expiryIn _ h
  | blockTick => cases row; exact pictured_runClock _ h
  | audioInputLost i => cases row; exact pictured_audioInputLost i h
  | pictureDeadline k n => cases row; exact pictured_deadlinePasses k n h
  | ackWindowExpiry n => cases row; exact pictured_ackExpiry n h
  | hailAnswerWindowExpiry => cases row; exact pictured_windowExpiry h
  | hailRetryGapExpiry => cases row; exact pictured_gapExpiry h
  | silenceExpiry => cases row; exact pictured_silenceRunsOut h
  | drainLimitExpiry => cases row; exact pictured_drainExpiry h
  | codingCompletion coded => cases row; exact pictured_codingDone coded h
  | returnMessageArrival bytes => cases row; exact pictured_returnMessage bytes h
  | foSendCompletion => cases row; exact pictured_foSent h
  | _ => exact command (Option.some_ne_none _)

theorem pictured_step {s t : State} (row : step s = .next t) (h : Pictured s.chip) : Pictured t.chip := by
  obtain ⟨c, pending⟩ := s
  cases pending with
  | nil =>
    rw [step_idle] at row
    cases row
    exact pictured_sampleStep h
  | cons i rest => exact pictured_exec (s := ⟨c, rest⟩) row h

/-- Settles O55: each operation that a step is made of keeps the conditions, the engine's grant taken last. -/
theorem stepsKeepContextsAndProgramme : Obligations.StepsKeepContextsAndProgramme := by
  unfold Obligations.StepsKeepContextsAndProgramme
  intro s t row pictures standby
  exact pictured_step row ⟨pictures, standby⟩

end Sys2Proof.CodingRoom

end


section
/-! START_CONTEXT and the picture gatherers (R41, R42, R46 to R50): what a VIDEO cell does in every state of its context
and record. -/

namespace Sys2Proof.CodingRoom

open Sys2Proof.Machine Sys2Proof.Safety Sys2Proof.Claims Sys2Proof.Clockwork

/-! ## START_CONTEXT (R42) -/

/-- Settles O24: START_CONTEXT's tests in their order, the mode, the context number and the context's state. -/
theorem startContextStartsOrResumes : Obligations.StartContextStartsOrResumes := by
  unfold Obligations.StartContextStartsOrResumes
  intro tag ctx s room
  have answers : ∀ {code data f}, startContext ctx (holdPlace s.chip) = (f (holdPlace s.chip), ⟨code, data⟩) →
      Answers (.startContext tag ctx) s tag .startContext code data f := answers_of_work room rfl
  refine ⟨fun standby => answers ?_, fun run above => answers ?_, fun run k number => ?_⟩
  · rw [startContext, holdPlace_mode, if_pos standby]
    rfl
  all_goals have taken : ¬s.chip.port.mode = .standby := by rw [run]; nofun
  · rw [startContext, holdPlace_mode, if_neg taken, ctxOf_none.mpr above]
    rfl
  · have named : ctxOf ctx = some k := ctxOf_some.mpr number.symm
    have work : startContext ctx (holdPlace s.chip) = (match s.chip.ctx[k].state with
        | .stopped => (modCtx k (fun x => { x with state := .starting }) (holdPlace s.chip), reply .done)
        | .draining => (modCtx k (fun x => { x with state := .running }) (holdPlace s.chip), reply .done)
        | .starting => refuse .refusedState (holdPlace s.chip)
        | .running => refuse .refusedState (holdPlace s.chip)) := by
      rw [startContext, holdPlace_mode, if_neg taken, named]
      rfl
    refine ⟨fun stopped => answers ?_, fun draining => answers ?_, fun begun => answers ?_⟩
    · rw [work, stopped]
      rfl
    · rw [work, draining]
      rfl
    · obtain starting | running := begun
      · rw [work, starting]
        rfl
      · rw [work, running]
        rfl

/-! ## One context changed -/

theorem modAt_congr {α : Type} {n : Nat} {v : Vector α n} {k : Fin n} {f g : α → α} (h : f v[k] = g v[k]) :
    modAt v k f = modAt v k g := by
  simp only [modAt, h]

theorem modCtx_congr {k : Ctx} {f g : Context → Context} {c : Chip} (h : f c.ctx[k] = g c.ctx[k]) :
    modCtx k f c = modCtx k g c := by
  rw [modCtx, modAt_congr h, modCtx]

theorem modCtx_modCtx (k : Ctx) (f g : Context → Context) (c : Chip) :
    modCtx k g (modCtx k f c) = modCtx k (fun x => g (f x)) c := by
  simp only [modCtx, modAt_modAt]

theorem modCtx_get_same (k : Ctx) (f : Context → Context) (c : Chip) : (modCtx k f c).ctx[k] = f c.ctx[k] := by
  rw [modCtx_ctx, modAt_get_same]

/-! ## A record's end (R47, R48, R50) -/

/-- R50: a context's record taken from the gathering slot to the ready slot, and counted. -/
def recordReady (k : Ctx) (p : Picture) (m : List Byte) (c : Chip) : Chip :=
  modCtx k (fun y => { y with gathering := none, ready := some ⟨p, m⟩, completed := bump y.completed }) c

theorem becomesReady_eq (k : Ctx) (p : Picture) (m : List Byte) (c : Chip) :
    becomesReady k p m c = arbitrate (match c.ctx[k].ready with
      | none => recordReady k p m c
      | some r => resolve r.picture none 0 (.shed .overrun)
          (modCtx k (fun y => { y with overruns := bump y.overruns }) (recordReady k p m c))) := by
  unfold becomesReady recordReady
  cases c.ctx[k].ready
  all_goals rfl

theorem completePicture_eq (k : Ctx) (g : Gathering) (c : Chip) :
    completePicture k g c = becomesReady k g.picture g.memory c := by
  unfold completePicture becomesReady
  cases c.ctx[k].ready
  all_goals rfl

theorem endDamaged_eq (k : Ctx) (g : Gathering) (c : Chip) : endDamaged k g c = endedDamaged k g c := by
  have marked : modCtx k (fun _ => (damageIf true g c.ctx[k]).2) c = modCtx k (fun y => { y with
      damagedPictures := bumpIf (!g.picture.damaged) y.damagedPictures }) c := modCtx_congr rfl
  unfold endDamaged endedDamaged
  dsimp only
  rw [completePicture_eq, marked]
  rfl

/-! ## What a record opens with (R47) -/

/-- What a new record of context k takes from the part: the picture number, the clock and the rate control's marker. -/
structure SameOpening (k : Ctx) (c d : Chip) : Prop where
  number : d.ctx[k].nextNumber = c.ctx[k].nextNumber
  time : d.time = c.time
  rate : d.rate = c.rate

variable {k : Ctx} {n : LaneNo} {x : Cell} {c d : Chip}

theorem sameOpening_modCtx {f : Context → Context} (h : SameOpening k c d)
    (number : (f d.ctx[k]).nextNumber = d.ctx[k].nextNumber := by rfl) : SameOpening k c (modCtx k f d) :=
  ⟨by rw [modCtx_get_same, number, h.number], h.time, h.rate⟩

theorem sameOpening_arbitrate (h : SameOpening k c d) : SameOpening k c (arbitrate d) := by
  obtain ⟨number, time, rate⟩ := h
  refine ⟨?_, (arbitrate_time d).trans time, (arbitrate_rate d).trans rate⟩
  obtain ⟨still, -⟩ | ⟨j, r, -, -, grants⟩ := arbitrate_cases d
  · rw [still, number]
  · rw [grants, granted_ctx, modCtx_ctx, modAt_get]
    split
    all_goals exact number

theorem sameOpening_becomesReady (p : Picture) (m : List Byte) (h : SameOpening k c d) :
    SameOpening k c (becomesReady k p m d) := by
  have ready : SameOpening k c (recordReady k p m d) := sameOpening_modCtx h
  rw [becomesReady_eq]
  refine sameOpening_arbitrate ?_
  split
  · exact ready
  · obtain ⟨number, time, rate⟩ := sameOpening_modCtx (f := fun y => { y with overruns := bump y.overruns }) ready
    exact ⟨by rw [resolve_ctx, number], by rw [resolve_time, time], by rw [resolve_rate, rate]⟩

theorem sameOpening_endedDamaged (k : Ctx) (g : Gathering) (c : Chip) : SameOpening k c (endedDamaged k g c) :=
  sameOpening_becomesReady _ _ (sameOpening_modCtx ⟨rfl, rfl, rfl⟩)

/-- R47: the part once a start cell has ended the record that was gathering. -/
def freedFor (k : Ctx) (c : Chip) : Chip :=
  match c.ctx[k].gathering with
  | none => c
  | some g => endedDamaged k g c

theorem sameOpening_freedFor (k : Ctx) (c : Chip) : SameOpening k c (freedFor k c) := by
  unfold freedFor
  split
  · exact ⟨rfl, rfl, rfl⟩
  · exact sameOpening_endedDamaged ..

theorem openedRecord_of_same (h : SameOpening k c d) : openedRecord k n x d = openedRecord k n x c := by
  obtain ⟨number, time, rate⟩ := h
  simp only [openedRecord, number, time, rate]

/-! ## A VIDEO cell (R46 to R50) -/

theorem gatherCell_running (running : c.ctx[k].state = .running) : gatherCell k n x c =
    if x.start then startPicture k n x c
    else match c.ctx[k].gathering with
      | some g => joinPicture k g n x c
      | none => modCtx k (fun y => { y with orphans := bump y.orphans }) c := if_pos running

/-- R47: the part once a start cell has opened its record. -/
def openedFor (k : Ctx) (n : LaneNo) (x : Cell) (c : Chip) : Chip :=
  modCtx k (fun y => { y with
    gathering := some (openedRecord k n x c), nextNumber := y.nextNumber + 1, slices := bump y.slices }) (freedFor k c)

theorem startPicture_eq : startPicture k n x c = if x.stop then
    becomesReady k (openedRecord k n x c).picture x.payload (openedFor k n x c) else openedFor k n x c := by
  have start : startPicture k n x c = (
      let begun := modCtx k (fun y => { y with
        gathering := some (openedRecord k n x (freedFor k c)), nextNumber := y.nextNumber + 1, slices := bump y.slices })
          (freedFor k c)
      if x.stop then completePicture k (openedRecord k n x (freedFor k c)) begun else begun) := by
    unfold startPicture freedFor
    cases c.ctx[k].gathering with
    | none => rfl
    | some g =>
      dsimp only
      rw [endDamaged_eq]
  rw [start, openedRecord_of_same (sameOpening_freedFor k c)]
  dsimp only
  rw [completePicture_eq]
  rfl

/-- R48: a slice follows on by lane, stream and sequence. -/
theorem followsOn_eq (g : Gathering) (n : LaneNo) (x : Cell) :
    followsOn g n x = decide (g.lane = n ∧ g.stream = x.stream ∧ g.expected = x.sequence) := by
  simp only [followsOn, Bool.decide_and, Bool.and_assoc, beq_eq_decide]

/-- R48, R50: a slice that fits joins the record, which is marked DAMAGED, once, where it does not follow on. -/
theorem joinPicture_fits (follows : Bool) {g : Gathering} (fits : g.memory.length + x.payload.length ≤ 4194304)
    (continues : followsOn g n x = follows) :
    let joined : Gathering := { g with
      picture := { g.picture with damaged := g.picture.damaged || !follows }, expected := x.sequence + 1,
      fed := true, memory := g.memory ++ x.payload }
    let counted := modCtx k (fun y => { y with
      slices := bump y.slices, damagedPictures := bumpIf (!follows && !g.picture.damaged) y.damagedPictures }) c
    let begun := modCtx k (fun y => { y with gathering := some joined }) counted
    joinPicture k g n x c = if x.stop then completePicture k joined begun else begun := by
  intro joined counted begun
  have room : ¬pictureMemory < g.memory.length + x.payload.length := Nat.not_lt.mpr fits
  have same : modCtx k (fun _ => { (damageIf (!follows) { g with
        fed := true, expected := x.sequence + 1, memory := g.memory ++ x.payload }
      { c.ctx[k] with slices := bump c.ctx[k].slices }).2 with gathering := some joined }) c = begun := by
    unfold begun counted
    rw [modCtx_modCtx]
    refine modCtx_congr ?_
    cases follows
    all_goals rfl
  have record : (damageIf (!follows) { g with
        fed := true, expected := x.sequence + 1, memory := g.memory ++ x.payload }
      { c.ctx[k] with slices := bump c.ctx[k].slices }).1 = joined := by
    unfold joined
    cases follows
    · simp [damageIf, markDamaged]
    · simp [damageIf]
  unfold joinPicture
  dsimp only
  rw [if_neg room, continues, record, same]

/-- R50: a slice that picture memory cannot hold is counted, and ends the record DAMAGED. -/
theorem joinPicture_full {g : Gathering} (full : ¬g.memory.length + x.payload.length ≤ 4194304) :
    joinPicture k g n x c = endedDamaged k g (modCtx k (fun y => { y with slices := bump y.slices }) c) := by
  have past : pictureMemory < g.memory.length + x.payload.length := Nat.lt_of_not_le full
  have marked : modCtx k (fun _ => (damageIf true { g with fed := true }
        { c.ctx[k] with slices := bump c.ctx[k].slices }).2) c
      = modCtx k (fun y => { y with damagedPictures := bumpIf (!g.picture.damaged) y.damagedPictures })
          (modCtx k (fun y => { y with slices := bump y.slices }) c) := by
    rw [modCtx_modCtx]
    exact modCtx_congr rfl
  unfold joinPicture endedDamaged
  dsimp only
  rw [if_pos past, completePicture_eq, marked]
  rfl

/-- R50: a completed record leaves the gathering slot, whatever stood there. -/
theorem completePicture_gathering {g g' : Gathering} :
    completePicture k g (modCtx k (fun y => { y with gathering := some g' }) c)
      = becomesReady k g.picture g.memory c := by
  have same : recordReady k g.picture g.memory (modCtx k (fun y => { y with gathering := some g' }) c)
      = recordReady k g.picture g.memory c := by
    rw [recordReady, modCtx_modCtx]
    exact modCtx_congr rfl
  rw [completePicture_eq, becomesReady_eq, same, modCtx_get_same, becomesReady_eq]

/-- R51, R52: a record that completes with the engine idle and no other record is granted at once. -/
theorem becomesReady_idle {p : Picture} {m : List Byte} (idle : c.engine.op = none)
    (unready : ∀ j : Ctx, c.ctx[j].ready = none) :
    becomesReady k p m c = granted k ⟨p, m⟩ (recordReady k p m c) := by
  have only : ∀ j : Ctx, j ≠ k → (recordReady k p m c).ctx[j].ready = none := fun j other => by
    rw [recordReady, modCtx_ctx, modAt_get_other _ _ other, unready]
  have ready : (recordReady k p m c).ctx[k].ready = some ⟨p, m⟩ := by
    rw [recordReady, modCtx_get_same]
  rw [becomesReady_eq, unready k]
  by_cases onAir : c.sel.programme = some k
  · exact arbitrate_programme idle ready onAir
  · refine arbitrate_rotated idle ready (fun j programme => only j fun e => onAir (e ▸ programme)) ?_
    refine find?_rotation ((hasReady_iff _ _).mpr (by rw [ready]; nofun)) fun j waits => ?_
    by_cases e : j = k
    · rw [e]
    · exact absurd (only j e) ((hasReady_iff _ _).mp waits)

/-- Settles O22: the cell's cases, by the context's state, the start flag and the gathering record. -/
theorem gathererTakesVideoCells : Obligations.GathererTakesVideoCells := by
  unfold Obligations.GathererTakesVideoCells
  intro k n x c
  refine ⟨fun other => if_neg other, fun running continues empty => ?_, fun running starts => ?_,
    fun g running continues held => ?_, fun running starts empty stops idle unready => ?_⟩
  · rw [gatherCell_running running, if_neg (by rw [continues]; nofun), empty]
  · have starting : gatherCell k n x c = startPicture k n x c := by rw [gatherCell_running running, if_pos starts]
    refine ⟨(sameOpening_freedFor k c).number, fun goesOn => ?_, fun stops => ?_⟩
    · rw [starting, startPicture_eq, if_neg (by rw [goesOn]; nofun)]
      rfl
    · rw [starting, startPicture_eq, if_pos stops]
      rfl
  · have joins : gatherCell k n x c = joinPicture k g n x c := by
      rw [gatherCell_running running, if_neg (by rw [continues]; nofun), held]
    refine ⟨fun fits goesOn => ?_, fun fits stops => ?_, fun full => ?_⟩
    · rw [joins, joinPicture_fits _ fits (followsOn_eq g n x), if_neg (by rw [goesOn]; nofun)]
    · rw [joins, joinPicture_fits _ fits (followsOn_eq g n x), if_pos stops, completePicture_gathering]
    · rw [joins, joinPicture_full full]
  · have freed : freedFor k c = c := by rw [freedFor, empty]
    have unready' : ∀ j : Ctx, (openedFor k n x c).ctx[j].ready = none := fun j => by
      rw [openedFor, freed, modCtx_ctx, modAt_get]
      split
      all_goals exact unready j
    have idle' : (openedFor k n x c).engine.op = none := by
      rw [openedFor, freed]
      exact idle
    rw [gatherCell_running running, if_pos starts, startPicture_eq, if_pos stops, becomesReady_idle idle' unready',
      openedFor, freed]
    have left : modAt c.ctx k (fun y => { y with
          gathering := none, ready := none, nextNumber := y.nextNumber + 1, slices := bump y.slices,
          completed := bump y.completed })
        = modAt c.ctx k (fun y => { y with
          nextNumber := y.nextNumber + 1, slices := bump y.slices, completed := bump y.completed }) :=
      modAt_congr (by rw [empty, unready])
    simp only [granted, recordReady, modCtx, modAt_modAt, left]
    rfl

end Sys2Proof.CodingRoom

end


section
/-! A coding completion (R52, R66 to R70, R140): the judgement, the quantiser step and the video queue. -/

namespace Sys2Proof.CodingRoom

open Sys2Proof.Machine Sys2Proof.Safety Sys2Proof.Claims Sys2Proof.Clockwork

/-! ## The judgement (R67) -/

theorem judge_reservoir {r : RateState} {e queued : Nat} (above : r.size + r.target < r.fill + e) :
    judge r e queued = .reservoir := if_pos above

theorem judge_queueFull {r : RateState} {e queued : Nat} (holds : r.fill + e ≤ r.size + r.target) (full : 8 ≤ queued) :
    judge r e queued = .queueFull := by
  rw [judge, if_neg (Nat.not_lt.mpr holds), if_pos full]

theorem judge_accepted {r : RateState} {e queued : Nat} (holds : r.fill + e ≤ r.size + r.target) (room : ¬8 ≤ queued) :
    judge r e queued = .accepted := by
  rw [judge, if_neg (Nat.not_lt.mpr holds), if_neg room]

/-! ## The next quantiser index (R69, R70) -/

theorem clampInt_eq {x lo hi : Int} (h : lo ≤ hi) : clampInt x lo hi = max lo (min hi x) := by
  unfold clampInt
  split
  · omega
  · split
    all_goals omega

/-- R70: after an acceptance the index is the one that the curve at the new fill calls for. -/
theorem qAfterAccept_eq {r : RateState} (h : RateOk r) (f : Nat) (n : Counter) (programme : Bool) :
    (qAfterAccept { r with fill := f, accepted := n } programme : Int) = nextIndex r f programme := by
  obtain ⟨low, high⟩ := rateOk_index h
  have range := qAfterAccept_mem (r := { r with fill := f, accepted := n }) ⟨low, high⟩ programme
  have target : curveTarget { r with fill := f, accepted := n } = curveIndex r f := by
    unfold curveTarget curveIndex curveAt
    rfl
  have shape : (r.shape.qMin : Int) ≤ r.shape.qMax := by omega
  have slew : -(r.settings.slew : Int) ≤ r.settings.slew := by omega
  unfold qAfterAccept nextIndex at *
  dsimp only at *
  rw [target, clampInt_eq shape, clampInt_eq slew] at *
  omega

/-! ## The completion (R52) -/

/-- R52: the part once the engine has ended its operation. -/
def freedEngine (c : Chip) : Chip :=
  { c with engine := { c.engine with op := none, completions := bump c.engine.completions } }

theorem codingDone_of_size {o : Coding} {coded : List Byte} {c : Chip} (op : c.engine.op = some o)
    (least : 64 ≤ coded.length) (most : coded.length ≤ 4194304) : codingDone coded c = arbitrate (takeCoded o coded (freedEngine c)) := by
  have size : codedSizeOk coded = true := by simp [codedSizeOk, least, most]
  rw [codingDone, op]
  exact if_pos size

theorem codingDone_of_none {coded : List Byte} {c : Chip}
    (h : c.engine.op = none ∨ coded.length < 64 ∨ 4194304 < coded.length) : codingDone coded c = c := by
  unfold codingDone
  split
  · rfl
  · rename_i op
    obtain idle | short | long := h
    · rw [idle] at op
      cases op
    all_goals exact if_neg (by simp [codedSizeOk]; omega)

theorem modRate_eq {k : Ctx} {f : RateState → RateState} {d : Chip} {v : Vector RateState 6} (rate : d.rate = v) :
    modRate k f d = { d with rate := setAt v k (f v[k]) } := by
  subst rate
  rfl

/-- Settles O28: the judgement's three cases, and the step of the rate state in each. -/
theorem codingCompletionIsJudged : Obligations.CodingCompletionIsJudged := by
  unfold Obligations.CodingCompletionIsJudged
  intro coded s
  refine ⟨fun idle => ends_of_work rfl (codingDone_of_none idle), fun o op least most rates => ?_⟩
  intro k r n e full idle shed q
  have done : ∀ {d : Chip}, takeCoded o coded (freedEngine s.chip) = d →
      Ends (.codingCompletion coded) s (arbitrate d) := fun taken =>
    ends_of_work rfl (by rw [codingDone_of_size op least most, taken])
  have taken : ∀ {v : Verdict}, judge r e s.chip.sched.videoQueue[k].length = v →
      takeCoded o coded (freedEngine s.chip) = modRate k (fun r => rateStep r e v o.programme)
        (settleVerdict o coded v idle) := fun v => by
    subst v
    rfl
  have shedRate : ∀ reason, (shed reason).rate = s.chip.rate := fun reason => resolve_rate ..
  have index : (modRate k (fun r => rateStep r e .accepted o.programme)
      (settleVerdict o coded .accepted idle)).rate[k].q
      = qAfterAccept { r with fill := r.fill + e - r.target, accepted := bump r.accepted } o.programme :=
    congrArg RateState.q (modAt_get_same ..)
  refine ⟨fun above => done ?_, fun holds queued => done ?_, fun holds room =>
    ⟨_, done (taken (judge_accepted holds room)), ?_, ?_⟩⟩
  · rw [taken (judge_reservoir above)]
    exact modRate_eq (shedRate .reservoir)
  · rw [taken (judge_queueFull holds queued)]
    exact modRate_eq (shedRate .queueFull)
  · rw [index]
    exact qAfterAccept_eq (rates k) ..
  · rw [index]
    rfl

end Sys2Proof.CodingRoom

end


section
/-! Acknowledgement (R142 to R144, R150, R154, R167): an entry that leaves the awaiting list or the resend queue is
settled, or sent again. -/

namespace Sys2Proof.CodingRoom

open Sys2Proof.Machine Sys2Proof.Safety Sys2Proof.Claims Sys2Proof.Clockwork

variable {c d : Chip}

/-! ## An entry taken from a list (R142) -/

theorem takeFirst_append {α : Type} {p : α → Bool} {before after : List α} {x : α} (hx : p x = true)
    (first : ∀ y ∈ before, p y = false) : takeFirst p (before ++ x :: after) = some (x, before ++ after) := by
  induction before with
  | nil => exact if_pos hx
  | cons y before ih =>
    have miss : ¬p y = true := by rw [first y (.head _)]; nofun
    rw [List.cons_append, takeFirst, if_neg miss, ih fun z hz => first z (.tail _ hz)]
    rfl

theorem takeFirst_leaves {n : FrameNum} {e : Entry} {l rest : List Entry} (h : Leaves n e l rest) :
    takeFirst (fun x => x.frame == n) l = some (e, rest) := by
  obtain ⟨before, after, rfl, rfl, number, first⟩ := h
  exact takeFirst_append (beq_iff_eq.mpr number) fun y hy => beq_eq_false_iff_ne.mpr (first y hy)

theorem takeFirst_misses {n : FrameNum} {l : List Entry} (h : ∀ e ∈ l, e.frame ≠ n) :
    takeFirst (fun x => x.frame == n) l = none :=
  takeFirst_none.mpr fun e he => beq_eq_false_iff_ne.mpr (h e he)

/-! ## Settlement (R144) -/

theorem checkDrain_eq (c : Chip) : checkDrain c = drainedOut c := by
  simp only [checkDrain, drainedOut, listsEmpty, Bool.and_eq_true, decide_eq_true_eq, List.isEmpty_iff]

theorem settleFragment_picture (delivered : Bool) (q : Queued) : (settleFragment delivered q).picture = q.picture := by
  cases delivered
  all_goals rfl

theorem settle_video {delivered : Bool} {e : Entry} {k : Ctx} {p : PicNum} {j : Nat} (origin : e.origin = .video k p j) :
    settle delivered e c = changeQueued k p (settleFragment delivered) (countLost delivered c) := by
  rw [settle, origin]

theorem settle_label {delivered : Bool} {e : Entry} {i : Nat} {v : Byte} (origin : e.origin = .label i v) :
    settle delivered e c = settleLabel delivered i v e.sendCount (countLost delivered c) := by
  rw [settle, origin]

theorem clipAt_written {i : Nat} {x y : Clip} (held : clipAt c.clips i = some x) :
    clipAt (written i y c).clips i = some y := by
  have bound : i < 128 := by
    by_contra past
    rw [clipAt, Vector.getElem?_eq_none (Nat.le_of_not_lt past)] at held
    cases held
  simp [clipAt, written, bound]

/-- R154: the log takes the id and the in timecode of the clip as it stands. -/
theorem logLabel_of_clip {delivered : Bool} {i : Nat} {v : Byte} {sends : Nat} {x y : Clip}
    (held : clipAt c.clips i = some y) (id : y.id = x.id) (timecode : y.inTimecode = x.inTimecode) :
    logLabel delivered i v sends c = labelLogged delivered i v x sends c := by
  rw [logLabel, held]
  dsimp only [Option.elim]
  rw [id, timecode]
  rfl

/-- R167: a label lost. -/
theorem labelLost_awaiting {i : Nat} {x : Clip} (held : clipAt c.clips i = some x) (awaiting : x.state = .awaiting) :
    labelLost i c = setAttention [.clipTrouble] (written i { x with state := .closed, labelLost := true }
      { c with clips := { c.clips with labelsLost := bump c.clips.labelsLost } }) := by
  rw [labelLost, held]
  exact if_pos awaiting

/-- R167: a label delivered with its clip's pictures done. -/
theorem labelDelivered_done {i : Nat} {x : Clip} (held : clipAt c.clips i = some x) (awaiting : x.state = .awaiting)
    (done : x.done = some true) :
    labelDelivered i c = setAttention [.clipDelivered] (written i { x with state := .delivered, labelLost := false }
      { c with clips := { c.clips with delivered := bump c.clips.delivered } }) := by
  rw [labelDelivered, held]
  dsimp only
  rw [if_pos awaiting, if_pos done, countDelivered, bumpBy_one]
  rfl

/-- R167: a label delivered with its clip's pictures not done. -/
theorem labelDelivered_pending {i : Nat} {x : Clip} (held : clipAt c.clips i = some x) (awaiting : x.state = .awaiting)
    (pending : ¬x.done = some true) :
    labelDelivered i c = written i { x with state := .labelled, labelLost := false } c := by
  rw [labelDelivered, held]
  dsimp only
  rw [if_pos awaiting, if_neg pending]
  rfl

theorem clipAt_setAttention (as : List AttClass) (i : Nat) (c : Chip) :
    clipAt (setAttention as c).clips i = clipAt c.clips i := by rw [setAttention_clips]

/-- R144, R154, R167. -/
theorem settled_label {delivered : Bool} {i : Nat} {v : Byte} {x : Clip} (sends : Nat)
    (held : clipAt c.clips i = some x) (awaiting : x.state = .awaiting) :
    settleLabel delivered i v sends c = labelLogged delivered i v x sends
      (if delivered = false then setAttention [.clipTrouble] (written i { x with state := .closed, labelLost := true }
          { c with clips := { c.clips with labelsLost := bump c.clips.labelsLost } })
       else if x.done = some true then
        setAttention [.clipDelivered] (written i { x with state := .delivered, labelLost := false }
          { c with clips := { c.clips with delivered := bump c.clips.delivered } })
       else written i { x with state := .labelled, labelLost := false } c) := by
  unfold settleLabel
  cases delivered with
  | false =>
    have now := clipAt_written (c := { c with clips := { c.clips with labelsLost := bump c.clips.labelsLost } })
      (y := { x with state := .closed, labelLost := true }) held
    rw [if_neg Bool.false_ne_true, if_pos rfl, labelLost_awaiting held awaiting]
    exact logLabel_of_clip ((clipAt_setAttention ..).trans now) rfl rfl
  | true =>
    rw [if_pos rfl, if_neg (by nofun)]
    by_cases done : x.done = some true
    · have now := clipAt_written (c := { c with clips := { c.clips with delivered := bump c.clips.delivered } })
        (y := { x with state := .delivered, labelLost := false }) held
      rw [if_pos done, labelDelivered_done held awaiting done]
      exact logLabel_of_clip ((clipAt_setAttention ..).trans now) rfl rfl
    · rw [if_neg done, labelDelivered_pending held awaiting done]
      exact logLabel_of_clip (clipAt_written held) rfl rfl

theorem countLost_true (c : Chip) : countLost true c = c := rfl

theorem countLost_false (c : Chip) : countLost false c =
    { c with sched := { c.sched with entriesLost := bump c.sched.entriesLost } } := rfl

/-- R144: what settling an entry makes of the part, the entry counted where it is lost. -/
theorem settled_settle (delivered : Bool) (e : Entry) (c : Chip) :
    Settled delivered e (countLost delivered c) (settle delivered e c) := by
  refine ⟨fun k p j q origin queued => ?_, fun k p j origin unqueued => ?_, fun i v x origin held awaiting => ?_⟩
  · rw [settle_video origin]
    exact changeQueued_found (settleFragment_picture delivered) queued
  · rw [settle_video origin]
    exact changeQueued_none _ (Option.eq_none_iff_forall_ne_some.mpr unqueued)
  · rw [settle_label origin]
    exact settled_label e.sendCount held awaiting

/-! ## The expiry of an ack window (R143) -/

theorem resendable_iff (e : Entry) (c : Chip) : resendable e c = true ↔ e.sendCount = 1 ∧
    ((∃ i v, e.origin = .label i v) ∨ ∃ k p j q, e.origin = .video k p j ∧ QueuedAs c k p q ∧ q.late = false) := by
  rw [resendable, Bool.and_eq_true, beq_iff_eq]
  refine and_congr_right fun _ => ?_
  cases origin : e.origin with
  | label i v => exact ⟨fun _ => .inl ⟨i, v, rfl⟩, fun _ => rfl⟩
  | video k p j =>
    dsimp only
    constructor
    · intro useful
      split at useful
      · rename_i q queued
        exact .inr ⟨k, p, j, q, rfl, queued, by simpa using useful⟩
      · cases useful
    · rintro (⟨i, v, label⟩ | ⟨k', p', j', q, video, queued, punctual⟩)
      · cases label
      · cases video
        have found : findQueued k p c = some q := queued
        rw [found]
        simp [punctual]

/-- Settles O41: the entry taken from its list, and then settled or sent again. -/
theorem acknowledgedFramesSettleOrExpire : Obligations.AcknowledgedFramesSettleOrExpire := by
  unfold Obligations.AcknowledgedFramesSettleOrExpire
  refine ⟨fun n c => ⟨fun stray => ?_, fun e a r leaves => ?_⟩, fun n s => ⟨fun stray => ?_, fun e rest leaves => ?_⟩⟩
  · rw [ackFrame, takeFirst_misses fun e he => stray e (List.mem_append_left _ he),
      takeFirst_misses fun e he => stray e (List.mem_append_right _ he)]
    rfl
  · have settled := settled_settle true e { c with sched := { c.sched with
      awaiting := a, resend := r, matchedAcks := bump c.sched.matchedAcks } }
    rw [countLost_true] at settled
    refine ⟨_, ?_, settled⟩
    rw [← checkDrain_eq, ackFrame]
    obtain ⟨leaves, rfl⟩ | ⟨misses, rfl, leaves⟩ := leaves
    · rw [takeFirst_leaves leaves]
      rfl
    · rw [takeFirst_misses misses, takeFirst_leaves leaves]
      rfl
  · refine ends_of_work rfl ?_
    rw [ackExpiry, takeFirst_misses stray]
  · intro again useful
    have expires : ackExpiry n s.chip = expire e (modSched (fun l => { l with awaiting := rest }) s.chip) := by
      rw [ackExpiry, takeFirst_leaves leaves]
    have same : resendable e (modSched (fun l => { l with awaiting := rest }) s.chip) = true ↔ useful :=
      resendable_iff e _
    have settled := settled_settle false e (modSched (fun l => { l with awaiting := rest }) s.chip)
    rw [countLost_false] at settled
    refine ⟨fun goes => ends_of_work rfl ?_, fun lost => ⟨_, ends_of_work rfl ?_, settled⟩⟩
    · rw [expires, expire, if_pos (same.mpr goes)]
      rfl
    · rw [expires, expire, if_neg fun goes => lost (same.mp goes)]
      exact checkDrain_eq _

end Sys2Proof.CodingRoom

end


section
/-! A picture's deadline (R145, R149 to R151): the unsent fragments withdrawn, the entries that wait for a resend lost one
after another, and the resolution. -/

namespace Sys2Proof.CodingRoom

open Sys2Proof.Machine Sys2Proof.Safety Sys2Proof.Claims Sys2Proof.Clockwork

variable {c d : Chip} {k : Ctx} {p : PicNum} {q : Queued} {f g : Queued → Queued}

/-! ## One record changed (R140, R150) -/

/-- R140: the counts of a queued record changed in its place. -/
def inPlace (k : Ctx) (p : PicNum) (f : Queued → Queued) (c : Chip) : Chip := modVideo k (List.map (changed p f)) c

/-- A record with a fragment outstanding stands in its place. -/
theorem recordChanged_outstanding (stands : (f q).outstanding ≠ 0) : recordChanged k p f q c = inPlace k p f c :=
  if_neg fun resolves => stands resolves.1

theorem queuedAs_inPlace (picture : ∀ r, (f r).picture = r.picture) (queued : QueuedAs c k p q) :
    QueuedAs (inPlace k p f c) k p (f q) := by
  unfold QueuedAs at queued ⊢
  rw [inPlace, modVideo_sched, modAt_get_same, find_changed picture, queued]
  rfl

theorem changed_changed (picture : ∀ r, (f r).picture = r.picture) (n : PicNum) :
    changed n g ∘ changed n f = changed n (fun r => g (f r)) := by
  funext r
  by_cases hit : r.picture.number = n
  · have still : (f r).picture.number = n := by rw [picture, hit]
    rw [Function.comp_apply, changed_hit f hit, changed_hit g still, changed_hit _ hit]
  · rw [Function.comp_apply, changed_miss f hit, changed_miss g hit, changed_miss _ hit]

/-- Two changes of a record, of which the first left it in its place, are one. -/
theorem recordChanged_inPlace (picture : ∀ r, (f r).picture = r.picture) :
    recordChanged k p g (f q) (inPlace k p f c) = recordChanged k p (fun r => g (f r)) q c := by
  have left : modAt (inPlace k p f c).sched.videoQueue k (fun v => v.filter fun r => r.picture.number != p)
      = modAt c.sched.videoQueue k (fun v => v.filter fun r => r.picture.number != p) := by
    rw [inPlace, modVideo_sched, modAt_modAt]
    exact modAt_congr (filter_changed picture p _)
  have kept : modAt (inPlace k p f c).sched.videoQueue k (List.map (changed p g))
      = modAt c.sched.videoQueue k (List.map (changed p fun r => g (f r))) := by
    rw [inPlace, modVideo_sched, modAt_modAt]
    refine modAt_congr ?_
    rw [List.map_map, changed_changed picture]
  unfold recordChanged
  dsimp only
  split
  · rw [left]
    rfl
  · exact congrArg (fun v => { c with sched := { c.sched with videoQueue := v } }) kept

/-! ## The entries that wait for a resend (R144, R145) -/

/-- R144: a record with m of its outstanding fragments lost. -/
def lostFragments (m : Nat) (r : Queued) : Queued := { r with lost := r.lost + m, outstanding := r.outstanding - m }

theorem lostFragments_picture (m : Nat) (r : Queued) : (lostFragments m r).picture = r.picture := rfl

theorem lostFragments_lostFragments (m n : Nat) (r : Queued) :
    lostFragments m (lostFragments n r) = lostFragments (n + m) r := by
  simp only [lostFragments, Nat.add_assoc, Nat.sub_sub]

/-- R145: the resend queue without a picture's m entries, each counted as lost. -/
def withoutResends (k : Ctx) (p : PicNum) (m : Nat) (c : Chip) : Chip :=
  { c with sched := { c.sched with
      resend := c.sched.resend.filter (fun e => !isOf k p e), entriesLost := bumpBy m c.sched.entriesLost } }

/-- R144: the resend queue without one entry, which is counted as lost. -/
def oneLost (rest : List Entry) (c : Chip) : Chip :=
  { c with sched := { c.sched with resend := rest, entriesLost := bump c.sched.entriesLost } }

theorem withoutResends_oneLost {rest : List Entry} (m : Nat)
    (others : rest.filter (fun x => !isOf k p x) = c.sched.resend.filter (fun x => !isOf k p x)) :
    withoutResends k p m (inPlace k p f (oneLost rest c)) = inPlace k p f (withoutResends k p (1 + m) c) := by
  simp only [withoutResends, inPlace, modVideo, oneLost, others, ← bumpBy_one, bumpBy_add]

theorem withoutResends_inPlace (m : Nat) :
    withoutResends k p m (inPlace k p f c) = inPlace k p f (withoutResends k p m c) := rfl

theorem isOf_iff (e : Entry) : isOf k p e = true ↔ ∃ j, e.origin = .video k p j := by
  unfold isOf
  split
  · rename_i k' p' j origin
    simp only [Bool.and_eq_true, beq_iff_eq, origin, Origin.video.injEq, exists_and_left, exists_eq', and_true]
  · rename_i origin
    simp [origin]

/-- R144: the first of a picture's entries leaves the resend queue, and is settled as lost. -/
theorem loseResend_first {e : Entry} {l : List Entry} (own : c.sched.resend.filter (isOf k p) = e :: l)
    (queued : QueuedAs c k p q) : ∃ rest : List Entry, rest.filter (isOf k p) = l ∧
      rest.filter (fun x => !isOf k p x) = c.sched.resend.filter (fun x => !isOf k p x) ∧
      loseResend e c = drainedOut (recordChanged k p (lostFragments 1) q (oneLost rest c)) := by
  obtain ⟨before, after, resend, others, of, left⟩ := List.filter_eq_cons_iff.mp own
  obtain ⟨j, origin⟩ := (isOf_iff e).mp of
  have taken : takeFirst (fun x => x == e) c.sched.resend = some (e, before ++ after) := by
    rw [resend]
    refine takeFirst_append (beq_self_eq_true e) fun x hx => beq_eq_false_iff_ne.mpr fun same => others x hx (same ▸ of)
  refine ⟨before ++ after, ?_, ?_, ?_⟩
  · rw [List.filter_append, List.filter_eq_nil_iff.mpr others, left, List.nil_append]
  · rw [resend, List.filter_append, List.filter_append, List.filter_cons_of_neg (by simp [of])]
  · rw [loseResend, taken]
    dsimp only
    rw [checkDrain_eq, settle_video origin]
    exact congrArg drainedOut (changeQueued_found (settleFragment_picture false) queued)

/-- R123: a drain does not end while an entry waits for a resend. -/
theorem drainedOut_waiting (h : c.sched.resend ≠ []) : drainedOut c = c := if_neg fun ends => h ends.2.2

/-- R144, R145: a late picture's entries lost in turn, the drain ending with the last at the earliest. -/
theorem loseResends {l : List Entry} (own : c.sched.resend.filter (isOf k p) = l) (queued : QueuedAs c k p q)
    (least : 1 ≤ l.length) (sent : l.length ≤ q.outstanding) : l.foldl (fun d e => loseResend e d) c
      = drainedOut (recordChanged k p (lostFragments l.length) q (withoutResends k p l.length c)) := by
  induction l generalizing c q with
  | nil => exact absurd least (by decide)
  | cons e l ih =>
    obtain ⟨rest, left, others, first⟩ := loseResend_first own queued
    rw [List.foldl_cons, first]
    cases l with
    | nil =>
      have all : rest = c.sched.resend.filter (fun x => !isOf k p x) := by
        rw [← others, eq_comm, List.filter_eq_self]
        intro x hx
        simpa using List.filter_eq_nil_iff.mp left x hx
      rw [List.foldl_nil, all, List.length_singleton, withoutResends, bumpBy_one]
      rfl
    | cons e' l =>
      have waits : rest ≠ [] := fun empty => by
        rw [empty] at left
        cases left
      have stands : (lostFragments 1 q).outstanding ≠ 0 := by
        simp only [lostFragments, List.length_cons] at sent ⊢
        omega
      have still : drainedOut (inPlace k p (lostFragments 1) (oneLost rest c))
          = inPlace k p (lostFragments 1) (oneLost rest c) := drainedOut_waiting waits
      have next := queuedAs_inPlace (c := oneLost rest c) (lostFragments_picture 1) queued
      have counts : (fun r => lostFragments (e' :: l).length (lostFragments 1 r))
          = lostFragments (e :: e' :: l).length := by
        funext r
        rw [lostFragments_lostFragments, List.length_cons (a := e), Nat.add_comm]
      have covers : (e' :: l).length ≤ (lostFragments 1 q).outstanding := by
        simp only [lostFragments, List.length_cons] at sent ⊢
        omega
      rw [recordChanged_outstanding stands, still, ih left next (by simp) covers, withoutResends_oneLost _ others,
        recordChanged_inPlace (lostFragments_picture 1), counts, List.length_cons (a := e), Nat.add_comm]

/-! ## What a resolution counts and sets (R151, R156) -/

theorem clipsTakePicture_acct (k : Ctx) (n : PicNum) (bad : Bool) (lw : PicNum) (c : Chip) :
    (clipsTakePicture k n bad lw c).acct = c.acct := by rw [clipsTakePicture_frame]

theorem setLowWater_outcomes (k : Ctx) (c : Chip) : (setLowWater k c).acct.outcomes = c.acct.outcomes := rfl

theorem writeLog_outcomes (e : LogEntry) (c : Chip) : (writeLog e c).acct.outcomes = c.acct.outcomes := by
  unfold writeLog
  split
  · rfl
  · rw [setAttention_acct]

theorem resolve_outcomes (r : Picture) (u : Option Nat) (sends : Nat) (o : PicOutcome) (c : Chip) :
    (resolve r u sends o c).acct.outcomes = modAt c.acct.outcomes r.ctx (countOutcome o) := by
  have taken : ∀ lw d, (clipsTakePicture r.ctx r.number (isLoss o) lw
      (setLowWater r.ctx (setAttention (outcomeAttention o) d))).acct.outcomes = d.acct.outcomes := fun lw d => by
    rw [clipsTakePicture_acct, setLowWater_outcomes, setAttention_acct]
  unfold resolve
  dsimp only
  split
  · rw [writeLog_outcomes, taken]
  · rw [taken]

theorem attHas_countDelivered {a : AttClass} (n : Nat) (h : attHas c.port.attention a = true) :
    attHas (countDelivered n c).port.attention a = true := by
  unfold countDelivered setAttentionIf
  split
  · exact (attHas_setAttention ..).mpr (.inl h)
  · exact h

theorem attHas_clipsTakePicture {a : AttClass} (k : Ctx) (n : PicNum) (bad : Bool) (lw : PicNum)
    (h : attHas c.port.attention a = true) : attHas (clipsTakePicture k n bad lw c).port.attention a = true := by
  cases bad
  all_goals exact attHas_countDelivered _ h

/-- R151, step 3. -/
theorem attHas_resolve {a : AttClass} {r : Picture} {u : Option Nat} {sends : Nat} {o : PicOutcome}
    (h : a ∈ outcomeAttention o) : attHas (resolve r u sends o c).port.attention a = true := by
  have told : ∀ lw d, attHas (clipsTakePicture r.ctx r.number (isLoss o) lw
      (setLowWater r.ctx (setAttention (outcomeAttention o) d))).port.attention a = true := fun lw d =>
    attHas_clipsTakePicture _ _ _ _ ((attHas_setAttention ..).mpr (.inr h))
  unfold resolve
  dsimp only
  split
  · unfold writeLog
    split
    · exact told _ _
    · exact (attHas_setAttention ..).mpr (.inl (told _ _))
  · exact told _ _

theorem stoppedIfEmpty_keeps (k : Ctx) (c : Chip) : (stoppedIfEmpty k c).sched = c.sched ∧
    (stoppedIfEmpty k c).acct = c.acct ∧ (stoppedIfEmpty k c).port = c.port ∧ (stoppedIfEmpty k c).link = c.link := by
  unfold stoppedIfEmpty
  split
  all_goals exact ⟨rfl, rfl, rfl, rfl⟩

theorem recordChanged_link (k : Ctx) (p : PicNum) (f : Queued → Queued) (q : Queued) (c : Chip) :
    (recordChanged k p f q c).link = c.link := by
  unfold recordChanged
  dsimp only
  split
  · obtain ⟨-, -, -, link⟩ := stoppedIfEmpty_keeps k (resolve (f q).picture (some (f q).qUsed) (f q).highestSend
      (outcomeOf (f q)) (modVideo k (fun v => v.filter (fun x => x.picture.number != p)) c))
    exact link.trans (resolve_link ..)
  · rfl

/-- R150, R151, R156: a record resolved SHED(LATE). -/
theorem recordChanged_late (outstanding : (f q).outstanding = 0)
    (unsent : (f q).fragments - (f q).sent - (f q).withdrawn = 0) (late : 1 ≤ (f q).withdrawn) :
    let d := recordChanged k p f q c
    d.sched.videoQueue[k] = c.sched.videoQueue[k].filter (fun r => r.picture.number != p) ∧
      d.acct.outcomes = modAt c.acct.outcomes (f q).picture.ctx (countOutcome (.shed .late)) ∧
      attHas d.port.attention .pictureShed = true := by
  intro d
  have resolved : d = stoppedIfEmpty k (resolve (f q).picture (some (f q).qUsed) (f q).highestSend (.shed .late)
      (modVideo k (fun v => v.filter (fun x => x.picture.number != p)) c)) := by
    have outcome : outcomeOf (f q) = .shed .late := if_pos late
    unfold d recordChanged
    dsimp only
    rw [if_pos ⟨outstanding, unsent⟩, outcome]
    rfl
  obtain ⟨sched, acct, port, -⟩ := stoppedIfEmpty_keeps k (resolve (f q).picture (some (f q).qUsed) (f q).highestSend
    (.shed .late) (modVideo k (fun v => v.filter (fun x => x.picture.number != p)) c))
  rw [resolved, sched, acct, port, resolve_sched, modVideo_sched, modAt_get_same, resolve_outcomes]
  exact ⟨rfl, rfl, attHas_resolve (.head _)⟩

/-! ## The deadline (R145) -/

/-- R145: the withdrawn fragments of a picture counted. -/
def withdrawalCounted (q : Queued) (c : Chip) : Chip :=
  { c with sched := { c.sched with fragmentsWithdrawn := bumpBy (unsent q) c.sched.fragmentsWithdrawn } }

theorem withdrawUnsent_picture (r : Queued) : (withdrawUnsent r).picture = r.picture := rfl

/-- R145: the record of a picture whose deadline has passed with m entries in the resend queue. -/
def madeLate (m : Nat) (r : Queued) : Queued := lostFragments m (withdrawUnsent r)

theorem madeLate_unsent (m : Nat) (r : Queued) :
    (madeLate m r).fragments - (madeLate m r).sent - (madeLate m r).withdrawn = 0 := by
  simp only [madeLate, lostFragments, withdrawUnsent, unsent]
  omega

/-- R145: the part after a picture's deadline, but for the end of a drain. -/
def afterDeadline (k : Ctx) (p : PicNum) (m : Nat) (q : Queued) (c : Chip) : Chip :=
  recordChanged k p (madeLate m) q (withoutResends k p m (withdrawalCounted q c))

theorem deadlinePasses_still (still : ∀ q, QueuedAs c k p q → q.late = true) : deadlinePasses k p c = c := by
  unfold deadlinePasses
  split
  · rename_i q found
    exact if_pos (still q found)
  · rfl

theorem deadlinePasses_punctual (queued : QueuedAs c k p q) (punctual : q.late = false) :
    deadlinePasses k p c = (c.sched.resend.filter (isOf k p)).foldl (fun d e => loseResend e d)
      (recordChanged k p withdrawUnsent q (withdrawalCounted q c)) := by
  have found : findQueued k p c = some q := queued
  have number : q.picture.number = p := by simpa using List.find?_some found
  have withdrawn : changeQueued k p withdrawUnsent (withdrawalCounted q c)
      = recordChanged k p withdrawUnsent q (withdrawalCounted q c) :=
    changeQueued_found withdrawUnsent_picture queued
  rw [deadlinePasses, found]
  dsimp only
  rw [if_neg (by rw [punctual]; nofun), makeLate, number, ← withdrawn]
  rfl

theorem deadlinePasses_unresent (queued : QueuedAs c k p q) (punctual : q.late = false)
    (empty : c.sched.resend.filter (isOf k p) = []) : deadlinePasses k p c = afterDeadline k p 0 q c := by
  have all : c.sched.resend.filter (fun e => !isOf k p e) = c.sched.resend := by
    rw [List.filter_eq_self]
    intro e he
    simpa using List.filter_eq_nil_iff.mp empty e he
  have same : withoutResends k p 0 (withdrawalCounted q c) = withdrawalCounted q c := by
    rw [withoutResends, withdrawalCounted, bumpBy_zero]
    dsimp only
    rw [all]
  rw [deadlinePasses_punctual queued punctual, empty, afterDeadline, same]
  rfl

theorem deadlinePasses_resent (queued : QueuedAs c k p q) (punctual : q.late = false)
    (least : 1 ≤ (c.sched.resend.filter (isOf k p)).length)
    (sent : (c.sched.resend.filter (isOf k p)).length ≤ q.outstanding) :
    deadlinePasses k p c = drainedOut (afterDeadline k p (c.sched.resend.filter (isOf k p)).length q c) := by
  have stands : (withdrawUnsent q).outstanding ≠ 0 := Nat.ne_of_gt (Nat.lt_of_lt_of_le least sent)
  have next : QueuedAs (inPlace k p withdrawUnsent (withdrawalCounted q c)) k p (withdrawUnsent q) :=
    queuedAs_inPlace withdrawUnsent_picture queued
  have own : (inPlace k p withdrawUnsent (withdrawalCounted q c)).sched.resend.filter (isOf k p)
      = c.sched.resend.filter (isOf k p) := rfl
  rw [deadlinePasses_punctual queued punctual, recordChanged_outstanding stands, loseResends own next least sent,
    withoutResends_inPlace, recordChanged_inPlace withdrawUnsent_picture]
  rfl

/-- Settles O42: the record made late in its place, its entries lost in turn, and the last change judged. -/
theorem pictureDeadlineWithdrawsTheUnsent : Obligations.PictureDeadlineWithdrawsTheUnsent := by
  unfold Obligations.PictureDeadlineWithdrawsTheUnsent
  intro k p s
  refine ⟨fun still => ends_of_work rfl (deadlinePasses_still still), fun q queued punctual => ?_⟩
  intro own m left after
  have same : own = isOf k p := by
    funext e
    unfold own isOf
    cases e.origin with
    | video k' p' j => exact (Bool.decide_and _ _).trans (by simp only [beq_eq_decide])
    | label i v => rfl
  have count : m = (s.chip.sched.resend.filter (isOf k p)).length := by
    unfold m
    rw [same, List.countP_eq_length_filter]
  have afterwards : after = afterDeadline k p m q s.chip := by
    unfold after
    rw [same]
    rfl
  have unresent : m = 0 → deadlinePasses k p s.chip = after := fun zero => by
    rw [afterwards, zero]
    exact deadlinePasses_unresent queued punctual (List.length_eq_zero_iff.mp (count.symm.trans zero))
  have resent : 1 ≤ m → m ≤ q.outstanding → deadlinePasses k p s.chip = drainedOut after := fun least sent => by
    rw [afterwards, count]
    rw [count] at least sent
    exact deadlinePasses_resent queued punctual least sent
  refine ⟨fun zero => ends_of_work rfl (unresent zero), fun least sent => ends_of_work rfl (resent least sent),
    fun outstanding withdrawn link => ⟨after, ends_of_work rfl ?_, ?_⟩⟩
  · obtain zero | least := Nat.eq_zero_or_pos m
    · exact unresent zero
    · have draining : ¬after.link.state = .draining := by
        rw [afterwards, afterDeadline, recordChanged_link]
        exact link
      rw [resent least (Nat.le_of_eq outstanding.symm)]
      exact if_neg fun ends => draining ends.1
  · have settled : (madeLate m q).outstanding = 0 := by
      simp only [madeLate, lostFragments, withdrawUnsent]
      omega
    obtain ⟨queue, outcomes, shed⟩ := recordChanged_late (k := k) (p := p)
      (c := withoutResends k p m (withdrawalCounted q s.chip)) settled (madeLate_unsent m q) withdrawn
    have counted : after.acct.outcomes[q.picture.ctx]
        = countOutcome (.shed .late) s.chip.acct.outcomes[q.picture.ctx] := by
      rw [afterwards, afterDeadline, outcomes]
      exact modAt_get_same ..
    rw [counted, afterwards]
    exact ⟨queue, rfl, rfl, shed⟩

end Sys2Proof.CodingRoom

end

section
/-! The settings of budget and rate control (R72 to R75): SET_CONTEXT, SET_RESERVOIR, LOAD_CURVE and SET_BUDGET. -/

namespace Sys2Proof.BudgetAndRate

open Sys2Proof.Machine Sys2Proof.Safety Sys2Proof.Claims Sys2Proof.Clockwork

/-! ## Clamped settings (section 0.6.1) -/

theorem clampNat_eq_within {lo hi : Nat} (h : lo ≤ hi) (x : Nat) : clampNat x lo hi = within lo hi x :=
  clampNat_eq_min_max x lo hi h

/-- A value is changed by being brought into a range where it lies outside it. -/
theorem decide_within_ne {lo hi : Nat} (h : lo ≤ hi) (x : Nat) : decide (within lo hi x ≠ x) = outside lo hi x := by
  rw [Bool.eq_iff_iff, decide_eq_true_eq, outside, Bool.or_eq_true, decide_eq_true_eq, decide_eq_true_eq, within]
  omega

/-! ## SET_CONTEXT (R72) -/

theorem logModeOf_none {b : Byte} : logModeOf b = none ↔ 2 < b.toNat := by revert b; decide

theorem logModeOf_some {b : Byte} {mode : LogMode} (named : (mode = .none ∧ b.toNat = 0) ∨
    (mode = .trouble ∧ b.toNat = 1) ∨ (mode = .all ∧ b.toNat = 2)) : logModeOf b = some mode := by
  obtain ⟨rfl, h⟩ | ⟨rfl, h⟩ | ⟨rfl, h⟩ := named
  all_goals
    rw [← byte_eq_ofNat b (by omega)] at h
    rw [h]
    rfl

theorem setContext_unnamed {ctx logMode : Byte} (unnamed : 5 < ctx.toNat ∨ 2 < logMode.toNat)
    (weight : Byte) (minimum : BitVec 32) (boost bias slew marker : Byte) (latency : BitVec 16) (c : Chip) :
    setContext ctx weight minimum boost bias slew marker latency logMode c = refuse .refusedRange c := by
  unfold setContext
  split
  · rename_i k mode context log
    obtain above | above := unnamed
    · cases context.symm.trans (ctxOf_none.mpr above)
    · cases log.symm.trans (logModeOf_none.mpr above)
  · rfl

theorem setContext_named {ctx logMode : Byte} {k : Ctx} {mode : LogMode} (context : ctxOf ctx = some k)
    (log : logModeOf logMode = some mode)
    (weight : Byte) (minimum : BitVec 32) (boost bias slew marker : Byte) (latency : BitVec 16) (c : Chip) :
    setContext ctx weight minimum boost bias slew marker latency logMode c =
      (modRate k (fun r => { r with settings :=
        ⟨within 1 16 weight.toNat, within 0 1000000 minimum.toNat, within 1 4 boost.toNat, within 0 15 bias.toNat,
          within 1 16 slew.toNat, marker, within 40 2000 latency.toNat, mode⟩ }) c,
       doneReply (outside 1 16 weight.toNat || outside 0 1000000 minimum.toNat || outside 1 4 boost.toNat
          || outside 0 15 bias.toNat || outside 1 16 slew.toNat || outside 40 2000 latency.toNat)) := by
  unfold setContext
  simp only [context, log, clampNat_eq_within, decide_within_ne, Nat.reduceLeDiff, Nat.zero_le]

/-! ## SET_RESERVOIR (R73) -/

theorem setReservoir_unnamed {ctx : Byte} (above : 5 < ctx.toNat) (depth qMin qMax qStart : Byte) (c : Chip) :
    setReservoir ctx depth qMin qMax qStart c = refuse .refusedRange c := by
  rw [setReservoir, ctxOf_none.mpr above]

theorem setReservoir_going {ctx : Byte} {k : Ctx} {c : Chip} (context : ctxOf ctx = some k)
    (going : c.ctx[k].state ≠ .stopped) (depth qMin qMax qStart : Byte) :
    setReservoir ctx depth qMin qMax qStart c = refuse .refusedState c := by
  simp only [setReservoir, context, if_pos going]

/-- R73: for a STOPPED context the order of q_min and q_max, as clamped, decides. -/
theorem setReservoir_stopped {ctx : Byte} {k : Ctx} {c : Chip} (context : ctxOf ctx = some k)
    (stopped : c.ctx[k].state = .stopped) (depth qMin qMax qStart : Byte) :
    setReservoir ctx depth qMin qMax qStart c =
      (let lo := within 1 96 qMin.toNat
       let hi := within 1 96 qMax.toNat
       if hi < lo then refuse .refusedRange c
       else (modRate k (fun r => { r with
           shape := ⟨within 2 16 depth.toNat, lo, hi, within lo hi qStart.toNat⟩, q := within lo hi qStart.toNat }) c,
         doneReply (outside 2 16 depth.toNat || outside 1 96 qMin.toNat || outside 1 96 qMax.toNat
          || outside lo hi qStart.toNat))) := by
  have going : ¬c.ctx[k].state ≠ .stopped := not_not_intro stopped
  simp only [setReservoir, context, if_neg going, clampNat_eq_within, decide_within_ne, Nat.reduceLeDiff]
  split
  · rfl
  · have order : within 1 96 qMin.toNat ≤ within 1 96 qMax.toNat := Nat.le_of_not_lt ‹_›
    simp only [clampNat_eq_within order, decide_within_ne order]

/-! ## LOAD_CURVE (R74) -/

theorem curveOf_eq (entries : List Byte) :
    curveOf entries = Vector.ofFn (fun j : Fin 33 => within 1 96 (entries.getD j.val 0).toNat) := by
  refine Vector.ext fun j hj => ?_
  have entry : (curveOf entries)[j] = clampNat (entries.getD j 0).toNat 1 96 := tabulate_get 33 _ ⟨j, hj⟩
  rw [entry, Vector.getElem_ofFn, clampNat_eq_within (by omega)]

theorem loadCurve_misshapen {ctx : Byte} {entries : List Byte} (h : 5 < ctx.toNat ∨ entries.length ≠ 33) (c : Chip) :
    loadCurve ctx entries c = refuse .refusedRange c := by
  unfold loadCurve
  split
  · rfl
  · rw [ctxOf_none.mpr (h.resolve_right ‹_›)]

theorem loadCurve_going {ctx : Byte} {entries : List Byte} {k : Ctx} {c : Chip} (context : ctxOf ctx = some k)
    (whole : entries.length = 33) (going : c.ctx[k].state ≠ .stopped) :
    loadCurve ctx entries c = refuse .refusedState c := by
  simp only [loadCurve, if_neg (not_not_intro whole), context, if_pos going]

theorem loadCurve_stopped {ctx : Byte} {entries : List Byte} {k : Ctx} {c : Chip} (context : ctxOf ctx = some k)
    (whole : entries.length = 33) (stopped : c.ctx[k].state = .stopped) :
    loadCurve ctx entries c =
      (modRate k (fun r => { r with
         curve := Vector.ofFn fun j : Fin 33 => within 1 96 (entries.getD j.val 0).toNat }) c,
       doneReply (entries.any fun b => outside 1 96 b.toNat)) := by
  have going : ¬c.ctx[k].state ≠ .stopped := not_not_intro stopped
  simp only [loadCurve, if_neg (not_not_intro whole), context, if_neg going, curveOf_eq]
  rfl

/-! ## SET_BUDGET (R75) -/

theorem setBudget_eq (reserve : BitVec 16) (c : Chip) :
    setBudget reserve c = ({ c with budget := { c.budget with reserve := within 0 8192 reserve.toNat } },
      doneReply (8192 < reserve.toNat)) := by
  rw [setBudget, clampNat_eq_within (Nat.zero_le _)]

/-- Settles O29: the tests of each of the four commands in their order, and what is stored where they pass. -/
theorem rateSettingsAreClampedAndStored : Obligations.RateSettingsAreClampedAndStored := by
  unfold Obligations.RateSettingsAreClampedAndStored
  intro tag ctx weight minimum boost bias slew marker latency logMode depth qMin qMax qStart entries reserve s room
  have named : ∀ {k : Ctx}, k.val = ctx.toNat → ctxOf ctx = some k := fun number => ctxOf_some.mpr number.symm
  refine ⟨fun unnamed => ?_, fun k number mode log => ?_, fun above => ?_, fun misshapen => ?_,
    fun k number going => ⟨?_, fun whole => ?_⟩, fun k number stopped => ⟨fun crossed => ?_, fun order => ?_,
      fun whole => ?_⟩, ?_⟩
  all_goals refine answers_of_work room rfl ?_
  · exact setContext_unnamed unnamed ..
  · exact setContext_named (named number) (logModeOf_some log) ..
  · exact setReservoir_unnamed above ..
  · exact loadCurve_misshapen misshapen _
  · exact setReservoir_going (c := holdPlace s.chip) (named number) going ..
  · exact loadCurve_going (c := holdPlace s.chip) (named number) whole going
  · exact (setReservoir_stopped (c := holdPlace s.chip) (named number) stopped ..).trans (if_pos crossed)
  · have uncrossed : ¬within 1 96 qMax.toNat < within 1 96 qMin.toNat := Nat.not_lt_of_le order
    exact (setReservoir_stopped (c := holdPlace s.chip) (named number) stopped ..).trans (if_neg uncrossed)
  · exact loadCurve_stopped (c := holdPlace s.chip) (named number) whole stopped
  · exact setBudget_eq reserve _

end Sys2Proof.BudgetAndRate

end


section
/-! The division of a picture period's bytes (R59 to R64): the minimums granted in turn, the weighted targets and the
idle bytes, whatever the settings, the weights and the contexts that share. -/

namespace Sys2Proof.BudgetAndRate

open Sys2Proof.Machine Sys2Proof.Safety Sys2Proof.Claims Sys2Proof.Clockwork

/-! ## The order of the grants (R63) -/

/-- R63: whether a context is granted its minimum ahead of another: the programme context is, and otherwise the lower
number. -/
def before (programme : Option Ctx) (j k : Ctx) : Bool :=
  decide (j ≠ k ∧ (programme = some j ∨ (programme ≠ some k ∧ j.val < k.val)))

theorem before_asymm {programme : Option Ctx} {j k : Ctx} (h : before programme j k = true) :
    before programme k j = false := by
  simp only [before, decide_eq_true_eq, decide_eq_false_iff_not] at h ⊢
  obtain ⟨other, onAir | ⟨offAir, lower⟩⟩ := h
  · rintro ⟨-, onAir' | ⟨offAir, -⟩⟩
    · exact other (Option.some.inj (onAir.symm.trans onAir'))
    · exact offAir onAir
  · rintro ⟨-, onAir' | ⟨-, higher⟩⟩
    · exact offAir onAir'
    · omega

theorem before_self (programme : Option Ctx) (k : Ctx) : before programme k k = false := by simp [before]

theorem mem_grantOrder {shares : Ctx → Bool} {programme : Option Ctx} {k : Ctx} :
    k ∈ grantOrder shares programme ↔ shares k = true := by
  cases programme with
  | none => simp [grantOrder, mem_allCtx]
  | some p =>
    simp only [grantOrder, List.mem_append, List.mem_filter, List.mem_singleton, mem_allCtx, true_and, Bool.and_eq_true,
      Bool.not_eq_true', beq_eq_false_iff_ne]
    tauto

/-- R63: the contexts granted behind the programme context are others. -/
theorem offAir_of_later {shares : Ctx → Bool} {p k : Ctx} (later : k ∈ allCtx.filter fun k => shares k && !(k == p)) :
    k ≠ p := by
  have passes := (List.mem_filter.mp later).2
  simp only [Bool.and_eq_true, Bool.not_eq_true', beq_eq_false_iff_ne] at passes
  exact passes.2

theorem grantOrder_sorted (shares : Ctx → Bool) (programme : Option Ctx) :
    (grantOrder shares programme).Pairwise (fun j k => before programme j k = true) := by
  have ascending : allCtx.Pairwise (fun j k => j.val < k.val) := by decide
  cases programme with
  | none =>
    refine (ascending.filter _).imp fun {j k} lower => ?_
    simp [before, lower, Fin.ne_of_lt lower]
  | some p =>
    refine List.pairwise_append.mpr ⟨(List.pairwise_singleton _ p).filter _, ?_, fun j first k later => ?_⟩
    · refine (ascending.filter _).imp_of_mem fun {j k} _ later lower => ?_
      have offAir : k ≠ p := offAir_of_later later
      simp [before, lower, Fin.ne_of_lt lower, offAir.symm]
    · obtain rfl : j = p := List.mem_singleton.mp (List.mem_of_mem_filter first)
      have offAir : k ≠ j := offAir_of_later later
      simp [before, offAir.symm]

/-- A sum over the contexts that share, taken in the order of the grants. -/
theorem sum_grantOrder (shares : Ctx → Bool) (programme : Option Ctx) (f : Ctx → Nat) :
    ((grantOrder shares programme).map f).sum = ∑ k : Ctx, if shares k then f k else 0 := by
  rw [← List.sum_toFinset f (grantOrder_nodup shares programme), ← Finset.sum_filter]
  refine Finset.sum_congr (Finset.ext fun k => ?_) fun _ _ => rfl
  simp [mem_grantOrder]

/-! ## The minimums (R63) -/

theorem grantMinimums_other {setting : Ctx → Nat} {l : List Ctx} {k : Ctx} (absent : k ∉ l) (left : Nat)
    (g : Vector Nat 6) : (grantMinimums setting l left g).2[k] = g[k] := by
  induction l generalizing left g with
  | nil => rfl
  | cons j l ih =>
    rw [List.mem_cons, not_or] at absent
    rw [grantMinimums, ih absent.2, setAt_get_other _ _ absent.1]

/-- R63: each context in its turn is granted its minimum within what the contexts ahead of it have left. -/
theorem grantMinimums_get {setting : Ctx → Nat} {programme : Option Ctx} {l : List Ctx}
    (sorted : l.Pairwise (fun j k => before programme j k = true)) (left : Nat) (g : Vector Nat 6) {k : Ctx}
    (member : k ∈ l) :
    (grantMinimums setting l left g).2[k] = min (setting k) (left - (l.map fun j =>
      if before programme j k then (grantMinimums setting l left g).2[j] else 0).sum) := by
  induction l generalizing left g with
  | nil => cases member
  | cons a l ih =>
    obtain ⟨first, sorted⟩ := List.pairwise_cons.mp sorted
    have absent : a ∉ l := fun again => by
      have := first a again
      rw [before_self] at this
      cases this
    have head : (grantMinimums setting (a :: l) left g).2[a] = min (setting a) left := by
      rw [grantMinimums, grantMinimums_other absent, setAt_get_same]
    rw [List.map_cons, List.sum_cons, head]
    obtain rfl | later := List.mem_cons.mp member
    · have none : (l.map fun j => if before programme j k then
          (grantMinimums setting (k :: l) left g).2[j] else 0).sum = 0 :=
        List.sum_eq_zero fun x hx => by
          obtain ⟨j, hj, rfl⟩ := List.mem_map.mp hx
          rw [before_asymm (first j hj)]
          rfl
      rw [head, none, before_self]
      rfl
    · rw [if_pos (first k later), grantMinimums, ih sorted _ _ later, Nat.sub_sub]

/-! ## The portions of what remains (R64) -/

/-- The floors of a number's portions by weight fall short of it by less than one for each portion. -/
theorem lt_sum_portions {ι : Type} {s : Finset ι} {weight : ι → Nat} (nonempty : s.Nonempty)
    (positive : 0 < ∑ k ∈ s, weight k) (rest : Nat) :
    rest < (∑ k ∈ s, rest * weight k / ∑ j ∈ s, weight j) + s.card := by
  generalize total : ∑ j ∈ s, weight j = w at positive ⊢
  refine Nat.lt_of_mul_lt_mul_left (a := w) ?_
  calc w * rest = ∑ k ∈ s, rest * weight k := by rw [← Finset.mul_sum, total, Nat.mul_comm]
    _ < ∑ k ∈ s, w * (rest * weight k / w + 1) :=
      Finset.sum_lt_sum_of_nonempty nonempty fun k _ => Nat.lt_mul_div_succ _ positive
    _ = w * ((∑ k ∈ s, rest * weight k / w) + s.card) := by
      rw [← Finset.mul_sum, Finset.sum_add_distrib, Finset.sum_const, smul_eq_mul, Nat.mul_one]

/-! ## The division of the video bytes (R63, R64) -/

/-- R63, R64: the minimums, targets and idle bytes of a budget are those of a division of the video bytes. -/
structure Division (shares : Ctx → Bool) (setting weight : Ctx → Nat) (programme : Option Ctx) (video : Nat)
    (b : Budget) : Prop where
  minimums : b.minimums = (grantMinimums setting (grantOrder shares programme) video (Vector.replicate 6 0)).2
  targets : ∀ k : Ctx, b.targets[k] = targetOf (shares k) b.minimums[k]
    (grantMinimums setting (grantOrder shares programme) video (Vector.replicate 6 0)).1 (weight k)
    (totalWeight shares weight)
  idle : b.idle = video - ∑ k : Ctx, b.targets[k]

section

variable {shares : Ctx → Bool} {setting weight : Ctx → Nat} {programme : Option Ctx} {video : Nat} {b : Budget}

/-- R63: a context that shares is granted its minimum within what those ahead of it leave. -/
theorem Division.granted (h : Division shares setting weight programme video b) {k : Ctx} (sharer : shares k = true) :
    b.minimums[k] = min (setting k)
      (video - ∑ j : Ctx, if shares j && before programme j k then b.minimums[j] else 0) := by
  have ahead : (∑ j : Ctx, if shares j && before programme j k then b.minimums[j] else 0)
      = ((grantOrder shares programme).map fun j => if before programme j k then b.minimums[j] else 0).sum := by
    rw [sum_grantOrder]
    exact Finset.sum_congr rfl fun j _ => by cases shares j <;> rfl
  rw [ahead, h.minimums]
  exact grantMinimums_get (grantOrder_sorted shares programme) video _ (mem_grantOrder.mpr sharer)

theorem Division.granted_none (h : Division shares setting weight programme video b) {k : Ctx}
    (aside : shares k = false) : b.minimums[k] = 0 := by
  have absent : k ∉ grantOrder shares programme := fun member => by
    rw [mem_grantOrder.mp member] at aside
    cases aside
  rw [h.minimums, grantMinimums_other absent]
  exact Vector.getElem_replicate _

theorem Division.target_none (h : Division shares setting weight programme video b) {k : Ctx}
    (aside : shares k = false) : b.targets[k] = 0 := by
  rw [h.targets, targetOf, aside]
  rfl

/-- R63: what the minimums leave of the video bytes. -/
theorem Division.left (h : Division shares setting weight programme video b) :
    (grantMinimums setting (grantOrder shares programme) video (Vector.replicate 6 0)).1 + total b.minimums
      = video := by
  rw [h.minimums, total_grantMinimums _ _ _ _ (grantOrder_nodup ..) fun k _ => Vector.getElem_replicate _]
  simp [total]

/-- R64: the target of a context that shares, in the bytes that the minimums leave. -/
theorem Division.target (h : Division shares setting weight programme video b) {k : Ctx} (sharer : shares k = true) :
    b.targets[k] = b.minimums[k]
      + (video - total b.minimums) * weight k / ∑ j : Ctx, if shares j then weight j else 0 := by
  rw [h.targets, targetOf, if_pos sharer, totalWeight_eq, ← Nat.eq_sub_of_add_eq h.left]

theorem Division.sum_targets (h : Division shares setting weight programme video b) :
    (∑ k : Ctx, b.targets[k]) + b.idle = video := by
  have fits : ∑ k : Ctx, b.targets[k] ≤ video := by
    simp only [h.targets]
    exact (sum_targets_le ..).trans (by rw [Nat.add_comm, h.left])
  rw [h.idle, Nat.add_sub_cancel' fits]

/-- R64: where no context shares, every video byte is idle. -/
theorem Division.idle_all (h : Division shares setting weight programme video b) (aside : ∀ k, shares k = false) :
    b.idle = video := by
  rw [h.idle, Finset.sum_eq_zero fun k _ => h.target_none (aside k), Nat.sub_zero]

/-- R64: the idle bytes are fewer than the contexts that share. -/
theorem Division.idle_lt (h : Division shares setting weight programme video b)
    (positive : ∀ k, shares k = true → 0 < weight k) {k : Ctx} (sharer : shares k = true) :
    b.idle < ∑ k : Ctx, if shares k then 1 else 0 := by
  let s : Finset Ctx := Finset.univ.filter fun k => shares k = true
  have member : k ∈ s := by simp [s, sharer]
  have weighs : 0 < ∑ k ∈ s, weight k :=
    Finset.sum_pos (fun j hj => positive j (Finset.mem_filter.mp hj).2) ⟨k, member⟩
  have portions := lt_sum_portions ⟨k, member⟩ weighs (video - total b.minimums)
  have targets : ∑ k : Ctx, b.targets[k]
      = total b.minimums + ∑ k ∈ s, (video - total b.minimums) * weight k / ∑ j ∈ s, weight j := by
    rw [Finset.sum_filter, total, ← Finset.sum_add_distrib]
    refine Finset.sum_congr rfl fun j _ => ?_
    cases shared : shares j with
    | true => rw [h.target shared, if_pos rfl, Finset.sum_filter]; rfl
    | false => rw [h.target_none shared, h.granted_none shared]; rfl
  have left := h.left
  have whole := h.sum_targets
  rw [← Finset.card_filter]
  show b.idle < s.card
  omega

end

end Sys2Proof.BudgetAndRate

end


section
/-! What a picture boundary's work ahead of the division leaves of the part (R14, R37, R43, R50, R104): all that the
division reads, and each context's rate state but for the contexts that start. -/

namespace Sys2Proof.BudgetAndRate

open Sys2Proof.Machine Sys2Proof.Safety Sys2Proof.Claims Sys2Proof.Clockwork Sys2Proof.CodingRoom

/-! ## What is left as it stands -/

/-- The timebase, the link, the last division, programme-audio send and the allowances are as they were. -/
structure Undivided (c d : Chip) : Prop where
  time : d.time = c.time
  link : d.link = c.link
  budget : d.budget = c.budget
  audioSend : d.mixer.audioSend = c.mixer.audioSend
  allowance : d.sched.allowance = c.sched.allowance

/-- And so is every rate state. -/
structure Unrated (c d : Chip) : Prop extends Undivided c d where
  rate : d.rate = c.rate

theorem undivided_refl (c : Chip) : Undivided c c := ⟨rfl, rfl, rfl, rfl, rfl⟩

theorem Undivided.trans {b c d : Chip} (h : Undivided b c) (h' : Undivided c d) : Undivided b d :=
  ⟨h'.time.trans h.time, h'.link.trans h.link, h'.budget.trans h.budget, h'.audioSend.trans h.audioSend,
    h'.allowance.trans h.allowance⟩

theorem unrated_refl (c : Chip) : Unrated c c := ⟨undivided_refl c, rfl⟩

theorem Unrated.trans {b c d : Chip} (h : Unrated b c) (h' : Unrated c d) : Unrated b d :=
  ⟨h.toUndivided.trans h'.toUndivided, h'.rate.trans h.rate⟩

variable {c d : Chip}

/-- A chain of such work may end with any change that touches none of it. -/
theorem unrated_quiet {d' : Chip} (h : Unrated c d)
    (same : Unrated d d' := by exact ⟨⟨rfl, rfl, rfl, rfl, rfl⟩, rfl⟩) : Unrated c d' := h.trans same

theorem unrated_setAttention (as : List AttClass) (h : Unrated c d) : Unrated c (setAttention as d) := by
  rw [setAttention_frame]
  exact unrated_quiet h

/-! ## The clip log at a boundary (R164) -/

theorem unrated_offerLabel (i : Nat) (x : Clip) (h : Unrated c d) : Unrated c (offerLabel i x d) := by
  unfold offerLabel joinLabel
  split
  all_goals exact unrated_quiet h

theorem unrated_closeClip (i : Nat) (x : Clip) (h : Unrated c d) : Unrated c (closeClip i x d) := by
  have closed : Unrated c (putClip i (closedClip x d) { d with clips := { d.clips with
      closed := bump d.clips.closed, emptyClips := bumpIf (closedClip x d).empty d.clips.emptyClips } }) :=
    unrated_quiet h
  unfold closeClip autoOffer setAttentionIf
  dsimp only
  split
  · split
    · exact unrated_setAttention _ (unrated_offerLabel _ _ closed)
    · exact unrated_offerLabel _ _ closed
  · exact closed

theorem unrated_autoClips (p : Option Ctx) (h : Unrated c d) : Unrated c (autoClips p d) := by
  have closed : Unrated c (autoClose p d) := by
    unfold autoClose
    split
    · split
      · exact unrated_closeClip _ _ (unrated_quiet h)
      · exact h
    · exact h
  unfold autoClips autoOpen
  split
  · exact closed
  split
  · split
    · exact unrated_setAttention _ (unrated_quiet closed)
    · exact unrated_quiet closed
  · exact closed

/-! ## Steering and the selector (R37, R104 to R108) -/

theorem unrated_steerBoundary (h : Unrated c d) : Unrated c (steerBoundary d) := by
  unfold steerBoundary
  split
  · exact unrated_setAttention _ (unrated_quiet h)
  · exact h

theorem unrated_offerTallySet (h : Unrated c d) : Unrated c (offerTallySet d) := by
  unfold offerTallySet
  induction allCtx generalizing d with
  | nil => exact h
  | cons k l ih =>
    refine ih ?_
    show Unrated c (offerTallyOf k d)
    rw [offerTallyOf_frame]
    exact unrated_quiet h

theorem unrated_selectorBoundary (h : Unrated c d) : Unrated c (selectorBoundary d) := by
  unfold selectorBoundary
  extract_lets op pre applied handed
  have applied : Unrated c applied := by
    have taken : Unrated c (if op then applyOp d else d) := by
      split
      · exact unrated_setAttention _ (unrated_quiet h)
      · exact h
    unfold applied applyPreset
    split
    · exact unrated_quiet taken
    · exact taken
  have handed : Unrated c handed := by
    unfold handed
    split
    · exact unrated_autoClips _ (unrated_quiet applied)
    · exact applied
  split
  · exact unrated_offerTallySet handed
  · exact handed

/-! ## The gatherers (R43, R50) -/

theorem unrated_completePicture (k : Ctx) (g : Gathering) (h : Unrated c d) : Unrated c (completePicture k g d) := by
  unfold completePicture
  rw [arbitrate_frame]
  split
  · exact unrated_quiet h
  · rw [resolve_frame]
    exact unrated_quiet h

theorem unrated_staleCheck (k : Ctx) (h : Unrated c d) : Unrated c (staleCheck k d) := by
  unfold staleCheck
  split
  · exact h
  · split
    · exact unrated_quiet h
    · exact unrated_completePicture _ _ (unrated_quiet h)

theorem staleCheck_state (k j : Ctx) (c : Chip) : (staleCheck k c).ctx[j].state = c.ctx[j].state := by
  unfold staleCheck
  split
  · rfl
  · split
    · exact modCtx_state rfl j
    · rw [endDamaged_state]
      exact modCtx_state rfl j

/-- R43: a context's rate state once the gatherers have taken the boundary: a STARTING context's fill is 0 and its index
q_start. -/
def begun (st : CtxState) (r : RateState) : RateState :=
  { r with fill := if st = .starting then 0 else r.fill, q := if st = .starting then r.shape.qStart else r.q }

theorem undivided_gatherBoundaryAt (k : Ctx) (c : Chip) : Undivided c (gatherBoundaryAt k c) := by
  unfold gatherBoundaryAt
  split
  · exact (unrated_staleCheck k (unrated_refl c)).toUndivided
  all_goals exact ⟨rfl, rfl, rfl, rfl, rfl⟩

theorem gatherBoundaryAt_rate (k : Ctx) (c : Chip) :
    (gatherBoundaryAt k c).rate[k] = begun c.ctx[k].state c.rate[k] := by
  unfold gatherBoundaryAt
  cases st : c.ctx[k].state with
  | running =>
    dsimp only
    rw [(unrated_staleCheck k (unrated_refl c)).rate]
    rfl
  | starting => exact modAt_get_same ..
  | stopped => rfl
  | draining => rfl

/-- A context's gatherer leaves the other contexts' states and rate states. -/
theorem gatherBoundaryAt_other {j k : Ctx} (other : j ≠ k) (c : Chip) :
    (gatherBoundaryAt k c).ctx[j].state = c.ctx[j].state ∧ (gatherBoundaryAt k c).rate[j] = c.rate[j] := by
  unfold gatherBoundaryAt
  split
  · exact ⟨staleCheck_state k j c, by rw [(unrated_staleCheck k (unrated_refl c)).rate]⟩
  · exact ⟨congrArg Context.state (modAt_get_other c.ctx _ other), modAt_get_other c.rate _ other⟩
  all_goals exact ⟨rfl, rfl⟩

theorem undivided_gatherBoundary (c : Chip) : Undivided c (gatherBoundary c) := by
  unfold gatherBoundary
  induction allCtx generalizing c with
  | nil => exact undivided_refl c
  | cons k l ih => exact (undivided_gatherBoundaryAt k c).trans (ih _)

theorem gatherBoundaryAt_foldl_rate {l : List Ctx} (distinct : l.Nodup) (c : Chip) (k : Ctx) :
    (l.foldl (fun d k => gatherBoundaryAt k d) c).rate[k]
      = if k ∈ l then begun c.ctx[k].state c.rate[k] else c.rate[k] := by
  induction l generalizing c with
  | nil => rfl
  | cons a l ih =>
    obtain ⟨absent, distinct⟩ := List.nodup_cons.mp distinct
    rw [List.foldl_cons, ih distinct]
    by_cases here : k = a
    · subst here
      rw [if_neg absent, if_pos List.mem_cons_self, gatherBoundaryAt_rate]
    · obtain ⟨state, rate⟩ := gatherBoundaryAt_other here c
      rw [state, rate]
      simp only [List.mem_cons, here, false_or]

theorem gatherBoundary_rate (c : Chip) (k : Ctx) :
    (gatherBoundary c).rate[k] = begun c.ctx[k].state c.rate[k] := by
  rw [gatherBoundary, gatherBoundaryAt_foldl_rate (by decide), if_pos (mem_allCtx k)]

/-! ## The part that the division finds -/

theorem steerBoundary_ctx (c : Chip) : (steerBoundary c).ctx = c.ctx := by
  unfold steerBoundary
  split
  · exact setAttention_ctx ..
  · rfl

/-- R59, R65, R132: the part once the divider, the rate controller and the scheduler have taken the boundary. -/
def divided (w : Chip) : Chip := allowanceBoundary (rateBoundary (budgetBoundary w))

/-- R14: a boundary divides the bytes at a part that steering, the gatherers and the selector have left, with all that
the division reads as it stood but for the contexts, the programme and the rate states of the contexts that start. -/
theorem boundaryWork_divided (c : Chip) : ∃ w : Chip, boundaryWork c = divided w ∧ Undivided c w ∧
    ∀ k : Ctx, w.rate[k] = begun c.ctx[k].state c.rate[k] := by
  have steered := unrated_steerBoundary (unrated_refl c)
  have gathered := undivided_gatherBoundary (steerBoundary c)
  have selected := unrated_selectorBoundary (unrated_refl (gatherBoundary (steerBoundary c)))
  refine ⟨_, rfl, (steered.toUndivided.trans gathered).trans selected.toUndivided, fun k => ?_⟩
  rw [selected.rate, gatherBoundary_rate, steerBoundary_ctx, steered.rate]

end Sys2Proof.BudgetAndRate

end


section
/-! The division at a picture boundary (R59 to R65, R132): the shares of the period's bytes, and what each context is
given of them. -/

namespace Sys2Proof.BudgetAndRate

open Sys2Proof.Machine Sys2Proof.Safety Sys2Proof.Claims Sys2Proof.Clockwork

/-! ## The shares of a period's bytes (R60 to R62) -/

theorem divide_capacity (c : Chip) :
    (divide c).capacity = if c.link.state = .down ∨ c.link.state = .lost then 500 else c.link.capacity := by
  show planningCapacity c.link = _
  unfold planningCapacity
  split
  case h_1 down => rw [if_pos (.inl down)]
  case h_2 lost => rw [if_pos (.inr lost)]
  all_goals
    rename_i other
    rw [other, if_neg (by decide)]

theorem divide_bytes (c : Chip) : (divide c).bytes = (divide c).capacity * 125 / rateHz c.time.rate := rfl

/-- R60: with the capacity in its range, B lies between 1,041 and 1,000,000 at every rate. -/
theorem divide_bytes_mem {c : Chip} (h : LinkRangesOk c.link) :
    1041 ≤ (divide c).bytes ∧ (divide c).bytes ≤ 1000000 := by
  obtain ⟨least, most, -⟩ := h
  have capacity : 500 ≤ (divide c).capacity ∧ (divide c).capacity ≤ 200000 := by
    rw [divide_capacity]
    split <;> omega
  rw [divide_bytes]
  cases c.time.rate <;> simp only [rateHz] <;> omega

theorem audioGranted_iff (c : Chip) :
    audioGranted c = true ↔ c.mixer.audioSend = true ∧ (c.link.state = .up ∨ c.link.state = .lost) := by
  simp [audioGranted]

theorem divide_audio (c : Chip) : (divide c).audio =
    if c.mixer.audioSend = true ∧ (c.link.state = .up ∨ c.link.state = .lost) then
      min (divide c).bytes (296000 / rateHz c.time.rate) else 0 := by
  show audioShare (audioGranted c) (divide c).bytes c.time.rate = _
  simp only [audioShare, audioGranted_iff]

theorem divide_label (c : Chip) :
    (divide c).label = min c.budget.reserve ((divide c).bytes - (divide c).audio) := rfl

/-- R62: V, the bytes that the audio share and the label share leave. -/
def videoBytes (b : Budget) : Nat := b.bytes - b.audio - b.label

/-! ## What the contexts are given (R63, R64) -/

/-- R64: a context's weight, times its boost where it is the programme context. -/
def weightOf (programme : Option Ctx) (k : Ctx) (s : CtxSettings) : Nat :=
  s.weight * (if programme = some k then s.boost else 1)

theorem effectiveWeight_eq : effectiveWeight = weightOf := by
  funext programme k s
  unfold effectiveWeight weightOf
  split
  · rfl
  · exact (Nat.mul_one _).symm

/-- R72: every weight is 1 or more. -/
theorem weightOf_pos {r : RateState} (h : RateOk r) (programme : Option Ctx) (k : Ctx) :
    0 < weightOf programme k r.settings := by
  obtain ⟨-, -, -, -, -, -, -, -, -, -, weight, -, -, boost, -⟩ := h
  unfold weightOf
  split
  · exact Nat.mul_pos weight boost
  · exact Nat.mul_pos weight Nat.one_pos

/-- Section 5.3: a context shares in the video bytes while it is RUNNING or DRAINING. -/
def shares (c : Chip) (k : Ctx) : Bool := decide (c.ctx[k].state = .running ∨ c.ctx[k].state = .draining)

theorem sharing_eq (c : Chip) : (fun k : Ctx => sharing c.ctx[k].state) = shares c := by
  funext k
  unfold shares
  cases c.ctx[k].state <;> decide

theorem sharers_eq_zero {sharer : Ctx → Bool} :
    (∑ k : Ctx, if sharer k then 1 else 0) = 0 ↔ ∀ k, sharer k = false := by simp

theorem sharers_pos {sharer : Ctx → Bool} : (0 < ∑ k : Ctx, if sharer k then 1 else 0) ↔ ∃ k, sharer k = true := by
  simp [Nat.pos_iff_ne_zero]

/-- R63, R64: the divider's minimums, targets and idle bytes are a division of V. -/
theorem division_divide (c : Chip) :
    Division (shares c) (fun k => c.rate[k].settings.minimum) (fun k => weightOf c.sel.programme k c.rate[k].settings)
      c.sel.programme (videoBytes (divide c)) (divide c) := by
  rw [← sharing_eq, ← effectiveWeight_eq]
  exact ⟨rfl, fun k => tabulate_get 6 _ k, congrArg (videoBytes (divide c) - ·) (List.sum_ofFn ..)⟩

/-- R63: a boundary at which a context that shares has less than its minimum counts one shortfall. -/
theorem divide_shortfalls (c : Chip) :
    (divide c).shortfalls = bumpIf (decide (∃ k : Ctx, shares c k = true ∧
      (divide c).minimums[k] < c.rate[k].settings.minimum)) c.budget.shortfalls := by
  have short : (grantOrder (shares c) c.sel.programme).any
        (fun k => decide ((divide c).minimums[k] < c.rate[k].settings.minimum))
      = decide (∃ k : Ctx, shares c k = true ∧ (divide c).minimums[k] < c.rate[k].settings.minimum) := by
    rw [Bool.eq_iff_iff, List.any_eq_true, decide_eq_true_eq]
    simp only [mem_grantOrder, decide_eq_true_eq]
  rw [← short, ← sharing_eq]
  rfl

/-! ## The boundary (R59, R65, R132) -/

theorem divided_rate (w : Chip) (k : Ctx) : (divided w).rate[k] = grantTarget (divided w).budget.targets[k] w.rate[k] :=
  tabulate_get 6 _ k

theorem divided_allowance (w : Chip) (k : Ctx) :
    (divided w).sched.allowance[k] = creditAllowance (divided w).budget.targets[k] w.sched.allowance[k] :=
  tabulate_get 6 _ k

/-- Settles O26: the division of V at the part that the earlier work of the boundary leaves, whose shares, settings and
rate states are those that stood before it. -/
theorem boundaryDividesThePeriodsBytes : Obligations.BoundaryDividesThePeriodsBytes := by
  unfold Obligations.BoundaryDividesThePeriodsBytes
  intro c rates ranges
  obtain ⟨w, work, ⟨time, link, budget, audioSend, allowance⟩, begins⟩ := boundaryWork_divided c
  rw [work]
  have settings : ∀ k : Ctx, w.rate[k].settings = c.rate[k].settings := fun k => by rw [begins, begun]
  have range := divide_bytes_mem (c := w) (link ▸ ranges)
  have division := division_divide w
  have shortfalls := divide_shortfalls w
  simp only [settings, budget] at division shortfalls
  intro d rate capacity bytes audio lab video sharer setting weight granted target earlier all rest sharers
  have capacity_eq : (divide w).capacity = capacity := by rw [divide_capacity, link]
  have bytes_eq : (divide w).bytes = bytes := by rw [divide_bytes, capacity_eq, time]
  have audio_eq : (divide w).audio = audio := by rw [divide_audio, audioSend, link, time, bytes_eq]
  have label_eq : (divide w).label = lab := by rw [divide_label, budget, bytes_eq, audio_eq]
  have video_eq : videoBytes (divide w) = video := by rw [videoBytes, bytes_eq, audio_eq, label_eq]
  rw [video_eq] at division
  rw [bytes_eq] at range
  refine ⟨⟨capacity_eq, bytes_eq, range⟩, audio_eq, label_eq, ?_,
    fun k shared => ⟨division.granted shared, division.target shared⟩,
    fun k aside => ⟨division.granted_none aside, division.target_none aside⟩, shortfalls, division.sum_targets,
    fun alone => division.idle_all (sharers_eq_zero.mp alone), fun shared => ?_, fun k => ⟨?_, ?_⟩⟩
  · show w.budget.reserve = _
    rw [budget]
  · obtain ⟨k, shared⟩ := sharers_pos.mp shared
    exact division.idle_lt (fun k _ => weightOf_pos (rates k) _ k) shared
  · exact (divided_rate w k).trans (by rw [begins]; rfl)
  · exact (divided_allowance w k).trans (by rw [allowance]; rfl)

end Sys2Proof.BudgetAndRate

end


section
/-! The sound mixer's commands (R80 to R82, R87, R89, R90, R92, R93, R95) and its event AUDIO_INPUT_LOST (R79). -/

namespace Sys2Proof.SoundMixer

open Sys2Proof.Machine Sys2Proof.Safety Sys2Proof.Claims

/-! ## The gain table (R80 to R82) -/

theorem gainRange_iff {first count : Nat} :
    gainRange first count = true ↔ 1 ≤ count ∧ count ≤ 64 ∧ first + count ≤ 256 := by
  simp [gainRange, and_assoc]

theorem gainRange_eq_false {first count : Nat} :
    gainRange first count = false ↔ ¬(1 ≤ count ∧ count ≤ 64 ∧ first + count ≤ 256) := by
  rw [← gainRange_iff, Bool.not_eq_true]

/-- A table is known by its entries. -/
theorem eq_ofFn {α : Type} {n : Nat} {v : Vector α n} {f : Fin n → α} (h : ∀ k : Fin n, v[k] = f k) :
    v = Vector.ofFn f :=
  Vector.ext fun k hk => by rw [Vector.getElem_ofFn]; exact h ⟨k, hk⟩

/-- R81: the gain table after entries are written from an index on, index by index. -/
theorem writeGain_get (es : List (BitVec 16)) (g : Vector (BitVec 16) 256) (n : Nat) (i : Fin 256) :
    (writeGain g n es)[i] = if i.val < n ∨ n + es.length ≤ i.val then g[i] else es.getD (i.val - n) 0 := by
  induction es generalizing g n with
  | nil => rw [if_pos (by simp; omega)]; rfl
  | cons e es ih =>
    rw [writeGain, ih, List.length_cons]
    rcases Nat.lt_trichotomy i.val n with below | here | above
    · rw [if_pos (.inl (by omega)), if_pos (.inl below)]
      exact Vector.getElem_setIfInBounds_ne _ (by omega)
    · subst here
      rw [if_pos (.inl (by omega)), if_neg (by omega), Nat.sub_self]
      exact Vector.getElem_setIfInBounds_self _
    · obtain ⟨m, hm⟩ : ∃ m, i.val - n = m + 1 := ⟨i.val - n - 1, by omega⟩
      rw [hm, List.getD_cons_succ, show i.val - (n + 1) = m by omega]
      refine if_congr (by omega) ?_ rfl
      exact Vector.getElem_setIfInBounds_ne _ (by omega)

theorem writeGain_eq (g : Vector (BitVec 16) 256) (n : Nat) (es : List (BitVec 16)) : writeGain g n es =
    Vector.ofFn (fun i : Fin 256 => if i.val < n ∨ n + es.length ≤ i.val then g[i] else es.getD (i.val - n) 0) :=
  eq_ofFn (writeGain_get es g n)

theorem countOk_eq_true {count : Byte} {n : Nat} : countOk count n = true ↔ n = count.toNat := by
  rw [countOk, beq_iff_eq]

theorem loadGain_misshapen {count : Byte} {entries : List (BitVec 16)} (other : entries.length ≠ count.toNat)
    (first : Byte) (c : Chip) : loadGain first count entries c = refuse .refusedRange c := by
  refine if_pos ?_
  rw [Bool.not_eq_true', ← Bool.not_eq_true, countOk_eq_true]
  exact other

theorem loadGain_shaped {count : Byte} {entries : List (BitVec 16)} (length : entries.length = count.toNat)
    (first : Byte) (c : Chip) : loadGain first count entries c =
      if c.port.mode = .run then refuse .refusedState c
      else if gainRange first.toNat count.toNat then
        ({ c with mixer := { c.mixer with gain := writeGain c.mixer.gain first.toNat entries } }, reply .done)
      else refuse .refusedRange c := by
  refine if_neg ?_
  rw [Bool.not_eq_true', ← Bool.not_eq_true, countOk_eq_true]
  exact not_not_intro length

/-- R80: an entry of the gain table in the two bytes in which READ_GAIN answers it. -/
theorem num16_gainAt (g : Vector (BitVec 16) 256) (n : Nat) :
    num16 (gainAt g n) = if n = 0 then [0#8, 0#8] else be16 ((g[n]?).getD 0) := by
  unfold num16 gainAt
  split
  · rfl
  · rw [BitVec.ofNat_toNat, BitVec.setWidth_eq]

/-- Settles O30: the tests of the two commands in their order, and the table entry by entry. -/
theorem gainTableIsLoadedAndRead : Obligations.GainTableIsLoadedAndRead := by
  unfold Obligations.GainTableIsLoadedAndRead
  intro tag first count entries s room inRange load
  have loads : ∀ {code data f},
      loadGain first count entries (holdPlace s.chip) = (f (holdPlace s.chip), ⟨code, data⟩) →
      Answers load s tag .loadGain code data f := Clockwork.answers_of_work room rfl
  have reads : ∀ {code data f},
      readGain first count (holdPlace s.chip) = (f (holdPlace s.chip), ⟨code, data⟩) →
      Answers (.readGain tag first count) s tag .readGain code data f := Clockwork.answers_of_work room rfl
  have standing : s.chip.port.mode = .standby → ¬(holdPlace s.chip).port.mode = .run := fun standby => by
    rw [holdPlace_mode, standby]
    nofun
  refine ⟨fun run length => loads ?_, fun other => loads (loadGain_misshapen other first _),
    fun standby outside => ?_, fun standby within length => loads ?_, fun outside => reads ?_, fun within => reads ?_⟩
  · rw [loadGain_shaped length, if_pos (show (holdPlace s.chip).port.mode = .run from run)]
    rfl
  · by_cases length : entries.length = count.toNat
    · refine loads ?_
      rw [loadGain_shaped length, if_neg (standing standby), gainRange_eq_false.mpr outside]
      rfl
    · exact loads (loadGain_misshapen length first _)
  · rw [loadGain_shaped length, if_neg (standing standby), gainRange_iff.mpr within, writeGain_eq, length]
    rfl
  · rw [readGain, gainRange_eq_false.mpr outside]
    rfl
  · rw [readGain, gainRange_iff.mpr within]
    simp only [num16_gainAt]
    rfl

/-! ## The settings of inputs and buses (R89, R90, R92, R93, R95) -/

theorem setFader_unnamed {input : Byte} (above : 15 < input.toNat) (target step : Byte) (c : Chip) :
    setFader input target step c = refuse .refusedRange c := by
  rw [setFader, inputOf_none.mpr above]

theorem setFader_named {input : Byte} {i : InputNo} (named : inputOf input = some i) (target step : Byte) (c : Chip) :
    setFader input target step c =
      (modInput i (fun x => { x with fader :=
        ⟨x.fader.index, target.toNat, x.fader.index, within 1 32 step.toNat⟩ }) c,
       doneReply (outside 1 32 step.toNat)) := by
  have order : 1 ≤ 32 := by decide
  simp only [setFader, named, BudgetAndRate.clampNat_eq_within order, BudgetAndRate.decide_within_ne order]
  rfl

theorem ctxChoiceOf_none {link : Byte} : ctxChoiceOf link = none ↔ 5 < link.toNat ∧ link.toNat ≠ 255 := by
  revert link; decide

theorem ctxChoiceOf_noLink {link : Byte} (noLink : link.toNat = 255) : ctxChoiceOf link = some none :=
  if_pos ((byte_eq_ofNat link (by decide)).mpr noLink)

theorem ctxChoiceOf_ctx {link : Byte} {k : Ctx} (number : k.val = link.toNat) : ctxChoiceOf link = some (some k) := by
  have other : ¬link = 255#8 := fun e => by
    have := k.isLt
    have : link.toNat = 255 := (byte_eq_ofNat link (by decide)).mp e
    omega
  rw [ctxChoiceOf, if_neg other, ctxOf_some.mpr number.symm]
  rfl

theorem setAfv_unnamed {input link : Byte} (unnamed : 15 < input.toNat ∨ (5 < link.toNat ∧ link.toNat ≠ 255))
    (onIndex offIndex : Byte) (c : Chip) : setAfv input link onIndex offIndex c = refuse .refusedRange c := by
  unfold setAfv
  split
  · rename_i i choice input link
    obtain above | above := unnamed
    · cases input.symm.trans (inputOf_none.mpr above)
    · cases link.symm.trans (ctxChoiceOf_none.mpr above)
  · rfl

theorem setAfv_named {input link : Byte} {i : InputNo} {choice : Option Ctx} (named : inputOf input = some i)
    (chosen : ctxChoiceOf link = some choice) (onIndex offIndex : Byte) (c : Chip) :
    setAfv input link onIndex offIndex c =
      (modInput i (fun x => { x with link := choice.map fun k => ⟨k, onIndex.toNat, offIndex.toNat⟩ }) c,
       reply .done) := by
  simp only [setAfv, named, chosen]

theorem setSends_unnamed {input : Byte} (above : 15 < input.toNat) (pgmL pgmR auxA auxB : Byte) (c : Chip) :
    setSends input pgmL pgmR auxA auxB c = refuse .refusedRange c := by
  rw [setSends, inputOf_none.mpr above]

theorem setSends_named {input : Byte} {i : InputNo} (named : inputOf input = some i) (pgmL pgmR auxA auxB : Byte)
    (c : Chip) : setSends input pgmL pgmR auxA auxB c =
      (modInput i (fun x => { x with sends := #v[pgmL.toNat, pgmR.toNat, auxA.toNat, auxB.toNat] }) c,
       reply .done) := by
  rw [setSends, named]

/-- R188: a choice of OFF or ON is whether its byte is 1. -/
theorem onOffOf_decide {b : Byte} (choice : b.toNat ≤ 1) : onOffOf b = some (decide (b.toNat = 1)) := by
  rw [onOffOf_some]
  split
  · exact of_decide_eq_true ‹_›
  · have : ¬b.toNat = 1 := of_decide_eq_false (Bool.eq_false_iff.mpr ‹_›)
    omega

theorem setBus_unnamed {bus mute : Byte} (unnamed : 3 < bus.toNat ∨ 1 < mute.toNat) (master : Byte)
    (stream : BitVec 16) (c : Chip) : setBus bus master mute stream c = refuse .refusedRange c := by
  unfold setBus
  split
  · rename_i b mu bus mute
    obtain above | above := unnamed
    · cases bus.symm.trans (busOf_none.mpr above)
    · cases mute.symm.trans (onOffOf_none.mpr above)
  · rfl

/-- R93: for a bus and a choice that are named the stream is read for the two AUX buses alone. -/
theorem setBus_named {bus mute : Byte} {b : BusNo} (number : b.val = bus.toNat) (choice : mute.toNat ≤ 1)
    (master : Byte) (stream : BitVec 16) (c : Chip) : setBus bus master mute stream c =
      if 2 ≤ b.val then
        if clampStream stream = 1#12 then refuse .refusedRange c
        else
          ({ c with mixer :=
               storeAuxStream b (clampStream stream) (storeBus b master.toNat (decide (mute.toNat = 1)) c.mixer) },
           doneReply (streamClamped stream))
      else ({ c with mixer := storeBus b master.toNat (decide (mute.toNat = 1)) c.mixer }, reply .done) := by
  simp only [setBus, busOf_some.mpr number.symm, onOffOf_decide choice]

/-- R93: an AUX bus stores its stream, clamped. -/
theorem setBus_aux {bus mute : Byte} {b : BusNo} (number : b.val = bus.toNat) (choice : mute.toNat ≤ 1)
    (aux : 2 ≤ b.val) {stream : BitVec 16} (other : stream.toNat ≠ 1) (master : Byte) (c : Chip) :
    setBus bus master mute stream c =
      (let stored := storeBus b master.toNat (decide (mute.toNat = 1)) c.mixer
       { c with mixer := storeAuxStream b (BitVec.ofNat 12 (min 4095 stream.toNat)) stored },
       doneReply (4095 < stream.toNat)) := by
  rw [setBus_named number choice, if_pos aux, if_neg (mt (VanFabric.clampStream_eq_iff stream (by decide)).mp other),
    VanFabric.clampStream_eq]
  rfl

theorem setAudioSend_chosen {value : Byte} (choice : value.toNat ≤ 1) (c : Chip) : setAudioSend value c =
    ({ c with mixer := { c.mixer with audioSend := decide (value.toNat = 1) } }, reply .done) := by
  rw [setAudioSend, onOffOf_decide choice]

/-- Settles O31: the tests of each of the five commands, and what is stored where they pass. -/
theorem mixerSettingsAreStored : Obligations.MixerSettingsAreStored := by
  unfold Obligations.MixerSettingsAreStored
  intro tag input a b d e stream s room
  have named : ∀ {i : InputNo}, i.val = input.toNat → inputOf input = some i := fun number =>
    inputOf_some.mpr number.symm
  refine ⟨fun above => ⟨?_, ?_, ?_⟩, fun i number => ⟨?_, fun above other => ?_, fun noLink => ?_, fun k link => ?_,
      ?_⟩, fun unnamed => ?_, fun choice j bus => ⟨fun programme => ?_, fun aux one => ?_, fun auxA other => ?_,
      fun auxB other => ?_⟩, fun above => ?_, fun choice => ?_⟩
  all_goals refine Clockwork.answers_of_work room rfl ?_
  · exact setFader_unnamed above ..
  · exact setAfv_unnamed (.inl above) ..
  · exact setSends_unnamed above ..
  · exact setFader_named (named number) ..
  · exact setAfv_unnamed (.inr ⟨above, other⟩) ..
  · exact setAfv_named (named number) (ctxChoiceOf_noLink noLink) ..
  · exact setAfv_named (named number) (ctxChoiceOf_ctx link) ..
  · exact setSends_named (named number) ..
  · exact setBus_unnamed unnamed ..
  · exact (setBus_named bus choice ..).trans (if_neg (Nat.not_le_of_lt programme))
  · rw [setBus_named bus choice, if_pos aux, if_pos ((VanFabric.clampStream_eq_iff stream (by decide)).mpr one)]
    rfl
  · obtain rfl : j = 2 := Fin.ext auxA
    exact setBus_aux bus choice (by decide) other ..
  · obtain rfl : j = 3 := Fin.ext auxB
    exact setBus_aux bus choice (by decide) other ..
  · rw [setAudioSend, onOffOf_none.mpr above]
    rfl
  · exact setAudioSend_chosen choice _

/-! ## READ_METERS (R87) and AUDIO_INPUT_LOST (R79) -/

theorem toList_eq_map {α : Type} {n : Nat} (v : Vector α n) : v.toList = (List.finRange n).map (fun k => v[k]) := by
  conv_lhs => rw [eq_ofFn fun k => (rfl : v[k] = v[k]), Vector.toList_ofFn, List.ofFn_eq_map]

theorem allBuses_eq : allBuses = List.finRange 4 := rfl

theorem readMeters_eq (c : Chip) : readMeters c =
    ({ c with mixer := { c.mixer with
        buses := Vector.ofFn fun b : BusNo => { c.mixer.buses[b] with meter := 0 } } },
      ⟨.done, allBuses.flatMap fun b => be32 (BitVec.ofNat 32 c.mixer.buses[b].meter)⟩) := by
  rw [readMeters, eq_ofFn (mapAll_get _ _), toList_eq_map, ← allBuses_eq, List.flatMap_map]
  rfl

theorem atLastUnderrun_iff {x : Input} :
    atLastUnderrun x = true ↔ x.active = true ∧ x.buffer = [] ∧ 99 ≤ x.underrunRun := by
  simp [atLastUnderrun, and_assoc]

/-- R79: at its hundredth underrun in a row an input becomes IDLE, the underrun counted and the count of them 0. -/
theorem takeBlock_lost (i : InputNo) {c : Chip} (last : atLastUnderrun c.mixer.inputs[i] = true) :
    (takeBlock i c).1 = setAttention [.audioInputLost] { c with mixer := { c.mixer with
      inputs := modAt c.mixer.inputs i (fun x =>
        { x with active := false, underrunRun := 0, underruns := bump x.underruns }),
      inputsLost := bump c.mixer.inputsLost } } := by
  rw [takeBlock_atLastUnderrun i last, loseInput]
  simp only [modInput, Clockwork.modAt_modAt]

/-- Settles O32: the meters answered and cleared, and the event's test with what it does where it passes. -/
theorem metersAreReadAndInputsLost : Obligations.MetersAreReadAndInputsLost := by
  unfold Obligations.MetersAreReadAndInputsLost
  intro tag i s
  refine ⟨fun room => Clockwork.answers_of_work room rfl (readMeters_eq (holdPlace s.chip)), ?_⟩
  intro gone
  have due : (s.chip.port.mode = .run && atLastUnderrun s.chip.mixer.inputs[i]) = true ↔ gone := by
    rw [Bool.and_eq_true, decide_eq_true_eq, atLastUnderrun_iff]
  refine ⟨fun isGone => Clockwork.ends_of_work rfl ((if_pos (due.mpr isGone)).trans (takeBlock_lost i ?_)),
    fun not => Clockwork.ends_of_work rfl (if_neg (mt due.mp not))⟩
  exact atLastUnderrun_iff.mpr isGone.2

end Sys2Proof.SoundMixer

end


section
/-! The block tick beside the mixer: the frame scheduler and the link controller leave the mixer alone, and set neither
of the mixer's two classes. -/

namespace Sys2Proof.SoundMixer

open Sys2Proof.Machine Sys2Proof.Safety Sys2Proof.Claims Sys2Proof.Clockwork

/-- The classes that the mixer sets (R79, R86). -/
def mixerClasses : List AttClass := [.audioClip, .audioInputLost]

/-- Work beside the mixer: the mixer and the part mode are as they were, and so is each of the mixer's classes in the
attention set. -/
structure BesideMixer (c d : Chip) : Prop where
  mixer : d.mixer = c.mixer
  mode : d.port.mode = c.port.mode
  attention : ∀ a ∈ mixerClasses, (attHas d.port.attention a = true ↔ attHas c.port.attention a = true)

theorem beside_refl (c : Chip) : BesideMixer c c := ⟨rfl, rfl, fun _ _ => Iff.rfl⟩

theorem BesideMixer.trans {b c d : Chip} (h : BesideMixer b c) (h' : BesideMixer c d) : BesideMixer b d :=
  ⟨h'.mixer.trans h.mixer, h'.mode.trans h.mode, fun a own => (h'.attention a own).trans (h.attention a own)⟩

variable {c d : Chip}

/-- A chain of such work may end with any change that touches neither the mixer nor the mode and the attention set. -/
theorem beside_quiet {d' : Chip} (h : BesideMixer c d) (mixer : d'.mixer = d.mixer := by exact rfl)
    (mode : d'.port.mode = d.port.mode := by exact rfl)
    (attention : d'.port.attention = d.port.attention := by exact rfl) : BesideMixer c d' :=
  h.trans ⟨mixer, mode, fun _ _ => by rw [attention]⟩

theorem beside_foldl {α : Type} {f : Chip → α → Chip} (hf : ∀ d a, BesideMixer c d → BesideMixer c (f d a)) (l : List α)
    (h : BesideMixer c d) : BesideMixer c (l.foldl f d) := by
  induction l generalizing d with
  | nil => exact h
  | cons a l ih => exact ih (hf d a h)

/-- Classes that are not the mixer's are set. -/
theorem beside_setAttention (as : List AttClass) (h : BesideMixer c d)
    (others : ∀ a ∈ as, a ∉ mixerClasses := by decide) : BesideMixer c (setAttention as d) := by
  refine h.trans ⟨setAttention_mixer as d, setAttention_mode as d, fun a own => ?_⟩
  rw [attHas_setAttention, or_iff_left fun set => others a set own]

/-! ## The clip log and delivery accounting (chapters 10 and 11) -/

theorem beside_labelSent (i : Nat) (h : BesideMixer c d) : BesideMixer c (labelSent i d) := by
  unfold labelSent
  split
  · split
    · exact beside_quiet h
    · exact h
  · exact h

theorem beside_countDelivered (n : Nat) (h : BesideMixer c d) : BesideMixer c (countDelivered n d) := by
  unfold countDelivered setAttentionIf
  split
  · exact beside_setAttention _ (beside_quiet h)
  · exact beside_quiet h

theorem beside_labelDelivered (i : Nat) (h : BesideMixer c d) : BesideMixer c (labelDelivered i d) := by
  unfold labelDelivered
  split
  · split
    · split
      · exact beside_countDelivered 1 (beside_quiet h)
      · exact beside_quiet h
    · exact h
  · exact h

theorem beside_labelLost (i : Nat) (h : BesideMixer c d) : BesideMixer c (labelLost i d) := by
  unfold labelLost
  split
  · split
    · exact beside_setAttention _ (beside_quiet h)
    · exact h
  · exact h

theorem beside_writeLog (e : LogEntry) (h : BesideMixer c d) : BesideMixer c (writeLog e d) := by
  unfold writeLog
  split
  · exact beside_quiet h
  · exact beside_setAttention _ (beside_quiet h)

theorem beside_clipsTakePicture (k : Ctx) (p : PicNum) (bad : Bool) (lw : PicNum) (h : BesideMixer c d) :
    BesideMixer c (clipsTakePicture k p bad lw d) := by
  cases bad
  all_goals exact beside_countDelivered _ (beside_quiet h)

/-- R151, step 3: an outcome sets no class of the mixer. -/
theorem outcomeAttention_others (o : PicOutcome) : ∀ a ∈ outcomeAttention o, a ∉ mixerClasses := by
  cases o
  all_goals simp [outcomeAttention, mixerClasses]

theorem beside_resolve (p : Picture) (q : Option Nat) (sends : Nat) (o : PicOutcome) (h : BesideMixer c d) :
    BesideMixer c (resolve p q sends o d) := by
  unfold resolve
  extract_lets k acct counted noted handed
  have counted : BesideMixer c counted := beside_quiet h
  have noted : BesideMixer c noted := beside_quiet (beside_setAttention _ counted (outcomeAttention_others o))
  have handed : BesideMixer c handed := beside_clipsTakePicture _ _ _ _ noted
  split
  · exact beside_writeLog _ handed
  · exact handed

theorem beside_endDrainedContext (k : Ctx) (h : BesideMixer c d) : BesideMixer c (endDrainedContext k d) := by
  unfold endDrainedContext
  split
  · exact beside_quiet h
  · exact h

theorem beside_judgeQueued (k : Ctx) (n : PicNum) (h : BesideMixer c d) : BesideMixer c (judgeQueued k n d) := by
  unfold judgeQueued
  split
  · exact h
  · split
    · exact beside_endDrainedContext k (beside_resolve _ _ _ _ (beside_quiet h))
    · exact h

theorem beside_changeQueued (k : Ctx) (n : PicNum) (f : Queued → Queued) (h : BesideMixer c d) :
    BesideMixer c (changeQueued k n f d) :=
  beside_judgeQueued k n (beside_quiet h)

/-! ## Settlement (section 9.5) and the home link (chapter 8) -/

theorem beside_settle (delivered : Bool) (e : Entry) (h : BesideMixer c d) : BesideMixer c (settle delivered e d) := by
  have counted : BesideMixer c (countLost delivered d) := beside_quiet h
  unfold settle
  dsimp only
  split
  · exact beside_changeQueued _ _ _ counted
  · refine beside_writeLog _ ?_
    split
    · exact beside_labelDelivered _ counted
    · exact beside_labelLost _ counted

theorem beside_enterLink (st : LinkState) (also : List AttClass) (h : BesideMixer c d)
    (others : ∀ a ∈ AttClass.linkState :: also, a ∉ mixerClasses := by decide) : BesideMixer c (enterLink st also d) :=
  beside_setAttention _ (beside_quiet h) others

theorem beside_windowExpiry (h : BesideMixer c d) : BesideMixer c (windowExpiry d) := by
  unfold windowExpiry
  split
  · exact h
  · split
    · exact beside_quiet h
    · exact beside_enterLink _ _ (beside_quiet h)

theorem beside_gapExpiry (h : BesideMixer c d) : BesideMixer c (gapExpiry d) := by
  unfold gapExpiry
  split
  all_goals exact beside_quiet h

theorem beside_declareAllLost (h : BesideMixer c d) : BesideMixer c (declareAllLost d) :=
  beside_foldl (fun _ e => beside_settle false e) _ (beside_quiet h)

theorem beside_drainEnd (h : BesideMixer c d) : BesideMixer c (drainEnd d) := by
  unfold drainEnd
  extract_lets complete stopped
  have stopped : BesideMixer c stopped := beside_quiet h
  exact beside_enterLink _ _ (beside_quiet (beside_declareAllLost stopped))

theorem beside_checkDrain (h : BesideMixer c d) : BesideMixer c (checkDrain d) := by
  unfold checkDrain
  split
  · exact beside_drainEnd h
  · exact h

theorem beside_takeDrain (h : BesideMixer c d) : BesideMixer c (takeDrain d) := by
  unfold takeDrain drainExpiry
  split
  · split
    · exact h
    · split
      · exact beside_drainEnd h
      · exact h
  · exact h

theorem beside_takeSilence (h : BesideMixer c d) : BesideMixer c (takeSilence d) := by
  unfold takeSilence silenceRunsOut
  split
  · split
    · exact h
    · dsimp only
      split
      · exact beside_enterLink _ _ (beside_quiet h)
      · exact beside_drainEnd (beside_quiet h)
      all_goals exact h
  · exact h

theorem beside_linkTick (silenceFirst : Bool) (h : BesideMixer c d) : BesideMixer c (linkTick silenceFirst d) := by
  unfold linkTick
  extract_lets counted window gap windowed gapped
  have counted : BesideMixer c counted := beside_quiet h
  have windowed : BesideMixer c windowed := by
    unfold windowed
    split
    · exact beside_windowExpiry counted
    · exact counted
  have gapped : BesideMixer c gapped := by
    unfold gapped
    split
    · exact beside_gapExpiry windowed
    · exact windowed
  split
  · exact beside_takeDrain (beside_takeSilence gapped)
  · exact beside_takeSilence (beside_takeDrain gapped)

/-! ## The frame scheduler (chapter 9) -/

/-- An entry that leaves the lists is settled, and the drain may end with it. -/
theorem beside_settled (delivered : Bool) (e : Entry) (h : BesideMixer c d) :
    BesideMixer c (checkDrain (settle delivered e d)) :=
  beside_checkDrain (beside_settle delivered e h)

theorem beside_ackExpiry (n : FrameNum) (h : BesideMixer c d) : BesideMixer c (ackExpiry n d) := by
  unfold ackExpiry expire
  split
  · split
    · exact beside_quiet h
    · exact beside_settled _ _ (beside_quiet h)
  · exact h

theorem beside_loseResend (e : Entry) (h : BesideMixer c d) : BesideMixer c (loseResend e d) := by
  unfold loseResend
  split
  · exact beside_settled _ _ (beside_quiet h)
  · exact h

theorem beside_deadlinePasses (k : Ctx) (n : PicNum) (h : BesideMixer c d) : BesideMixer c (deadlinePasses k n d) := by
  unfold deadlinePasses
  split
  · split
    · exact h
    · exact beside_foldl (fun _ e => beside_loseResend e) _ (beside_changeQueued _ _ _ (beside_quiet h))
  · exact h

theorem beside_sendFound (f : Found) (h : BesideMixer c d) : BesideMixer c (sendFound f d) := by
  cases f with
  | audio a => exact beside_quiet h
  | pass x => exact beside_quiet h
  | label l => exact beside_labelSent _ (beside_quiet h)
  | video k q rotated => exact beside_changeQueued _ _ _ (beside_quiet h)
  | resend e =>
    show BesideMixer c (resendEntry e d)
    unfold resendEntry noteResend
    split
    · exact beside_changeQueued _ _ _ (beside_quiet h)
    · exact beside_quiet h

theorem beside_selectFrames (fuel : Nat) (h : BesideMixer c d) : BesideMixer c (selectFrames fuel d) := by
  induction fuel generalizing d with
  | zero => exact h
  | succ fuel ih =>
    unfold selectFrames
    split
    · exact h
    · split
      · exact ih (beside_sendFound _ h)
      · exact h

theorem beside_schedulerTick (h : BesideMixer c d) : BesideMixer c (schedulerTick d) := by
  have earned : BesideMixer c (earnCredit d) := by
    unfold earnCredit
    split
    · exact beside_quiet h
    · exact h
  have expired : BesideMixer c (expireWindows (earnCredit d)) :=
    beside_foldl (fun _ (e : Entry) => beside_ackExpiry e.frame) _ (beside_quiet earned)
  have due : BesideMixer c (applyDeadlines (expireWindows (earnCredit d))) :=
    beside_foldl (fun _ _ => beside_foldl (fun _ (q : Queued) => beside_deadlinePasses _ q.picture.number) _) _ expired
  unfold schedulerTick selectTick
  split
  · exact beside_selectFrames _ due
  · exact due

/-! ## The parts of a tick, the mixer among them (R22) -/

/-- The parts but the mixer, in any order. -/
theorem beside_tickParts {l : List TickPart} (silenceFirst : Bool) (others : TickPart.mixer ∉ l) (h : BesideMixer c d) :
    BesideMixer c (l.foldl (fun d p => tickPart silenceFirst p d) d) := by
  induction l generalizing d with
  | nil => exact h
  | cons p l ih =>
    rw [List.mem_cons, not_or] at others
    obtain ⟨head, tail⟩ := others
    refine ih tail ?_
    cases p with
    | mixer => exact absurd rfl head
    | scheduler => exact beside_schedulerTick h
    | link => exact beside_linkTick silenceFirst h

/-- R22: whatever the order, the mixer takes the tick once, with work beside it before and after. -/
theorem tickWork_mixerTick (c : Chip) :
    ∃ d, BesideMixer (tickBegun c) d ∧ BesideMixer (mixerTick d) (tickWork c) := by
  have split : ∀ o : TickOrder, ∃ before after, tickParts o = before ++ .mixer :: after ∧
      TickPart.mixer ∉ before ∧ TickPart.mixer ∉ after := fun o => by
    have taken : TickPart.mixer ∈ tickParts o := by cases o <;> decide
    have once : (tickParts o).Nodup := by cases o <;> decide
    obtain ⟨before, after, parts⟩ := List.append_of_mem taken
    rw [parts, List.nodup_middle, List.nodup_cons, List.mem_append, not_or] at once
    exact ⟨before, after, parts, once.1⟩
  obtain ⟨before, after, parts, notBefore, notAfter⟩ := split (Config.tickOrder c.choices)
  rw [tickWork_eq, parts, List.foldl_append, List.foldl_cons]
  exact ⟨_, beside_tickParts _ notBefore (beside_refl _), beside_tickParts _ notAfter (beside_refl _)⟩

end Sys2Proof.SoundMixer

end


section
/-! The mixer's work at a block tick in RUN (R79, R83 to R86, R88): the blocks taken, the faders moved, the mix stage by
stage, and what is counted and metered. -/

namespace Sys2Proof.SoundMixer

open Sys2Proof.Machine Sys2Proof.Safety Sys2Proof.Claims Sys2Proof.Clockwork

/-! ## The blocks taken (R79) -/

/-- R79: the block that an input gives at a tick: its oldest, or silence. -/
def blockGiven (x : Input) : List Sample := x.buffer.headD silence

/-- R79: an input after a tick has taken its block or counted its underrun. -/
def inputAfter (x : Input) : Input :=
  match x.buffer with
  | _ :: rest => { x with buffer := rest, blocksTaken := bump x.blocksTaken, underrunRun := 0 }
  | [] =>
    if x.active then
      if 99 ≤ x.underrunRun then { x with active := false, underrunRun := 0, underruns := bump x.underruns }
      else { x with underruns := bump x.underruns, underrunRun := x.underrunRun + 1 }
    else x

theorem inputAfter_ticked (x : Input) : InputTicked x (inputAfter x) := by
  unfold inputAfter
  split
  · rename_i b rest held
    simp [InputTicked, held]
  · rename_i empty
    split
    · rename_i active
      split
      all_goals
        rename_i run
        simp [InputTicked, empty, active, run]
    · rename_i idle
      simp [InputTicked, empty, idle]

/-- R79: what the taking of a block leaves of an input. -/
theorem inputAfter_settings (x : Input) : (inputAfter x).fader = x.fader ∧ (inputAfter x).sends = x.sends ∧
    (inputAfter x).link = x.link ∧ (inputAfter x).inputClips = x.inputClips ∧
    (inputAfter x).sendClips = x.sendClips ∧ (inputAfter x).lengthErrors = x.lengthErrors ∧
    (inputAfter x).overruns = x.overruns := by
  unfold inputAfter
  repeat' split
  all_goals exact ⟨rfl, rfl, rfl, rfl, rfl, rfl, rfl⟩

/-- R79: the blocks of some inputs are taken. These inputs are as after the tick, and those whose underruns are out are
counted; the rest of the mixer is as it was; and AUDIO_INPUT_LOST is set where there is one of them. -/
structure BlocksTaken (l : List InputNo) (c d : Chip) : Prop where
  input : ∀ j : InputNo, d.mixer.inputs[j] = if j ∈ l then inputAfter c.mixer.inputs[j] else c.mixer.inputs[j]
  lost : d.mixer.inputsLost = bumpBy (l.countP fun i => underrunsOut c.mixer.inputs[i]) c.mixer.inputsLost
  others : { d.mixer with inputs := c.mixer.inputs, inputsLost := c.mixer.inputsLost } = c.mixer
  attention : ∀ a, attHas d.port.attention a = true ↔ attHas c.port.attention a = true ∨
    (a = .audioInputLost ∧ ∃ i ∈ l, underrunsOut c.mixer.inputs[i] = true)

theorem blocksTaken_nil (c : Chip) : BlocksTaken [] c c :=
  ⟨fun _ => rfl, (bumpBy_zero _).symm, rfl, fun a => by simp⟩

/-- The blocks of some inputs, and then those of others. -/
theorem BlocksTaken.append {l l' : List InputNo} {b c d : Chip} (first : BlocksTaken l b c)
    (rest : BlocksTaken l' c d) (apart : ∀ j ∈ l', j ∉ l) : BlocksTaken (l ++ l') b d := by
  have same : ∀ j ∈ l', c.mixer.inputs[j] = b.mixer.inputs[j] := fun j hj => by
    rw [first.input, if_neg (apart j hj)]
  refine ⟨fun j => ?_, ?_, ?_, fun a => ?_⟩
  · rw [rest.input, first.input]
    by_cases here : j ∈ l'
    · simp [here, apart j here]
    · simp [here]
  · have count : l'.countP (fun j => underrunsOut c.mixer.inputs[j])
        = l'.countP fun j => underrunsOut b.mixer.inputs[j] := List.countP_congr fun j hj => by rw [same j hj]
    rw [rest.lost, first.lost, bumpBy_add, List.countP_append, count]
  · exact (congrArg (fun m : Mixer => { m with inputs := b.mixer.inputs, inputsLost := b.mixer.inputsLost })
      rest.others).trans first.others
  · have there : (∃ j ∈ l', underrunsOut c.mixer.inputs[j] = true) ↔ ∃ j ∈ l', underrunsOut b.mixer.inputs[j] = true :=
      exists_congr fun j => and_congr_right fun hj => by rw [same j hj]
    rw [rest.attention, first.attention, there, or_assoc, ← and_or_left]
    simp only [List.mem_append, or_and_right, exists_or]

/-- R79: what of the mixer the taking of blocks leaves as it was. -/
theorem BlocksTaken.settings {l : List InputNo} {c d : Chip} (h : BlocksTaken l c d) :
    d.mixer.gain = c.mixer.gain ∧ d.mixer.buses = c.mixer.buses ∧ d.mixer.audioSend = c.mixer.audioSend ∧
      d.mixer.auxAStream = c.mixer.auxAStream ∧ d.mixer.auxBStream = c.mixer.auxBStream ∧
      d.mixer.blockCounter = c.mixer.blockCounter := by
  rw [← h.others]
  exact ⟨rfl, rfl, rfl, rfl, rfl, rfl⟩

/-- One input's block, from what its taking makes of the part. -/
theorem blocksTaken_one {i : InputNo} {f : Input → Input} {c d : Chip}
    (inputs : d.mixer.inputs = modAt c.mixer.inputs i f)
    (after : f c.mixer.inputs[i] = inputAfter c.mixer.inputs[i])
    (lost : d.mixer.inputsLost = bumpIf (underrunsOut c.mixer.inputs[i]) c.mixer.inputsLost)
    (others : { d.mixer with inputs := c.mixer.inputs, inputsLost := c.mixer.inputsLost } = c.mixer)
    (attention : ∀ a, attHas d.port.attention a = true ↔ attHas c.port.attention a = true ∨
      (a = .audioInputLost ∧ underrunsOut c.mixer.inputs[i] = true)) : BlocksTaken [i] c d := by
  refine ⟨fun j => ?_, ?_, others, fun a => ?_⟩
  · rw [inputs, modAt_get, if_congr List.mem_singleton.symm rfl rfl]
    by_cases here : j ∈ [i]
    · obtain rfl := List.mem_singleton.mp here
      rw [if_pos here, if_pos here, after]
    · rw [if_neg here, if_neg here]
  · rw [lost, List.countP_singleton]
    cases underrunsOut c.mixer.inputs[i]
    · exact (bumpBy_zero _).symm
    · exact (bumpBy_one _).symm
  · rw [attention]
    simp

theorem modInput_id (i : InputNo) (c : Chip) : modInput i id c = c := by
  have same : modAt c.mixer.inputs i id = c.mixer.inputs := Vector.set_getElem_self _
  rw [modInput, same]

theorem underrunsOut_eq (x : Input) : underrunsOut x = atLastUnderrun x := by
  rw [Bool.eq_iff_iff, atLastUnderrun_iff, underrunsOut, decide_eq_true_eq]

/-- R79: an input's block taken: it gives it, or is silent with its underrun counted, or is silent and IDLE. -/
theorem takeBlock_taken (i : InputNo) (c : Chip) : BlocksTaken [i] c (takeBlock i c).1 := by
  by_cases last : atLastUnderrun c.mixer.inputs[i] = true
  · obtain ⟨active, empty, run⟩ := atLastUnderrun_iff.mp last
    rw [takeBlock_lost i last]
    refine blocksTaken_one (by rw [setAttention_mixer]) ?_ ?_ (by rw [setAttention_mixer]) fun a => ?_
    · simp only [inputAfter, empty, active, run, if_true]
    · rw [setAttention_mixer, underrunsOut_eq, last]
      rfl
    · rw [attHas_setAttention, List.mem_singleton, underrunsOut_eq, last, and_iff_left rfl]
  · have stays : underrunsOut c.mixer.inputs[i] = false := (underrunsOut_eq _).trans (Bool.eq_false_iff.mpr last)
    have quiet : ∀ {f : Input → Input}, f c.mixer.inputs[i] = inputAfter c.mixer.inputs[i] →
        BlocksTaken [i] c (modInput i f c) := fun after =>
      blocksTaken_one rfl after (by rw [stays]; rfl) rfl fun a => by rw [stays]; simp [modInput]
    unfold takeBlock
    dsimp only
    split
    · rename_i b rest held
      exact quiet (by rw [inputAfter, held])
    · rename_i empty
      split
      · rename_i active
        have short : ¬99 ≤ c.mixer.inputs[i].underrunRun := fun run =>
          last (atLastUnderrun_iff.mpr ⟨active, empty, run⟩)
        rw [if_neg (by omega)]
        exact quiet (by simp only [inputAfter, empty, active, short, if_true, if_false])
      · rename_i idle
        have same : BlocksTaken [i] c (modInput i id c) := quiet (by simp only [inputAfter, empty, idle]; rfl)
        rwa [modInput_id] at same

theorem takeBlock_given (i : InputNo) (c : Chip) : (takeBlock i c).2 = blockGiven c.mixer.inputs[i] := by
  unfold takeBlock
  dsimp only
  split
  · rename_i held
    rw [blockGiven, held]
    rfl
  · rename_i empty
    rw [blockGiven, empty]
    split
    all_goals rfl

/-- R83, step 1: the blocks of inputs taken in their order. -/
theorem takeBlocks_fold {l : List InputNo} (once : l.Nodup) (c : Chip) (given : List (List Sample)) :
    let t := l.foldl (fun acc i =>
      let t := takeBlock i acc.1
      (t.1, acc.2 ++ [t.2])) (c, given)
    BlocksTaken l c t.1 ∧ t.2 = given ++ l.map fun i => blockGiven c.mixer.inputs[i] := by
  induction l generalizing c given with
  | nil => exact ⟨blocksTaken_nil c, (List.append_nil given).symm⟩
  | cons i l ih =>
    obtain ⟨other, once⟩ := List.nodup_cons.mp once
    have first := takeBlock_taken i c
    have apart : ∀ j ∈ l, j ∉ [i] := fun j hj here => other (List.mem_singleton.mp here ▸ hj)
    obtain ⟨rest, blocks⟩ := ih once (takeBlock i c).1 (given ++ [(takeBlock i c).2])
    refine ⟨first.append rest apart, blocks.trans ?_⟩
    have same : l.map (fun j => blockGiven (takeBlock i c).1.mixer.inputs[j])
        = l.map fun j => blockGiven c.mixer.inputs[j] := List.map_congr_left fun j hj => by
      rw [first.input, if_neg (apart j hj)]
    rw [same, takeBlock_given, List.map_cons, List.append_assoc, List.singleton_append]

theorem takeBlocks_taken (c : Chip) : BlocksTaken allInputs c (takeBlocks c).1 ∧
    (takeBlocks c).2 = allInputs.map fun i => blockGiven c.mixer.inputs[i] :=
  takeBlocks_fold (by decide) c []

/-! ## One stage on a block (R80, R84 to R86) -/

/-- The block whose sample at each position is given. -/
def blockAt (x : Nat → Int) : List Int := (List.range 48).map x

theorem gainRead_eq (m : Mixer) (n : Nat) : gainRead m n = (gainAt m.gain n : Int) := by
  unfold gainRead gainAt
  split
  all_goals rfl

theorem fdiv_eq_scale (gain : Nat) (x : Int) : Int.fdiv (x * gain) 4096 = scale gain x :=
  Int.fdiv_eq_ediv_of_nonneg _ (by decide)

theorem saturate_scale (gain : Nat) (x : Int) : saturate (scale gain x) = mixStage gain x := by
  unfold mixStage saturate
  rw [fdiv_eq_scale]
  split
  · omega
  · split <;> omega

theorem stage_blockAt (gain : Nat) (x : Nat → Int) :
    stage gain (blockAt x) = blockAt fun p => mixStage gain (x p) := by
  simp only [stage, blockAt, List.map_map, Function.comp_def, saturate_scale]

theorem stageClips_blockAt (gain : Nat) (x : Nat → Int) : stageClips gain (blockAt x) = saturated gain x := by
  unfold stageClips blockAt saturated
  rw [List.countP_map]
  refine List.countP_congr fun p _ => ?_
  simp [clips, fdiv_eq_scale]

/-- R79: the samples of the block that an input gives. -/
theorem blockInts_blockGiven (x : Input) : blockInts (blockGiven x) = blockAt (sampleAt x) := by
  refine List.map_congr_left fun p hp => ?_
  unfold sampleAt
  split
  · rename_i held
    rw [blockGiven, held]
    rfl
  · rename_i empty
    rw [blockGiven, empty, List.headD_nil, silence, List.getD_replicate _ (List.mem_range.mp hp)]
    rfl

/-- R86: the sums of blocks, position by position. -/
theorem sumBlocks_blockAt (x : InputNo → Nat → Int) :
    sumBlocks (allInputs.map fun i => blockAt (x i)) = blockAt fun p => ∑ i, x i p := by
  refine List.map_congr_left fun p hp => ?_
  have here : p < 48 := List.mem_range.mp hp
  have sample : ∀ i, (blockAt (x i)).getD p 0 = x i p := fun i => by simp [blockAt, here]
  rw [List.map_map, ← List.sum_ofFn, List.ofFn_eq_map]
  exact congrArg List.sum (List.map_congr_left fun i _ => sample i)

/-- R86: the largest of a block is at least each of its samples, and 0 or one of them. -/
theorem peakOf_blockAt (x : Nat → Int) : (∀ p, p < 48 → (x p).natAbs ≤ peakOf (blockAt x)) ∧
    (peakOf (blockAt x) = 0 ∨ ∃ p, p < 48 ∧ peakOf (blockAt x) = (x p).natAbs) := by
  have fold : ∀ (l : List Nat) (a : Nat), let m := (l.map x).foldl (fun a y => max a y.natAbs) a
      a ≤ m ∧ (∀ p ∈ l, (x p).natAbs ≤ m) ∧ (m = a ∨ ∃ p ∈ l, m = (x p).natAbs) := by
    intro l
    induction l with
    | nil => exact fun a => ⟨le_rfl, nofun, .inl rfl⟩
    | cons q l ih =>
      intro a
      obtain ⟨least, above, attained⟩ := ih (max a (x q).natAbs)
      obtain ⟨old, here⟩ := max_le_iff.mp least
      refine ⟨old, List.forall_mem_cons.mpr ⟨here, above⟩, ?_⟩
      obtain start | ⟨p, later, peak⟩ := attained
      · obtain stays | rises := max_choice a (x q).natAbs
        · exact .inl (start.trans stays)
        · exact .inr ⟨q, List.mem_cons_self, start.trans rises⟩
      · exact .inr ⟨p, List.mem_cons_of_mem q later, peak⟩
  obtain ⟨-, above, attained⟩ := fold (List.range 48) 0
  simp only [List.mem_range] at above attained
  exact ⟨above, attained⟩

/-! ## The mix (R84 to R86, R88) -/

/-- R83: a mixer and blocks as the mix finds them, of the mixer m that a tick finds: the faders moved, and each input's
block given. -/
structure Mixing (m n : Mixer) (blocks : List (List Sample)) : Prop where
  gain : n.gain = m.gain
  buses : n.buses = m.buses
  index : ∀ i : InputNo, n.inputs[i].fader.index = movedIndex m.inputs[i].fader
  sends : ∀ i : InputNo, n.inputs[i].sends = m.inputs[i].sends
  block : ∀ i : InputNo, blocks.getD i.val [] = blockGiven m.inputs[i]

variable {m n : Mixer} {blocks : List (List Sample)}

theorem Mixing.gainAt (h : Mixing m n blocks) (k : Nat) : (gainAt n.gain k : Int) = gainRead m k := by
  rw [gainRead_eq, h.gain]

theorem Mixing.faderGain (h : Mixing m n blocks) (i : InputNo) :
    (Machine.gainAt n.gain n.inputs[i].fader.index : Int) = faderGain m i := by
  rw [h.gainAt, h.index, Claims.faderGain]

theorem Mixing.faderStage (h : Mixing m n blocks) (i : InputNo) :
    faderStage n n.inputs[i] (blocks.getD i.val []) = blockAt (faded m i) := by
  rw [Machine.faderStage, h.block, blockInts_blockGiven, stage_blockAt, h.faderGain]
  rfl

theorem Mixing.faderClips (h : Mixing m n blocks) (i : InputNo) :
    faderClips n n.inputs[i] (blocks.getD i.val []) = faderSaturated m i := by
  rw [Machine.faderClips, h.block, blockInts_blockGiven, stageClips_blockAt, h.faderGain]
  rfl

theorem Mixing.sendStage (h : Mixing m n blocks) (i : InputNo) (b : BusNo) :
    sendStage n n.inputs[i] b (blocks.getD i.val []) =
      blockAt fun p => mixStage (gainRead m m.inputs[i].sends[b]) (faded m i p) := by
  rw [Machine.sendStage, h.faderStage, stage_blockAt, h.gainAt, h.sends]

theorem Mixing.sendClips (h : Mixing m n blocks) (i : InputNo) :
    sendClipsOf n n.inputs[i] (blocks.getD i.val []) = sendsSaturated m i := by
  simp only [sendClipsOf, h.faderStage, stageClips_blockAt, h.gainAt, h.sends]
  rw [sendsSaturated, ← List.sum_ofFn, List.ofFn_eq_map]
  rfl

theorem Mixing.busSum (h : Mixing m n blocks) (b : BusNo) : busSum n b blocks = blockAt (busTotal m b) := by
  simp only [Machine.busSum, h.sendStage, sumBlocks_blockAt]
  rfl

theorem Mixing.busOut (h : Mixing m n blocks) (b : BusNo) : busOut n b blocks = blockAt (busSample m b) := by
  rw [Machine.busOut, h.busSum, stage_blockAt, h.gainAt, h.buses]
  unfold busSample
  split
  · rfl
  · rfl

theorem Mixing.busClips (h : Mixing m n blocks) (b : BusNo) : busClipCount n b blocks = busSaturated m b := by
  rw [busClipCount, h.busSum, stageClips_blockAt, h.gainAt, h.buses]
  rfl

/-- R83, steps 1 and 2: an input with its block taken and its fader moved. -/
theorem BlocksTaken.moved {c d : Chip} (taken : BlocksTaken allInputs c d) (i : InputNo) :
    (moveFaders d.mixer).inputs[i] = { inputAfter c.mixer.inputs[i] with
      fader := { c.mixer.inputs[i].fader with index := movedIndex c.mixer.inputs[i].fader } } := by
  have fader := (inputAfter_settings c.mixer.inputs[i]).1
  rw [moveFaders, mapAll_get, taken.input, if_pos (mem_allInputs i), fader]
  rfl

/-- R83: what the mix finds at a tick. -/
theorem BlocksTaken.mixing {c d : Chip} (taken : BlocksTaken allInputs c d) :
    Mixing c.mixer (moveFaders d.mixer) (allInputs.map fun i => blockGiven c.mixer.inputs[i]) := by
  obtain ⟨gain, buses, -⟩ := taken.settings
  refine ⟨gain, buses, fun i => ?_, fun i => ?_, fun i => ?_⟩
  · rw [taken.moved]
  · rw [taken.moved]
    exact (inputAfter_settings c.mixer.inputs[i]).2.1
  · have place : allInputs[i.val]? = some i := by revert i; decide
    rw [List.getD_eq_getElem?_getD, List.getElem?_map, place]
    rfl

theorem mixing_takeBlocks (c : Chip) : Mixing c.mixer (moveFaders (takeBlocks c).1.mixer) (takeBlocks c).2 := by
  obtain ⟨taken, given⟩ := takeBlocks_taken c
  rw [given]
  exact taken.mixing

/-! ## The mixer's tick in RUN (R83) -/

theorem buildFrame_port (left right : List Sample) (c : Chip) : (buildFrame left right c).port = c.port := by
  unfold buildFrame queueOrDiscard
  repeat' split
  all_goals rfl

/-- R94: of the mixer the last step moves the block counter, the frame being built and its counters alone. -/
theorem buildFrame_mixer (left right : List Sample) (c : Chip) :
    let d := (buildFrame left right c).mixer
    d = { c.mixer with build := d.build, framesFormed := d.framesFormed, framesDiscarded := d.framesDiscarded,
                       blockCounter := if c.mixer.blockCounter < 3 then c.mixer.blockCounter + 1 else 0 } := by
  unfold buildFrame queueOrDiscard
  dsimp only
  split
  · rfl
  · split
    all_goals rfl

theorem offerAuxBus_mixer (source : OutSource) (stream : Stream) (out : List Int) (c : Chip) :
    (offerAuxBus source stream out c).mixer = c.mixer := by
  unfold offerAuxBus
  split
  · rfl
  · rw [offerAux_mixer]

theorem offerAuxBus_port (source : OutSource) (stream : Stream) (out : List Int) (c : Chip) :
    (offerAuxBus source stream out c).port = c.port := by
  unfold offerAuxBus
  split
  · rfl
  · rw [offerAux_port]

/-- R83: the mixer at the end of its tick: the mix counted, and the frame being built. -/
theorem mixerTick_mixer {c : Chip} (run : c.port.mode = .run) :
    let d := (mixerTick c).mixer
    let mixed := countMix (moveFaders (takeBlocks c).1.mixer) (takeBlocks c).2
    d = { mixed with build := d.build, framesFormed := d.framesFormed, framesDiscarded := d.framesDiscarded,
                     blockCounter := if mixed.blockCounter < 3 then mixed.blockCounter + 1 else 0 } := by
  unfold mixerTick
  simp only [run]
  refine (buildFrame_mixer _ _ _).trans ?_
  rw [offerAuxBus_mixer, offerAuxBus_mixer, setAttentionIf_mixer]

/-- R79, R86: the mixer's tick may set AUDIO_INPUT_LOST and AUDIO_CLIP. -/
theorem mixerTick_attention {c : Chip} (run : c.port.mode = .run) (a : AttClass) :
    attHas (mixerTick c).port.attention a = true ↔ (attHas c.port.attention a = true ∨
      (a = .audioInputLost ∧ ∃ i : InputNo, underrunsOut c.mixer.inputs[i] = true)) ∨
      (a = .audioClip ∧ ∃ b : BusNo, 0 < busSaturated c.mixer b) := by
  have lost : ∀ b : AttClass, attHas (takeBlocks c).1.port.attention b = true ↔ attHas c.port.attention b = true ∨
      (b = .audioInputLost ∧ ∃ i : InputNo, underrunsOut c.mixer.inputs[i] = true) := fun b => by
    simp only [(takeBlocks_taken c).1.attention, mem_allInputs, true_and]
  have clipped :
      allBuses.any (fun j => 0 < busClipCount (moveFaders (takeBlocks c).1.mixer) j (takeBlocks c).2) = true ↔
      ∃ b : BusNo, 0 < busSaturated c.mixer b := by
    simp only [List.any_eq_true, (mixing_takeBlocks c).busClips, decide_eq_true_eq, mem_allBuses, true_and]
  unfold mixerTick
  simp only [run, buildFrame_port, offerAuxBus_port]
  unfold setAttentionIf
  split
  · rename_i any
    rw [attHas_setAttention, List.mem_singleton, lost, and_iff_left (clipped.mp any)]
  · rename_i none
    have absent : ¬(a = .audioClip ∧ ∃ b : BusNo, 0 < busSaturated c.mixer b) := fun set => none (clipped.mpr set.2)
    rw [lost, or_iff_left absent]

/-- R79, R84, R85, R88: an input after the mixer's tick. -/
theorem mixerTick_input {c : Chip} (run : c.port.mode = .run) (i : InputNo) :
    (mixerTick c).mixer.inputs[i] = { inputAfter c.mixer.inputs[i] with
      fader := { c.mixer.inputs[i].fader with index := movedIndex c.mixer.inputs[i].fader }
      inputClips := bumpBy (faderSaturated c.mixer i) c.mixer.inputs[i].inputClips
      sendClips := bumpBy (sendsSaturated c.mixer i) c.mixer.inputs[i].sendClips } := by
  have mixing := mixing_takeBlocks c
  obtain ⟨-, -, -, inputClips, sendClips, -⟩ := inputAfter_settings c.mixer.inputs[i]
  rw [mixerTick_mixer run]
  simp only [countMix, tabulate_get, mixing.faderClips, mixing.sendClips]
  simp only [(takeBlocks_taken c).1.moved, inputClips, sendClips]

/-- R86: a bus after the mixer's tick. -/
theorem mixerTick_bus {c : Chip} (run : c.port.mode = .run) (b : BusNo) :
    (mixerTick c).mixer.buses[b] = { c.mixer.buses[b] with
      clips := bumpBy (busSaturated c.mixer b) c.mixer.buses[b].clips
      meter := max c.mixer.buses[b].meter (peakOf (blockAt (busSample c.mixer b))) } := by
  have mixing := mixing_takeBlocks c
  rw [mixerTick_mixer run]
  simp only [countMix, tabulate_get, mixing.busClips, mixing.busOut, mixing.buses]

/-- R79, R83: the settings after the mixer's tick, the inputs lost and the block counter. -/
theorem mixerTick_others {c : Chip} (run : c.port.mode = .run) :
    let d := (mixerTick c).mixer
    d.gain = c.mixer.gain ∧ d.audioSend = c.mixer.audioSend ∧ d.auxAStream = c.mixer.auxAStream ∧
      d.auxBStream = c.mixer.auxBStream ∧
      d.inputsLost = bumpBy (allInputs.countP fun i => underrunsOut c.mixer.inputs[i]) c.mixer.inputsLost ∧
      d.blockCounter = if c.mixer.blockCounter < 3 then c.mixer.blockCounter + 1 else 0 := by
  have taken := (takeBlocks_taken c).1
  obtain ⟨gain, -, audioSend, auxAStream, auxBStream, counter⟩ := taken.settings
  rw [mixerTick_mixer run]
  generalize takeBlocks c = t at *
  refine ⟨gain, audioSend, auxAStream, auxBStream, taken.lost, ?_⟩
  rw [← counter]
  rfl

/-- R86: a meter that becomes the largest of what it held and a block's samples. -/
theorem meter_largest (meter : Nat) (x : Nat → Int) :
    let m := max meter (peakOf (blockAt x))
    meter ≤ m ∧ (∀ p, p < 48 → (x p).natAbs ≤ m) ∧ (m = meter ∨ ∃ p, p < 48 ∧ m = (x p).natAbs) := by
  obtain ⟨above, attained⟩ := peakOf_blockAt x
  refine ⟨le_max_left .., fun p hp => (above p hp).trans (le_max_right ..), ?_⟩
  obtain held | risen := max_choice meter (peakOf (blockAt x))
  · exact .inl held
  · obtain zero | ⟨p, hp, peak⟩ := attained
    · exact .inl (by rw [zero, Nat.max_zero])
    · exact .inr ⟨p, hp, risen.trans peak⟩

/-- R22: BLOCK_TICK with no expiry on the way is the mixer's tick with work beside it before and after. -/
theorem blockTick_mixerTick {s : State}
    (early : s.chip.time.elapsed + samplesToTick s.chip.time < s.chip.time.length) :
    ∃ d e : Chip, Ends .blockTick s d ∧ BesideMixer s.chip e ∧ BesideMixer (mixerTick e) d := by
  obtain ⟨e, before, after⟩ := tickWork_mixerTick { s.chip with time := { s.chip.time with
    elapsed := s.chip.time.elapsed + samplesToTick s.chip.time, subTick := 0 } }
  exact ⟨_, e, ends_of_work rfl (runClock_toTick early), ⟨before.mixer, before.mode, before.attention⟩, after⟩

/-- Settles O33: whatever the order of the parts, the mixer works on what BLOCK_TICK finds of it, and BLOCK_TICK leaves
what the mixer does. -/
theorem blockTickMovesFadersAndMeters : Obligations.BlockTickMovesFadersAndMeters := by
  unfold Obligations.BlockTickMovesFadersAndMeters
  intro s run early
  obtain ⟨d, e, ends, before, after⟩ := blockTick_mixerTick early
  have runs : e.port.mode = .run := before.mode.trans run
  have set : ∀ a ∈ mixerClasses, (attHas d.port.attention a = true ↔ (attHas s.chip.port.attention a = true ∨
      (a = .audioInputLost ∧ ∃ i : InputNo, underrunsOut e.mixer.inputs[i] = true)) ∨
      (a = .audioClip ∧ ∃ b : BusNo, 0 < busSaturated e.mixer b)) := fun a own => by
    rw [after.attention a own, mixerTick_attention runs, before.attention a own]
  obtain ⟨gain, audioSend, auxAStream, auxBStream, lost, counter⟩ := mixerTick_others runs
  refine ⟨d, ends, ?_⟩
  rw [after.mixer, ← before.mixer]
  refine ⟨fun i => ?_, fun b => ?_, ?_, lost, ?_, gain, audioSend, auxAStream, auxBStream, counter⟩
  · obtain ⟨-, sends, link, -, -, lengthErrors, overruns⟩ := inputAfter_settings e.mixer.inputs[i]
    rw [mixerTick_input runs]
    exact ⟨inputAfter_ticked _, rfl, rfl, rfl, sends, link, lengthErrors, overruns⟩
  · rw [mixerTick_bus runs]
    exact ⟨rfl, rfl, rfl, meter_largest _ _⟩
  · simpa using set .audioClip (by decide)
  · simpa using set .audioInputLost (by decide)

end Sys2Proof.SoundMixer

end


section
/-! Programme selection (chapter 7): the range of a unit number and a context choice, the context that they name on
this unit, and PRESET, TAKE and CUT_TO (R101 to R103). -/

namespace Sys2Proof.ProgrammeDesk

open Sys2Proof.Machine Sys2Proof.Claims Sys2Proof.Clockwork

/-! ## A unit number and a context choice (R101 to R103, R188) -/

/-- R188: a byte chooses a context where it is its number; NONE and the bytes that are no choice choose none. -/
theorem ctxChoiceOf_join_eq_some {b : Byte} {k : Ctx} : (ctxChoiceOf b).join = some k ↔ k.val = b.toNat := by
  unfold ctxChoiceOf
  split
  · subst b
    have := k.isLt
    simp
    omega
  · rw [← ctxOf_some.trans eq_comm]
    cases ctxOf b <;> rfl

theorem selectInRange_iff {unit ctx : Byte} : selectInRange unit ctx = true ↔ choiceInRange unit ctx := by
  have isChoice : (ctxChoiceOf ctx).isSome = true ↔ ctx.toNat ≤ 5 ∨ ctx.toNat = 255 := by
    rw [Option.isSome_iff_ne_none, Ne, SoundMixer.ctxChoiceOf_none]
    omega
  rw [selectInRange, Bool.and_eq_true, decide_eq_true_iff, isChoice, choiceInRange, Nat.lt_succ_iff]

theorem chosenHere_eq_some {unit ctx : Byte} {c : Chip} {k : Ctx} :
    chosenHere unit ctx c = some k ↔ unit.toNat = c.unit.val ∧ k.val = ctx.toNat := by
  unfold chosenHere
  split
  · rename_i here
    rw [ctxChoiceOf_join_eq_some]
    exact (and_iff_right here).symm
  · rename_i elsewhere
    exact ⟨nofun, fun ⟨here, _⟩ => absurd here elsewhere⟩

/-- R102, R103: the selection that a command names on this unit is the one that the selector takes. -/
theorem chosenHere_of_namesHere {unit ctx : Byte} {c : Chip} {v : Option Ctx} (names : NamesHere c unit ctx v) :
    chosenHere unit ctx c = v :=
  Option.ext fun k => chosenHere_eq_some.trans (names k).symm

/-! ## PRESET, TAKE and CUT_TO -/

/-- Settles O35: the work of PRESET and CUT_TO turns on the range alone, and that of TAKE on nothing; the place held
for an answer and the count of a global command do not reach the unit number that the choice is compared with. -/
theorem presetTakeAndCutSetWhatIsPending : Obligations.PresetTakeAndCutSetWhatIsPending := by
  unfold Obligations.PresetTakeAndCutSetWhatIsPending
  intro tag unit ctx s globals
  refine ⟨fun v inRange names => ?_, fun outside => ?_, fun room => answers_of_work room rfl rfl, ends_of_work rfl rfl⟩
  · have taken : selectInRange unit ctx = true := selectInRange_iff.mpr inRange
    obtain rfl := chosenHere_of_namesHere names
    exact ⟨fun room => ⟨answers_of_work room rfl (if_pos taken), answers_of_work room rfl (if_pos taken)⟩,
      ends_of_work rfl (if_pos taken), ends_of_work rfl (if_pos taken)⟩
  · have refused : ¬selectInRange unit ctx = true := mt selectInRange_iff.mp outside
    exact ⟨fun room => ⟨answers_of_work room rfl (if_neg refused), answers_of_work room rfl (if_neg refused)⟩,
      ends_of_work rfl (if_neg refused), ends_of_work rfl (if_neg refused)⟩

end Sys2Proof.ProgrammeDesk

end


section
/-! What leaves the home link's and the scheduler's conditions alone: every operation that touches neither the link, nor HT,
nor the lists, nor the allowances and targets, with the audio, label and pass queues kept within their bounds. -/

namespace Sys2Proof.HomeLink

open Sys2Proof.Machine Sys2Proof.Safety Sys2Proof.Claims Sys2Proof.Clockwork

-- One theorem after another: side by side, each waits for the others on a thread of its own.
set_option Elab.async false

/-! ## What is left aside -/

/-- The link, HT, the targets, the allowances and the lists are as they were, and each of the three queues that other
blocks fill (R137 to R139) is within its bound where it was. -/
structure Aside (c d : Chip) : Prop where
  link : d.link = c.link
  ht : d.ht = c.ht
  targets : d.budget.targets = c.budget.targets
  allowance : d.sched.allowance = c.sched.allowance
  awaiting : d.sched.awaiting = c.sched.awaiting
  resend : d.sched.resend = c.sched.resend
  audio : c.sched.audioQueue.length ≤ 16 → d.sched.audioQueue.length ≤ 16
  labels : c.sched.labelQueue.length ≤ 16 → d.sched.labelQueue.length ≤ 16
  passes : c.sched.passQueue.length ≤ 32 → d.sched.passQueue.length ≤ 32

theorem aside_refl (c : Chip) : Aside c c := ⟨rfl, rfl, rfl, rfl, rfl, rfl, id, id, id⟩

theorem Aside.trans {b c d : Chip} (h : Aside b c) (h' : Aside c d) : Aside b d where
  link := h'.link.trans h.link
  ht := h'.ht.trans h.ht
  targets := h'.targets.trans h.targets
  allowance := h'.allowance.trans h.allowance
  awaiting := h'.awaiting.trans h.awaiting
  resend := h'.resend.trans h.resend
  audio := h'.audio ∘ h.audio
  labels := h'.labels ∘ h.labels
  passes := h'.passes ∘ h.passes

variable {c d : Chip}

/-- A chain of such work may end with any change that touches none of it. -/
theorem aside_quiet {d' : Chip} (h : Aside c d)
    (same : Aside d d' := by exact ⟨rfl, rfl, rfl, rfl, rfl, rfl, id, id, id⟩) : Aside c d' := h.trans same

theorem aside_foldl {α : Type} {f : Chip → α → Chip} (hf : ∀ d a, Aside c d → Aside c (f d a)) (l : List α)
    (h : Aside c d) : Aside c (l.foldl f d) := by
  induction l generalizing d with
  | nil => exact h
  | cons a l ih => exact ih (hf d a h)

/-! ## Reports and the output lane (chapter 1, R175 to R179) -/

theorem aside_setAttention (as : List AttClass) (h : Aside c d) : Aside c (setAttention as d) := by
  rw [setAttention_frame]
  exact aside_quiet h

theorem aside_setAttentionIf (b : Bool) (as : List AttClass) (h : Aside c d) : Aside c (setAttentionIf b as d) := by
  rw [setAttentionIf_frame]
  exact aside_quiet h

theorem aside_placeAnswer (tag : Byte) (name : List Byte) (r : Reply) (h : Aside c d) :
    Aside c (placeAnswer tag name r d) := by
  rw [placeAnswer_frame]
  exact aside_quiet h

theorem aside_foSent (h : Aside c d) : Aside c (foSent d) := by
  rw [foSent_frame]
  exact aside_quiet h

theorem aside_offerTallyOf (k : Ctx) (h : Aside c d) : Aside c (offerTallyOf k d) := by
  rw [offerTallyOf_frame]
  exact aside_quiet h

theorem aside_offerTallySet (h : Aside c d) : Aside c (offerTallySet d) :=
  aside_foldl (fun _ => aside_offerTallyOf) _ h

theorem aside_offerTallyOff (h : Aside c d) : Aside c (offerTallyOff d) := by
  refine aside_foldl (fun d k h => ?_) _ h
  split
  · exact h
  · rw [offerTally_frame]
    exact aside_quiet h

/-! ## The queues that other blocks fill (R137 to R139) -/

theorem aside_joinAudio (f : AudioFrame) (h : Aside c d) : Aside c (joinAudio f d) :=
  h.trans ⟨rfl, rfl, rfl, rfl, rfl, rfl, joinAudio_length f d, id, id⟩

theorem aside_joinPass (x : PassCell) (h : Aside c d) : Aside c (joinPass x d) :=
  h.trans ⟨rfl, rfl, rfl, rfl, rfl, rfl, id, id, joinPass_length x d⟩

theorem aside_joinLabel (f : LabelFrame) (h : Aside c d) : Aside c (joinLabel f d) := by
  have bound := joinLabel_length f d
  revert bound
  unfold joinLabel
  split
  all_goals exact fun bound => h.trans ⟨rfl, rfl, rfl, rfl, rfl, rfl, id, bound, id⟩

theorem aside_replaceLabel (f : LabelFrame) (h : Aside c d) : Aside c (replaceLabel f d) :=
  h.trans ⟨rfl, rfl, rfl, rfl, rfl, rfl, id, fun bound => by rwa [replaceLabel, List.length_map], id⟩

theorem aside_withdrawLabel (i : Nat) (h : Aside c d) : Aside c (withdrawLabel i d) :=
  h.trans ⟨rfl, rfl, rfl, rfl, rfl, rfl, id, (List.length_filter_le _ _).trans, id⟩

/-! ## The clip log (chapter 11) -/

theorem aside_offerLabel (i : Nat) (x : Clip) (h : Aside c d) : Aside c (offerLabel i x d) := by
  have joined := aside_joinLabel (labelFrame i x) h
  unfold offerLabel
  dsimp only
  split
  · exact aside_quiet joined
  · exact joined

theorem aside_autoOffer (i : Nat) (x : Clip) (h : Aside c d) : Aside c (autoOffer i x d) := by
  unfold autoOffer
  split
  · exact aside_setAttentionIf _ _ (aside_offerLabel i x h)
  · exact h

theorem aside_closeClip (i : Nat) (x : Clip) (h : Aside c d) : Aside c (closeClip i x d) :=
  aside_autoOffer _ _ (aside_quiet h)

theorem aside_autoClips (p : Option Ctx) (h : Aside c d) : Aside c (autoClips p d) := by
  have closed : Aside c (autoClose p d) := by
    unfold autoClose
    split
    · split
      · exact aside_closeClip _ _ (aside_quiet h)
      · exact h
    · exact h
  unfold autoClips autoOpen
  split
  · exact closed
  split
  · split
    · exact aside_setAttention _ (aside_quiet closed)
    · exact aside_quiet closed
  · exact closed

theorem aside_labelSent (i : Nat) (h : Aside c d) : Aside c (labelSent i d) := by
  unfold labelSent
  repeat' split
  all_goals exact aside_quiet h

theorem aside_markIn (ctx : Byte) (text : List Byte) (rating : Byte) (c : Chip) : Aside c (markIn ctx text rating c).1 := by
  unfold markIn
  repeat' split
  all_goals exact aside_quiet (aside_refl c)

theorem aside_markOut (c : Chip) : Aside c (markOut c).1 := by
  unfold markOut
  split
  · exact aside_refl c
  split
  · exact aside_refl c
  · exact aside_closeClip _ _ (aside_quiet (aside_refl c))

theorem aside_labelClip (i : Nat) (x : Clip) (text : List Byte) (rating : Byte) (c : Chip) :
    Aside c (labelClip i x text rating c).1 := by
  have start := aside_refl c
  have put : ∀ y, Aside c (putClip i y c) := fun y => aside_quiet start
  unfold labelClip
  extract_lets y ok
  split
  case h_1 => exact put y
  case h_2 =>
    repeat' split
    all_goals exact aside_quiet start
  case h_3 =>
    split
    · split
      · exact start
      · exact aside_replaceLabel _ (put _)
    · exact aside_replaceLabel _ (put _)
  case h_5 | h_6 =>
    split
    · exact start
    · exact aside_autoOffer _ _ (put _)
  all_goals exact start

theorem aside_label (index : Byte) (text : List Byte) (rating : Byte) (c : Chip) :
    Aside c (label index text rating c).1 := by
  unfold label
  repeat' split
  case h_2 => exact aside_labelClip _ _ text rating c
  all_goals exact aside_refl c

theorem aside_sendLabel (index : Byte) (c : Chip) : Aside c (sendLabel index c).1 := by
  have start := aside_refl c
  unfold sendLabel
  split
  · exact start
  split
  · exact start
  split
  · exact start
  split
  · exact aside_offerLabel _ _ start
  all_goals exact start

theorem aside_voidClip (index : Byte) (c : Chip) : Aside c (voidClip index c).1 := by
  have withdrawn := aside_withdrawLabel index.toNat (aside_refl c)
  unfold voidClip
  repeat' split
  case h_4 => exact aside_quiet withdrawn
  all_goals exact aside_quiet (aside_refl c)

theorem aside_setClipMode (autoSend : Byte) (autoClip : Vector Byte 6) (c : Chip) :
    Aside c (setClipMode autoSend autoClip c).1 := by
  unfold setClipMode
  split
  all_goals exact aside_quiet (aside_refl c)

theorem aside_setFence (position : Byte) (c : Chip) : Aside c (setFence position c).1 := by
  unfold setFence
  dsimp only
  repeat' split
  all_goals exact aside_quiet (aside_refl c)

theorem aside_clearClips (c : Chip) : Aside c (clearClips c).1 := by
  unfold clearClips
  split
  all_goals exact aside_quiet (aside_refl c)

/-! ## Delivery accounting and settlement (chapter 10, R144) -/

theorem aside_readLog (c : Chip) : Aside c (readLog c).1 := by
  unfold readLog
  split
  all_goals exact aside_quiet (aside_refl c)

theorem aside_resolve (p : Picture) (q : Option Nat) (sends : Nat) (o : PicOutcome) (h : Aside c d) :
    Aside c (resolve p q sends o d) := by
  rw [resolve_frame]
  exact aside_quiet h

theorem aside_changeQueued (k : Ctx) (n : PicNum) (f : Queued → Queued) (h : Aside c d) :
    Aside c (changeQueued k n f d) := by
  rw [changeQueued_frame, changeQueued_sched]
  exact aside_quiet h

theorem settle_sched (delivered : Bool) (e : Entry) (c : Chip) : (settle delivered e c).sched = { c.sched with
    videoQueue := (settle delivered e c).sched.videoQueue,
    entriesLost := bumpIf (!delivered) c.sched.entriesLost } := by
  unfold settle
  dsimp only
  split
  · rw [changeQueued_sched]
    rfl
  · unfold settleLabel
    rw [logLabel_sched]
    split
    · rw [labelDelivered_sched]
      rfl
    · rw [labelLost_sched]
      rfl

theorem aside_settle (delivered : Bool) (e : Entry) (h : Aside c d) : Aside c (settle delivered e d) := by
  rw [settle_frame, settle_sched]
  exact aside_quiet h

end Sys2Proof.HomeLink

end


section
/-! What leaves the home link's and the scheduler's conditions alone, continued: the engine, the gatherers, the mixer,
steering, the selector, the timebase, and the settings of every block but the link (chapters 2 to 7). -/

namespace Sys2Proof.HomeLink

open Sys2Proof.Machine Sys2Proof.Safety Sys2Proof.Claims Sys2Proof.Clockwork

-- One theorem after another: side by side, each waits for the others on a thread of its own.
set_option Elab.async false

variable {c d : Chip}

/-! ## The engine and the gatherers (chapter 4) -/

theorem aside_arbitrate (h : Aside c d) : Aside c (arbitrate d) := by
  rw [arbitrate_frame]
  exact aside_quiet h

theorem aside_takeCoded (o : Coding) (coded : List Byte) (h : Aside c d) : Aside c (takeCoded o coded d) := by
  unfold takeCoded
  extract_lets k e v
  have settled : Aside c (settleVerdict o coded v d) := by
    cases v with
    | accepted => exact aside_quiet h
    | reservoir => exact aside_resolve _ _ _ _ h
    | queueFull => exact aside_resolve _ _ _ _ h
  exact aside_quiet settled

theorem aside_codingDone (coded : List Byte) (h : Aside c d) : Aside c (codingDone coded d) := by
  unfold codingDone
  split
  · exact h
  · split
    · exact aside_arbitrate (aside_takeCoded _ _ (aside_quiet h))
    · exact h

theorem aside_completePicture (k : Ctx) (g : Gathering) (h : Aside c d) : Aside c (completePicture k g d) := by
  unfold completePicture
  dsimp only
  refine aside_arbitrate ?_
  split
  · exact aside_quiet h
  · exact aside_resolve _ _ _ _ (aside_quiet h)

theorem aside_endDamaged (k : Ctx) (g : Gathering) (h : Aside c d) : Aside c (endDamaged k g d) :=
  aside_completePicture _ _ (aside_quiet h)

theorem aside_startPicture (k : Ctx) (lane : LaneNo) (cell : Cell) (h : Aside c d) :
    Aside c (startPicture k lane cell d) := by
  unfold startPicture
  extract_lets freed g begun
  have freed : Aside c freed := by
    unfold freed
    split
    · exact aside_endDamaged _ _ h
    · exact h
  have begun : Aside c begun := aside_quiet freed
  split
  · exact aside_completePicture _ _ begun
  · exact begun

theorem aside_joinPicture (k : Ctx) (g : Gathering) (lane : LaneNo) (cell : Cell) (h : Aside c d) :
    Aside c (joinPicture k g lane cell d) := by
  unfold joinPicture
  extract_lets y x full part src begun
  split
  · exact aside_completePicture _ _ (aside_quiet h)
  · have begun : Aside c begun := aside_quiet h
    split
    · exact aside_completePicture _ _ begun
    · exact begun

theorem aside_gatherCell (k : Ctx) (lane : LaneNo) (cell : Cell) (h : Aside c d) : Aside c (gatherCell k lane cell d) := by
  unfold gatherCell
  split
  · split
    · exact aside_startPicture _ _ _ h
    · split
      · exact aside_joinPicture _ _ _ _ h
      · exact aside_quiet h
  · exact aside_quiet h

theorem aside_gatherBoundary (h : Aside c d) : Aside c (gatherBoundary d) := by
  refine aside_foldl (fun d k h => ?_) _ h
  unfold gatherBoundaryAt staleCheck
  split
  · split
    · exact h
    · split
      · exact aside_quiet h
      · exact aside_endDamaged _ _ (aside_quiet h)
  · exact aside_quiet h
  all_goals exact h

theorem aside_startContext (ctx : Byte) (c : Chip) : Aside c (startContext ctx c).1 := by
  unfold startContext
  repeat' split
  all_goals exact aside_quiet (aside_refl c)

/-! ## STOP_CONTEXT (R44, R53, R106) -/

theorem aside_stopRunning (k : Ctx) (h : Aside c d) : Aside c (stopRunning k d) := by
  have abandoned : Aside c (abandonFor k d) := by
    unfold abandonFor
    split
    · exact h
    · split
      · exact aside_resolve _ _ _ _ (aside_quiet h)
      · exact h
  have ready : Aside c (shedReady k (abandonFor k d)) := by
    unfold shedReady
    split
    · exact aside_resolve _ _ _ _ (aside_quiet abandoned)
    · exact abandoned
  have gathering : Aside c (shedGathering k (shedReady k (abandonFor k d))) := by
    unfold shedGathering
    split
    · exact aside_resolve _ _ _ _ (aside_quiet ready)
    · exact ready
  unfold stopRunning drainOrStop
  split
  all_goals exact aside_quiet gathering

theorem aside_stopAtSelector (k : Ctx) (h : Aside c d) : Aside c (stopAtSelector k d) := by
  have programme : Aside c (stopProgramme k d) := by
    unfold stopProgramme
    split
    · have cleared : Aside c { d with sel := { d.sel with
          programme := none, programmeStops := bump d.sel.programmeStops } } := aside_quiet h
      have noticed := aside_setAttention [.takeDegraded] cleared
      exact aside_quiet noticed
    · exact h
  have stopped : Aside c (stopPreset k (stopProgramme k d)) := by
    unfold stopPreset
    split
    · exact aside_quiet programme
    · exact programme
  unfold stopAtSelector
  dsimp only
  split
  · exact aside_offerTallySet stopped
  · exact stopped

theorem aside_stopContext (ctx : Byte) (c : Chip) : Aside c (stopContext ctx c).1 := by
  have start := aside_refl c
  unfold stopContext
  split
  · exact start
  split
  · exact start
  split
  · exact aside_arbitrate (aside_stopAtSelector _ (aside_quiet start))
  · exact aside_arbitrate (aside_stopAtSelector _ (aside_stopRunning _ start))
  all_goals exact start

/-! ## The mixer (chapter 6) -/

theorem aside_takeBlock (i : InputNo) (h : Aside c d) : Aside c (takeBlock i d).1 := by
  unfold takeBlock
  dsimp only
  split
  · exact aside_quiet h
  · split
    · dsimp only
      split
      · exact aside_setAttention _ (aside_quiet h)
      · exact aside_quiet h
    · exact h

theorem aside_takeBlocks (h : Aside c d) : Aside c (takeBlocks d).1 := by
  have fold : ∀ (l : List InputNo) (acc : Chip × List (List Sample)), Aside c acc.1 →
      Aside c (l.foldl (fun acc i =>
        let t := takeBlock i acc.1
        (t.1, acc.2 ++ [t.2])) acc).1 := by
    intro l
    induction l with
    | nil => exact fun _ h => h
    | cons i l ih => exact fun acc h => ih _ (aside_takeBlock i h)
  exact fold allInputs (d, []) h

theorem aside_offerAuxBus (source : OutSource) (stream : Stream) (out : List Int) (h : Aside c d) :
    Aside c (offerAuxBus source stream out d) := by
  unfold offerAuxBus
  split
  · exact h
  · rw [offerAux_frame]
    exact aside_quiet h

/-- R94, R95: a frame formed joins the audio queue, or is discarded. -/
theorem aside_buildFrame (left right : List Sample) (h : Aside c d) : Aside c (buildFrame left right d) := by
  unfold buildFrame queueOrDiscard
  dsimp only
  split
  · exact aside_quiet h
  · split
    · exact aside_joinAudio _ (aside_quiet h)
    · exact aside_quiet h

theorem aside_newMixer (m : Mixer) (h : Aside c d) : Aside c { d with mixer := m } := aside_quiet h

theorem aside_mixerTick (h : Aside c d) : Aside c (mixerTick d) := by
  unfold mixerTick
  split
  · exact h
  · have mixed := aside_newMixer (countMix (moveFaders (takeBlocks d).1.mixer) (takeBlocks d).2) (aside_takeBlocks h)
    exact aside_buildFrame _ _ (aside_offerAuxBus _ _ _ (aside_offerAuxBus _ _ _ (aside_setAttentionIf _ _ mixed)))

theorem aside_audioInputLost (i : InputNo) (h : Aside c d) : Aside c (audioInputLost i d) := by
  unfold audioInputLost
  split
  · exact aside_takeBlock i h
  · exact h

theorem aside_loadGain (first count : Byte) (entries : List (BitVec 16)) (c : Chip) :
    Aside c (loadGain first count entries c).1 := by
  unfold loadGain
  repeat' split
  all_goals exact aside_quiet (aside_refl c)

theorem aside_setFader (input target step : Byte) (c : Chip) : Aside c (setFader input target step c).1 := by
  unfold setFader
  split
  all_goals exact aside_quiet (aside_refl c)

theorem aside_setAfv (input link onIndex offIndex : Byte) (c : Chip) :
    Aside c (setAfv input link onIndex offIndex c).1 := by
  unfold setAfv
  split
  all_goals exact aside_quiet (aside_refl c)

theorem aside_setSends (input pgmL pgmR auxA auxB : Byte) (c : Chip) :
    Aside c (setSends input pgmL pgmR auxA auxB c).1 := by
  unfold setSends
  split
  all_goals exact aside_quiet (aside_refl c)

theorem aside_setBus (bus master mute : Byte) (stream : BitVec 16) (c : Chip) :
    Aside c (setBus bus master mute stream c).1 := by
  unfold setBus
  repeat' split
  all_goals exact aside_quiet (aside_refl c)

theorem aside_setAudioSend (value : Byte) (c : Chip) : Aside c (setAudioSend value c).1 := by
  unfold setAudioSend
  split
  all_goals exact aside_quiet (aside_refl c)

/-! ## Steering (chapter 3) -/

/-- R29, R30, R139: an action may gather a picture's cell, give a block to the mixer or join the pass queue. -/
theorem aside_carryOut (a : SteerAction) (lane : LaneNo) (k : CellKind) (cell : Cell) (h : Aside c d) :
    Aside c (carryOut a lane k cell d) := by
  cases a with
  | discard => exact aside_quiet h
  | code x =>
    show Aside c (if k = .video then gatherCell x lane cell (countDecision d) else countMismatch d)
    split
    · exact aside_gatherCell _ _ _ (aside_quiet h)
    · exact aside_quiet h
  | mix i =>
    show Aside c (if k = .audio then modInput i (receiveBlock cell.payload) (countDecision d) else countMismatch d)
    split
    all_goals exact aside_quiet h
  | pass => exact aside_joinPass _ (aside_quiet h)

theorem aside_steerCell (lane : LaneNo) (k : CellKind) (cell : Cell) (h : Aside c d) :
    Aside c (steerCell lane k cell d) := by
  unfold steerCell
  split
  · exact h
  unfold evaluateCell
  split
  · rename_i i a decided
    have done : Aside c (carryOut a lane k cell d) := aside_carryOut a lane k cell h
    dsimp only
    split
    · exact aside_setAttention _ (aside_quiet done)
    · exact done
  · unfold defaultAction
    dsimp only
    split
    · exact aside_quiet h
    · exact aside_joinPass _ (aside_quiet h)

theorem aside_steerBoundary (h : Aside c d) : Aside c (steerBoundary d) := by
  unfold steerBoundary
  split
  · exact aside_setAttention _ (aside_quiet h)
  · exact h

theorem aside_loadSteer (first count : Byte) (entries : List SteerEntry) (c : Chip) :
    Aside c (loadSteer first count entries c).1 := by
  unfold loadSteer
  split
  all_goals exact aside_quiet (aside_refl c)

theorem aside_steerDefault (a : Byte) (c : Chip) : Aside c (steerDefault a c).1 := by
  unfold steerDefault
  split
  all_goals exact aside_quiet (aside_refl c)

/-! ## The selector (chapter 7) -/

theorem aside_selectorBoundary (h : Aside c d) : Aside c (selectorBoundary d) := by
  unfold selectorBoundary
  extract_lets op pre applied handed
  have applied : Aside c applied := by
    have operated : Aside c (if op then applyOp d else d) := by
      split
      · exact aside_setAttention _ (aside_quiet h)
      · exact h
    unfold applied applyPreset
    split
    · exact aside_quiet operated
    · exact operated
  have handed : Aside c handed := by
    unfold handed
    split
    · exact aside_autoClips _ (aside_quiet applied)
    · exact applied
  split
  · exact aside_offerTallySet handed
  · exact handed

theorem aside_setTally (ctx : Byte) (stream : BitVec 16) (c : Chip) : Aside c (setTally ctx stream c).1 := by
  have start := aside_refl c
  unfold setTally
  split
  · exact start
  · dsimp only
    split
    · exact start
    · exact aside_offerTallyOf _ (aside_quiet start)

/-! ## The timebase, budget and rate control (chapters 2 and 5), and the part modes (chapter 12) -/

theorem aside_setRate (rate : Byte) (c : Chip) : Aside c (setRate rate c).1 := by
  unfold setRate
  repeat' split
  all_goals exact aside_quiet (aside_refl c)

theorem aside_setContext (ctx weight : Byte) (minimum : BitVec 32) (boost bias slew marker : Byte)
    (latency : BitVec 16) (logMode : Byte) (c : Chip) :
    Aside c (setContext ctx weight minimum boost bias slew marker latency logMode c).1 := by
  unfold setContext
  split
  all_goals exact aside_quiet (aside_refl c)

theorem aside_setReservoir (ctx depth qMin qMax qStart : Byte) (c : Chip) :
    Aside c (setReservoir ctx depth qMin qMax qStart c).1 := by
  unfold setReservoir
  dsimp only
  repeat' split
  all_goals exact aside_quiet (aside_refl c)

theorem aside_loadCurve (ctx : Byte) (entries : List Byte) (c : Chip) : Aside c (loadCurve ctx entries c).1 := by
  unfold loadCurve
  repeat' split
  all_goals exact aside_quiet (aside_refl c)

theorem aside_goRun (c : Chip) : Aside c (goRun c).1 := by
  unfold goRun
  split
  all_goals exact aside_quiet (aside_refl c)

theorem aside_standBy (c : Chip) : Aside c (standBy c).1 := by
  unfold standBy
  split
  all_goals exact aside_quiet (aside_refl c)

end Sys2Proof.HomeLink

end


section
/-! The conditions of the home link (R112 to R126) and of the scheduler's lists (R134, R141), and what each operation of the
link makes of them. -/

namespace Sys2Proof.HomeLink

open Sys2Proof.Machine Sys2Proof.Safety Sys2Proof.Claims Sys2Proof.Clockwork

-- One theorem after another: side by side, each waits for the others on a thread of its own.
set_option Elab.async false

/-! ## The timers by the link state (R112 to R123) -/

/-- No hail attempt is under way. -/
def Unhailed (l : Link) : Prop := l.phase = none ∧ l.attempt = 0 ∧ l.answerWindow = none ∧ l.retryGap = none

/-- A hail attempt is under way: it waits for its answer, or for the next attempt. -/
def Hails (l : Link) : Prop :=
  1 ≤ l.attempt ∧ l.attempt ≤ 3 ∧
    ((l.phase = some .window ∧ l.answerWindow.isSome = true ∧ l.retryGap = none) ∨
      (l.phase = some .gap ∧ l.answerWindow = none ∧ l.retryGap.isSome = true ∧ l.attempt ≤ 2))

/-- What each timer, the attempt and the credit say of the link state. -/
structure Timed (l : Link) : Prop where
  quiet : l.state ≠ .hailing → Unhailed l
  hails : l.state = .hailing → Hails l
  silence : l.silence.isSome = true ↔ l.state = .up ∨ l.state = .draining
  limit : l.drainLimit.isSome = true ↔ l.state = .draining
  credit : linkSends l.state = false → l.credit = 0

theorem timed_iff (l : Link) : LinkTimersOk l ↔ Timed l := by
  constructor
  · intro h
    unfold LinkTimersOk at h
    constructor
    all_goals
      cases st : l.state
      all_goals simp_all [Unhailed, Hails, linkSends]
  · rintro ⟨quiet, hails, silence, limit, credit⟩
    unfold LinkTimersOk
    cases st : l.state
    all_goals simp_all [Unhailed, Hails, linkSends]

variable {c d : Chip}

/-- A running answer window or retry gap is a hail attempt's. -/
theorem Timed.hailing {l : Link} (h : Timed l) (runs : l.answerWindow ≠ none ∨ l.retryGap ≠ none) : l.state = .hailing := by
  by_contra other
  obtain ⟨-, -, window, gap⟩ := h.quiet other
  exact runs.elim (· window) (· gap)

/-- R112: the link is DOWN, with no timer running. -/
def Shut (c : Chip) : Prop := c.link.state = .down ∧ LinkTimersOk c.link

/-! ## The lists (R134, R141) -/

/-- R134, R141: the bound of the two lists together, and what each asks of its entries. -/
structure EntriesOk (awaiting resend : List Entry) : Prop where
  bound : awaiting.length + resend.length ≤ 48
  waits : ∀ e ∈ awaiting, e.timer.isSome = true ∧ 1 ≤ e.sendCount ∧ e.sendCount ≤ 2
  again : ∀ e ∈ resend, e.timer = none ∧ e.sendCount = 1

theorem entriesOk_nil : EntriesOk [] [] := ⟨Nat.zero_le 48, List.forall_mem_nil _, List.forall_mem_nil _⟩

theorem EntriesOk.sublist {a a' r r' : List Entry} (h : EntriesOk a r) (ha : a'.Sublist a) (hr : r'.Sublist r) :
    EntriesOk a' r' where
  bound := (Nat.add_le_add ha.length_le hr.length_le).trans h.bound
  waits e he := h.waits e (ha.subset he)
  again e he := h.again e (hr.subset he)

theorem EntriesOk.snoc_awaiting {a r : List Entry} {e : Entry} (h : EntriesOk a r) (room : a.length + r.length < 48)
    (timer : e.timer.isSome = true) (sends : 1 ≤ e.sendCount ∧ e.sendCount ≤ 2) : EntriesOk (a ++ [e]) r where
  bound := by
    rw [List.length_append, List.length_singleton]
    omega
  waits := List.forall_mem_append.mpr ⟨h.waits, List.forall_mem_singleton.mpr ⟨timer, sends⟩⟩
  again := h.again

theorem EntriesOk.snoc_resend {a r : List Entry} {e : Entry} (h : EntriesOk a r) (room : a.length + r.length < 48)
    (timer : e.timer = none) (once : e.sendCount = 1) : EntriesOk a (r ++ [e]) where
  bound := by
    rw [List.length_append, List.length_singleton]
    omega
  waits := h.waits
  again := List.forall_mem_append.mpr ⟨h.again, List.forall_mem_singleton.mpr ⟨timer, once⟩⟩

theorem takeFirst_sublist {α : Type} {p : α → Bool} {l rest : List α} {x : α} (h : takeFirst p l = some (x, rest)) :
    rest.Sublist l := by
  obtain ⟨before, after, rfl, rfl, -⟩ := takeFirst_some h
  exact List.Sublist.append_left (List.sublist_cons_self x after) before

theorem takeFirst_ne_nil {α : Type} {p : α → Bool} {l rest : List α} {x : α} (h : takeFirst p l = some (x, rest)) :
    l ≠ [] := by
  rintro rfl
  cases h

theorem takeFirst_length {α : Type} {p : α → Bool} {l rest : List α} {x : α} (h : takeFirst p l = some (x, rest)) :
    l.length = rest.length + 1 := by
  obtain ⟨before, after, rfl, rfl, -⟩ := takeFirst_some h
  simp only [List.length_append, List.length_cons]
  omega

theorem entriesOk_of_schedOk (h : SchedOk c) : EntriesOk c.sched.awaiting c.sched.resend :=
  have ⟨_, _, _, bound, _, waits, again⟩ := h
  ⟨bound, waits, again⟩

/-- R132, R134, R137 to R139: lists that are in order, queues that are no longer and allowances that are no higher. -/
theorem schedOk_of_entries (h : SchedOk c) (entries : EntriesOk d.sched.awaiting d.sched.resend)
    (audio : d.sched.audioQueue.length ≤ c.sched.audioQueue.length := by exact Nat.le_refl _)
    (labels : d.sched.labelQueue.length ≤ c.sched.labelQueue.length := by exact Nat.le_refl _)
    (passes : d.sched.passQueue.length ≤ c.sched.passQueue.length := by exact Nat.le_refl _)
    (allowance : ∀ k : Ctx, d.sched.allowance[k] ≤ c.sched.allowance[k] := by exact fun _ => Nat.le_refl _)
    (targets : d.budget.targets = c.budget.targets := by rfl) : SchedOk d := by
  obtain ⟨audio', labels', passes', -, allowance', -, -⟩ := h
  exact ⟨audio.trans audio', labels.trans labels', passes.trans passes', entries.bound,
    fun k => targets ▸ (allowance k).trans (allowance' k), entries.waits, entries.again⟩

/-! ## What a step keeps of the home link -/

/-- The conditions of the link and of the scheduler are kept, and a link that is DOWN stays DOWN and hands nothing to HT. -/
structure HomeKept (c d : Chip) : Prop where
  link : LinkOk c → LinkOk d
  sched : SchedOk c → SchedOk d
  shut : Shut c → Shut d ∧ d.ht = c.ht

theorem homeKept_refl (c : Chip) : HomeKept c c := ⟨id, id, fun h => ⟨h, rfl⟩⟩

theorem HomeKept.trans {b c d : Chip} (h : HomeKept b c) (h' : HomeKept c d) : HomeKept b d where
  link ok := h'.link (h.link ok)
  sched ok := h'.sched (h.sched ok)
  shut down :=
    have ⟨down', ht⟩ := h.shut down
    have ⟨down'', ht'⟩ := h'.shut down'
    ⟨down'', ht'.trans ht⟩

theorem homeKept_foldl {α : Type} {f : Chip → α → Chip} (hf : ∀ d a, HomeKept d (f d a)) (l : List α) (c : Chip) :
    HomeKept c (l.foldl f c) := by
  induction l generalizing c with
  | nil => exact homeKept_refl c
  | cons a l ih => exact (hf c a).trans (ih _)

/-- The lists changed, with the link and HT as they were: two that were empty stay so. -/
theorem homeKept_lists (sched : SchedOk c → SchedOk d)
    (empty : c.sched.awaiting = [] → c.sched.resend = [] → d.sched.awaiting = [] ∧ d.sched.resend = [])
    (link : d.link = c.link := by rfl) (ht : d.ht = c.ht := by rfl) : HomeKept c d where
  link := fun ⟨timers, ranges, lists⟩ => by
    unfold LinkOk ListsOk
    rw [link]
    exact ⟨timers, ranges, fun silent => have ⟨a, r⟩ := lists silent; empty a r⟩
  sched := sched
  shut down := ⟨by unfold Shut; rw [link]; exact down, ht⟩

theorem Aside.homeKept (h : Aside c d) : HomeKept c d := by
  refine homeKept_lists (fun ⟨audio, labels, passes, bound, allowance, waits, again⟩ => ?_)
    (fun a r => ⟨h.awaiting.trans a, h.resend.trans r⟩) h.link h.ht
  refine ⟨h.audio audio, h.labels labels, h.passes passes, ?_⟩
  rw [h.awaiting, h.resend, h.allowance, h.targets]
  exact ⟨bound, allowance, waits, again⟩

/-- The link changed in a state that it keeps. -/
theorem homeKept_modLink {f : Link → Link} (timers : Timed c.link → Timed (f c.link))
    (ranges : LinkRangesOk c.link → LinkRangesOk (f c.link) := by exact id)
    (state : (f c.link).state = c.link.state := by rfl) : HomeKept c (modLink f c) where
  link := fun ⟨timers', ranges', lists⟩ =>
    ⟨(timed_iff _).mpr (timers ((timed_iff _).mp timers')), ranges ranges', fun silent => lists (state ▸ silent)⟩
  sched := id
  shut := fun ⟨down, timers'⟩ => ⟨⟨state.trans down, (timed_iff _).mpr (timers ((timed_iff _).mp timers'))⟩, rfl⟩

/-- A change of the link that is no timer's, no setting's and not the credit's. -/
theorem homeKept_countLink {f : Link → Link}
    (same : LinkTimersOk (f c.link) = LinkTimersOk c.link ∧ LinkRangesOk (f c.link) = LinkRangesOk c.link ∧
      (f c.link).state = c.link.state := by exact ⟨rfl, rfl, rfl⟩) : HomeKept c (modLink f c) := by
  obtain ⟨timers, ranges, state⟩ := same
  exact homeKept_modLink (fun h => (timed_iff _).mp (timers ▸ (timed_iff _).mpr h)) (fun h => ranges ▸ h) state

/-! ## The end of a drain (R123, R125) -/

/-- R123, R125: with the lists emptied, the settlements of what they held leave the rest. -/
theorem aside_declareAllLost (c : Chip) :
    Aside { c with sched := { c.sched with awaiting := [], resend := [] } } (declareAllLost c) :=
  aside_foldl (fun _ e => aside_settle false e) _ (aside_refl _)

/-- R123, R125: the lists and the audio queue emptied, and a state entered. -/
theorem schedOk_discarded {e : Chip} {st : LinkState} {also : List AttClass} (h : SchedOk c)
    (sched : e.sched = c.sched := by rfl) (budget : e.budget = c.budget := by rfl) :
    SchedOk (enterLink st also (discardAudio (declareAllLost e))) := by
  have left := aside_declareAllLost e
  have emptied : SchedOk { e with sched := { e.sched with awaiting := [], resend := [] } } :=
    schedOk_of_entries h entriesOk_nil (by rw [sched]) (by rw [sched]) (by rw [sched]) (fun k => by rw [sched]) (by rw [budget])
  have lost : SchedOk (declareAllLost e) := left.homeKept.sched emptied
  have entries := entriesOk_of_schedOk lost
  have discarded : SchedOk (discardAudio (declareAllLost e)) := schedOk_of_entries lost entries (Nat.zero_le _)
  unfold SchedOk
  rw [enterLink_sched, enterLink_budget]
  exact discarded

theorem enterLink_link (st : LinkState) (also : List AttClass) (c : Chip) : (enterLink st also c).link = { c.link with
    state := st, credit := creditOnEntry st c.link.credit, stateChanges := bump c.link.stateChanges } := by
  rw [enterLink, setAttention_link]
  rfl

theorem discarded_link (st : LinkState) (also : List AttClass) (e : Chip) :
    (enterLink st also (discardAudio (declareAllLost e))).link = { e.link with
      state := st, credit := creditOnEntry st e.link.credit, stateChanges := bump e.link.stateChanges,
      audioDiscarded := bumpBy (declareAllLost e).sched.audioQueue.length e.link.audioDiscarded } := by
  have left := (aside_declareAllLost e).link
  rw [enterLink_link, discardAudio, left]

theorem discarded_lists (st : LinkState) (also : List AttClass) (e : Chip) :
    (enterLink st also (discardAudio (declareAllLost e))).sched.awaiting = [] ∧
      (enterLink st also (discardAudio (declareAllLost e))).sched.resend = [] := by
  have left := aside_declareAllLost e
  rw [enterLink_sched]
  exact ⟨left.awaiting, left.resend⟩

/-- R112: with the lists emptied, a state that sends nothing is entered with no timer running. -/
theorem linkOk_discarded {st : LinkState} {also : List AttClass} {e : Chip} (silent : st = .down ∨ st = .held)
    (unhailed : Unhailed e.link) (silence : e.link.silence = none) (limit : e.link.drainLimit = none)
    (ranges : LinkRangesOk e.link) : LinkOk (enterLink st also (discardAudio (declareAllLost e))) := by
  have link := discarded_link st also e
  refine ⟨(timed_iff _).mpr ?_, ?_, fun _ => discarded_lists st also e⟩
  · rw [link]
    obtain rfl | rfl := silent
    all_goals exact ⟨fun _ => unhailed, nofun, by simp [silence], by simp [limit], fun _ => rfl⟩
  · rw [link]
    exact ranges

/-- R123: the end of a drain, whatever has become of the timers. -/
theorem linkOk_drainEnd (unhailed : Unhailed c.link) (ranges : LinkRangesOk c.link) : LinkOk (drainEnd c) :=
  linkOk_discarded (.inr rfl) unhailed rfl rfl ranges

theorem schedOk_drainEnd (h : SchedOk c) : SchedOk (drainEnd c) := schedOk_discarded h

/-- R123: the end of a drain, its timers counted or stopped before it. -/
theorem homeKept_drainEnd {f : Link → Link} (draining : c.link.state = .draining)
    (unhailed : Unhailed (f c.link) = Unhailed c.link := by rfl)
    (ranges : LinkRangesOk (f c.link) = LinkRangesOk c.link := by rfl) : HomeKept c (drainEnd (modLink f c)) where
  link := fun ⟨timers, ranges', _⟩ => by
    have quiet : Unhailed c.link := ((timed_iff _).mp timers).quiet (by rw [draining]; nofun)
    exact linkOk_drainEnd (unhailed ▸ quiet) (ranges ▸ ranges')
  sched ok := schedOk_drainEnd (c := modLink f c) ok
  shut := fun ⟨down, _⟩ => LinkState.noConfusion (draining.symm.trans down)

theorem homeKept_checkDrain (c : Chip) : HomeKept c (checkDrain c) := by
  unfold checkDrain
  split
  · rename_i ends
    exact homeKept_drainEnd (f := id) (of_decide_eq_true (Bool.and_eq_true_iff.mp ends).1)
  · exact homeKept_refl c

theorem homeKept_drainExpiry (c : Chip) : HomeKept c (drainExpiry c) := by
  unfold drainExpiry
  split
  · exact homeKept_refl c
  · split
    · rename_i draining
      exact homeKept_drainEnd (f := id) draining
    · exact homeKept_refl c

/-! ## A state entered (R112) -/

/-- R112: a link that is not DOWN enters a state: what its timers and its lists must be. -/
theorem homeKept_enterLink {st : LinkState} {f : Link → Link} (also : List AttClass) (up : c.link.state ≠ .down)
    (timers : Timed c.link → Timed { f c.link with state := st, credit := creditOnEntry st (f c.link).credit })
    (ranges : LinkRangesOk c.link → LinkRangesOk (f c.link) := by exact id)
    (lists : linkSends st = false → linkSends c.link.state = false := by exact nofun) :
    HomeKept c (enterLink st also (modLink f c)) where
  link := fun ⟨timers', ranges', lists'⟩ => by
    unfold LinkOk ListsOk
    rw [enterLink_link, enterLink_sched]
    refine ⟨(timed_iff _).mpr ?_, ranges ranges', fun silent => lists' (lists silent)⟩
    obtain ⟨quiet, hails, silence, limit, credit⟩ := timers ((timed_iff _).mp timers')
    exact ⟨quiet, hails, silence, limit, credit⟩
  sched ok := by
    unfold SchedOk
    rw [enterLink_sched, enterLink_budget]
    exact ok
  shut := fun ⟨down, _⟩ => absurd down up

/-! ## Expiries of the link's timers (R115, R121) -/

theorem homeKept_windowExpiry (c : Chip) : HomeKept c (windowExpiry c) := by
  unfold windowExpiry
  split
  · exact homeKept_refl c
  rename_i n runs
  have window : c.link.answerWindow ≠ none := runs ▸ Option.some_ne_none n
  split
  · rename_i more
    refine homeKept_modLink fun h => ?_
    have hailing := h.hailing (.inl window)
    obtain ⟨first, -, -⟩ := h.hails hailing
    exact ⟨fun other => absurd hailing other, fun _ => ⟨first, Nat.le_of_lt more, .inr ⟨rfl, rfl, rfl, Nat.le_of_lt_succ more⟩⟩,
      h.silence, h.limit, h.credit⟩
  · by_cases hailing : c.link.state = .hailing
    · refine homeKept_enterLink [.linkFailed] (by rw [hailing]; nofun) (fun h => ?_) id fun _ => by rw [hailing]; rfl
      obtain ⟨-, -, ⟨-, -, gap⟩ | ⟨-, none, -⟩⟩ := h.hails hailing
      · have silence := h.silence
        have limit := h.limit
        rw [hailing] at silence limit
        exact ⟨fun _ => ⟨rfl, rfl, rfl, gap⟩, nofun, by simpa using silence, by simpa using limit, fun _ => rfl⟩
      · exact absurd none window
    · have stopped : ¬Timed c.link := fun h => hailing (h.hailing (.inl window))
      exact ⟨fun h => absurd ((timed_iff _).mp h.1) stopped, fun ok => by
        unfold SchedOk
        rw [enterLink_sched, enterLink_budget]
        exact ok, fun h => absurd ((timed_iff _).mp h.2) stopped⟩

/-- R114: an attempt begun. -/
theorem timed_attempt {l : Link} (state : l.state = .hailing) (attempt : 1 ≤ l.attempt ∧ l.attempt ≤ 3)
    (gap : l.retryGap = none) (silence : l.silence = none) (limit : l.drainLimit = none) (credit : l.credit = 0)
    (window : Nat) (attempts : Counter) :
    Timed { l with phase := some .window, answerWindow := some window, hailAttempts := attempts } :=
  ⟨fun other => absurd state other, fun _ => ⟨attempt.1, attempt.2, .inl ⟨rfl, rfl, gap⟩⟩, by simp [silence, state],
    by simp [limit, state], fun _ => credit⟩

/-- A hail has neither of the other two timers running, and no credit. -/
theorem Timed.of_hailing {l : Link} (h : Timed l) (hailing : l.state = .hailing) :
    l.silence = none ∧ l.drainLimit = none ∧ l.credit = 0 := by
  have silence := h.silence
  have limit := h.limit
  rw [hailing] at silence limit
  exact ⟨by simpa using silence, by simpa using limit, h.credit (by rw [hailing]; rfl)⟩

theorem homeKept_gapExpiry (c : Chip) : HomeKept c (gapExpiry c) := by
  unfold gapExpiry
  split
  · exact homeKept_refl c
  rename_i n runs
  have gap : c.link.retryGap ≠ none := runs ▸ Option.some_ne_none n
  have hailing : Timed c.link → c.link.state = .hailing := fun h => h.hailing (.inr gap)
  refine ⟨fun ⟨timers, ranges, lists⟩ => ⟨(timed_iff _).mpr ?_, ranges, lists⟩, id, fun ⟨down, timers⟩ =>
    LinkState.noConfusion (down.symm.trans (hailing ((timed_iff _).mp timers)))⟩
  have h := (timed_iff _).mp timers
  obtain ⟨silence, limit, credit⟩ := h.of_hailing (hailing h)
  obtain ⟨-, -, ⟨-, -, none⟩ | ⟨-, -, -, least⟩⟩ := h.hails (hailing h)
  · exact absurd none gap
  · exact timed_attempt (l := { c.link with retryGap := none, attempt := c.link.attempt + 1 }) (hailing h)
      ⟨Nat.succ_pos _, Nat.succ_le_succ least⟩ rfl silence limit credit _ _

theorem homeKept_silenceRunsOut (c : Chip) : HomeKept c (silenceRunsOut c) := by
  unfold silenceRunsOut
  split
  · exact homeKept_refl c
  dsimp only
  split
  · rename_i up
    refine homeKept_enterLink [] (by rw [up]; nofun) fun h => ?_
    have limit := h.limit
    rw [up] at limit
    exact ⟨fun _ => h.quiet (by rw [up]; nofun), nofun, by simp, by simpa using limit, nofun⟩
  · rename_i draining
    exact homeKept_drainEnd draining
  all_goals exact homeKept_refl c

/-! ## The tick (R23) -/

theorem countDown_isSome (t : Option Nat) : (countDown t).isSome = t.isSome := Option.isSome_map ..

theorem countDown_eq_none (t : Option Nat) : countDown t = none ↔ t = none := Option.map_eq_none_iff

theorem homeKept_countLinkTimers (c : Chip) : HomeKept c (modLink countLinkTimers c) := by
  refine homeKept_modLink fun ⟨quiet, hails, silence, limit, credit⟩ => ?_
  constructor
  all_goals
    simp only [countLinkTimers, Unhailed, Hails, countDown_isSome, countDown_eq_none]
    assumption

theorem homeKept_linkTick (silenceFirst : Bool) (c : Chip) : HomeKept c (linkTick silenceFirst c) := by
  have silence : ∀ d, HomeKept d (takeSilence d) := fun d => by
    unfold takeSilence
    split
    · exact homeKept_silenceRunsOut d
    · exact homeKept_refl d
  have drain : ∀ d, HomeKept d (takeDrain d) := fun d => by
    unfold takeDrain
    split
    · exact homeKept_drainExpiry d
    · exact homeKept_refl d
  have windowed : HomeKept c (windowTaken c) := by
    unfold windowTaken
    split
    · exact (homeKept_countLinkTimers c).trans (homeKept_windowExpiry _)
    · exact homeKept_countLinkTimers c
  have gapped : HomeKept c (gapTaken c) := by
    unfold gapTaken
    split
    · exact windowed.trans (homeKept_gapExpiry _)
    · exact windowed
  rw [linkTick_eq]
  split
  · exact (gapped.trans (silence _)).trans (drain _)
  · exact (gapped.trans (drain _)).trans (silence _)

end Sys2Proof.HomeLink

end


section
/-! The scheduler's work (R131 to R145) and the return path (R116 to R119), and what they make of the conditions of the home
link and of the lists. -/

namespace Sys2Proof.HomeLink

open Sys2Proof.Machine Sys2Proof.Safety Sys2Proof.Claims Sys2Proof.Clockwork

-- One theorem after another: side by side, each waits for the others on a thread of its own.
set_option Elab.async false

variable {c d : Chip}

theorem homeKept_settle (delivered : Bool) (e : Entry) (c : Chip) : HomeKept c (settle delivered e c) :=
  (aside_settle delivered e (aside_refl c)).homeKept

theorem homeKept_changeQueued (k : Ctx) (n : PicNum) (f : Queued → Queued) (c : Chip) :
    HomeKept c (changeQueued k n f c) := (aside_changeQueued k n f (aside_refl c)).homeKept

/-! ## Entries that leave a list (R142, R143, R145) -/

/-- An entry taken from the awaiting list. -/
theorem homeKept_leavesAwaiting {p : Entry → Bool} {e : Entry} {rest : List Entry} {f : Scheduler → Scheduler}
    (taken : takeFirst p c.sched.awaiting = some (e, rest))
    (left : f c.sched = { c.sched with awaiting := rest, matchedAcks := (f c.sched).matchedAcks }) :
    HomeKept c (modSched f c) := by
  refine homeKept_lists (fun ok => ?_) fun empty => absurd empty (takeFirst_ne_nil taken)
  unfold modSched
  rw [left]
  exact schedOk_of_entries ok ((entriesOk_of_schedOk ok).sublist (takeFirst_sublist taken) (List.Sublist.refl _))

/-- An entry taken from the resend queue. -/
theorem homeKept_leavesResend {p : Entry → Bool} {e : Entry} {rest : List Entry} {f : Scheduler → Scheduler}
    (taken : takeFirst p c.sched.resend = some (e, rest))
    (left : f c.sched = { c.sched with resend := rest, matchedAcks := (f c.sched).matchedAcks }) :
    HomeKept c (modSched f c) := by
  refine homeKept_lists (fun ok => ?_) fun _ empty => absurd empty (takeFirst_ne_nil taken)
  unfold modSched
  rw [left]
  exact schedOk_of_entries ok ((entriesOk_of_schedOk ok).sublist (List.Sublist.refl _) (takeFirst_sublist taken))

/-- A settled entry, and the end of a drain that it was the last of. -/
theorem HomeKept.settled (h : HomeKept c d) (delivered : Bool) (e : Entry) :
    HomeKept c (checkDrain (settle delivered e d)) :=
  (h.trans (homeKept_settle delivered e d)).trans (homeKept_checkDrain _)

theorem homeKept_ackFrame (n : FrameNum) (c : Chip) : HomeKept c (ackFrame n c) := by
  unfold ackFrame
  split
  · rename_i taken
    exact (homeKept_leavesAwaiting taken rfl).settled _ _
  · split
    · rename_i taken
      exact (homeKept_leavesResend taken rfl).settled _ _
    · exact (aside_quiet (aside_refl c)).homeKept

/-- R143: an entry whose window has ended moves to the resend queue, or is lost. -/
theorem homeKept_ackExpiry (n : FrameNum) (c : Chip) : HomeKept c (ackExpiry n c) := by
  unfold ackExpiry
  split
  · rename_i e rest taken
    unfold expire
    split
    · rename_i again
      refine homeKept_lists (fun ok => ?_) fun empty => absurd empty (takeFirst_ne_nil taken)
      have once : e.sendCount = 1 := eq_of_beq (Bool.and_eq_true_iff.mp again).1
      have entries := entriesOk_of_schedOk ok
      have bound := entries.bound
      rw [takeFirst_length taken] at bound
      exact schedOk_of_entries ok ((entries.sublist (takeFirst_sublist taken) (List.Sublist.refl _)).snoc_resend
        (e := { e with timer := none }) (by omega) rfl once)
    · exact (homeKept_leavesAwaiting taken rfl).settled _ _
  · exact homeKept_refl c

theorem homeKept_loseResend (e : Entry) (c : Chip) : HomeKept c (loseResend e c) := by
  unfold loseResend
  split
  · rename_i taken
    exact (homeKept_leavesResend taken rfl).settled _ _
  · exact homeKept_refl c

theorem homeKept_deadlinePasses (k : Ctx) (n : PicNum) (c : Chip) : HomeKept c (deadlinePasses k n c) := by
  unfold deadlinePasses
  split
  · split
    · exact homeKept_refl c
    · refine HomeKept.trans ?_ (homeKept_foldl (fun d e => homeKept_loseResend e d) _ _)
      exact (aside_changeQueued _ _ _ (aside_quiet (aside_refl c))).homeKept
  · exact homeKept_refl c

/-! ## The work of a tick ahead of the selection (R131, R143, R145) -/

/-- R112, R131, R136: the credit of a state that sends. -/
theorem homeKept_credit {d : Chip} {n : Nat} (sends : linkSends c.link.state = true)
    (link : d.link = { c.link with credit := n }) (sched : SchedOk c → SchedOk d) : HomeKept c d where
  link := fun ⟨timers, ranges, _⟩ => by
    obtain ⟨quiet, hails, silence, limit, -⟩ := (timed_iff _).mp timers
    unfold LinkOk ListsOk
    rw [link]
    have silent : ¬linkSends c.link.state = false := by rw [sends]; nofun
    exact ⟨(timed_iff _).mpr ⟨quiet, hails, silence, limit, fun other => absurd other silent⟩, ranges,
      fun other => absurd other silent⟩
  sched := sched
  shut := fun ⟨down, _⟩ => by
    rw [down] at sends
    cases sends

theorem homeKept_earnCredit (c : Chip) : HomeKept c (earnCredit c) := by
  unfold earnCredit
  split
  · rename_i sends
    exact homeKept_credit sends rfl id
  · exact homeKept_refl c

theorem homeKept_countAckTimers (c : Chip) : HomeKept c (modSched countAckTimers c) := by
  refine homeKept_lists (fun ok => ?_) fun awaiting resend => ?_
  · obtain ⟨bound, waits, again⟩ := entriesOk_of_schedOk ok
    refine schedOk_of_entries ok ⟨?_, ?_, again⟩
    · exact (congrArg (· + c.sched.resend.length) (List.length_map _)).trans_le bound
    · refine List.forall_mem_map.mpr fun e he => ?_
      rw [countDown_isSome]
      exact waits e he
  · exact ⟨List.map_eq_nil_iff.mpr awaiting, resend⟩

/-! ## A selection (R134 to R136) -/

/-- R136: of the link, a frame sent takes credit alone. -/
theorem sendFound_link (f : Found) (c : Chip) : ∃ n, (sendFound f c).link = { c.link with credit := n } := by
  cases f with
  | audio a => exact ⟨_, rfl⟩
  | resend e => exact ⟨_, by rw [sendFound, resendEntry_eq, noteResend_link]; rfl⟩
  | label l => exact ⟨_, by rw [sendFound, sendLabelFrame, labelSent_link]; rfl⟩
  | video k q rotated => exact ⟨_, by rw [sendFound, sendVideo, changeQueued_link]; rfl⟩
  | pass x => exact ⟨_, rfl⟩

/-- R136, R141: an entry joins the awaiting list, its ack window started. -/
theorem schedOk_await {e : Entry} (ok : SchedOk c) (room : c.sched.awaiting.length + c.sched.resend.length < 48)
    (sends : 1 ≤ e.sendCount ∧ e.sendCount ≤ 2) : SchedOk (await e c) :=
  schedOk_of_entries ok ((entriesOk_of_schedOk ok).snoc_awaiting
    (e := { e with timer := some c.link.settings.ackWindow }) room rfl sends)

/-- R134, R136, R141: a frame found and sent leaves the lists and the queues within their bounds. -/
theorem schedOk_sendFound {f : Found} (found : findFrame c = some f) (ok : SchedOk c) : SchedOk (sendFound f c) := by
  have waits := waits_of_found found
  have room : listsHaveRoom c.sched = true → c.sched.awaiting.length + c.sched.resend.length < 48 := of_decide_eq_true
  have entries := entriesOk_of_schedOk ok
  have once : 1 ≤ 1 ∧ 1 ≤ 2 := by decide
  have twice : 1 ≤ 2 ∧ 2 ≤ 2 := by decide
  have shorter : ∀ {α : Type} (l : List α), (l.drop 1).length ≤ l.length := fun l => (List.drop_sublist 1 l).length_le
  cases f with
  | audio a => exact schedOk_of_entries ok entries (audio := shorter _)
  | pass x => exact schedOk_of_entries ok entries (passes := shorter _)
  | label l =>
    have left : SchedOk (modSched (fun s => { s with labelQueue := s.labelQueue.drop 1, labelSent := bump s.labelSent })
        (numberFrame (charge (labelBytes l c).length (putHt (labelBytes l c) c)))) :=
      schedOk_of_entries ok entries (labels := shorter _)
    exact (aside_labelSent l.clip (aside_refl _)).homeKept.sched (schedOk_await left (room waits) once)
  | video k q rotated =>
    have left : SchedOk (modSched (fun s => { s with
        allowance := modAt s.allowance k (fun a => a - (videoBytes q q.sent c).length),
        pointer := if rotated then k else s.pointer, videoSent := bump s.videoSent })
        (numberFrame (charge (videoBytes q q.sent c).length (putHt (videoBytes q q.sent c) c)))) := by
      refine schedOk_of_entries ok entries (allowance := fun j => ?_)
      show (modAt c.sched.allowance k (fun a => a - (videoBytes q q.sent c).length))[j] ≤ c.sched.allowance[j]
      rw [modAt_get]
      split
      · exact Nat.sub_le _ _
      · exact Nat.le_refl _
    exact (homeKept_changeQueued k q.picture.number fragmentSent _).sched (schedOk_await left (room waits) once)
  | resend e =>
    have fewer := List.length_pos_iff.mpr (show c.sched.resend ≠ [] from waits)
    have bound := entries.bound
    have left : SchedOk (modSched (fun s => { s with resend := s.resend.drop 1, resends := bump s.resends })
        (charge e.bytes.length (putHt e.bytes c))) :=
      schedOk_of_entries ok (entries.sublist (List.Sublist.refl _) (List.drop_sublist 1 _))
    have moved : SchedOk (resent e c) := by
      refine schedOk_await left ?_ twice
      show c.sched.awaiting.length + (c.sched.resend.drop 1).length < 48
      rw [List.length_drop]
      omega
    rw [sendFound, resendEntry_eq]
    unfold noteResend
    split
    · exact (homeKept_changeQueued _ _ _ _).sched moved
    · exact moved

theorem homeKept_selectFrames (fuel : Nat) (sends : linkSends c.link.state = true) :
    HomeKept c (selectFrames fuel c) := by
  induction fuel generalizing c with
  | zero => exact homeKept_refl c
  | succ fuel ih =>
    unfold selectFrames
    split
    · exact homeKept_refl c
    · rename_i f found
      split
      · obtain ⟨n, link⟩ := sendFound_link f c
        exact (homeKept_credit sends link (schedOk_sendFound found)).trans
          (ih (by rw [sendFound_linkState, sends]))
      · exact homeKept_refl c

theorem homeKept_schedulerTick (c : Chip) : HomeKept c (schedulerTick c) := by
  have expired : HomeKept c (expireWindows (earnCredit c)) :=
    ((homeKept_earnCredit c).trans (homeKept_countAckTimers _)).trans
      (homeKept_foldl (fun d (e : Entry) => homeKept_ackExpiry e.frame d) _ _)
  have due : HomeKept c (applyDeadlines (expireWindows (earnCredit c))) := expired.trans
    (homeKept_foldl (fun d k => homeKept_foldl (fun d (q : Queued) => homeKept_deadlinePasses k q.picture.number d) _ d) _ _)
  unfold schedulerTick selectTick
  split
  · rename_i sends
    exact due.trans (homeKept_selectFrames _ sends)
  · exact due

/-! ## The return path (R116 to R120) -/

theorem linkRangesOk_storeCapacity (v : Nat) {l : Link} (h : LinkRangesOk l) : LinkRangesOk (storeCapacity v l) := by
  obtain ⟨-, -, rest⟩ := h
  obtain ⟨least, most⟩ := clampNat_le (x := v) (lo := 500) (hi := 200000) (by decide)
  exact ⟨least, most, rest⟩

/-- R120: the silence timer started in a state in which it runs. -/
theorem homeKept_startSilence (runs : c.link.state = .up ∨ c.link.state = .draining) :
    HomeKept c (modLink startSilence c) :=
  homeKept_modLink fun ⟨quiet, hails, _, limit, credit⟩ =>
    ⟨quiet, hails, iff_of_true rfl runs, limit, credit⟩

/-- R116, R118: the link enters UP with its silence timer started, and no hail left. -/
theorem homeKept_enterUp {f : Link → Link} (up : c.link.state ≠ .down) (draining : c.link.state ≠ .draining)
    (unhailed : Timed c.link → Unhailed (f c.link)) (limit : (f c.link).drainLimit = c.link.drainLimit := by rfl)
    (ranges : LinkRangesOk c.link → LinkRangesOk (f c.link) := by exact id) :
    HomeKept c (modLink startSilence (enterLink .up [] (modLink f c))) where
  link := fun ⟨timers, ranges', _⟩ => by
    have h := (timed_iff _).mp timers
    have stopped : (f c.link).drainLimit = none := limit.trans (by simpa [draining] using h.limit)
    unfold LinkOk ListsOk modLink startSilence
    rw [enterLink_link]
    refine ⟨(timed_iff _).mpr ⟨fun _ => unhailed h, nofun, ?_, ?_, nofun⟩, ranges ranges', nofun⟩
    · exact iff_of_true rfl (.inl rfl)
    · refine iff_of_false (fun (runs : (f c.link).drainLimit.isSome = true) => ?_) nofun
      rw [stopped] at runs
      cases runs
  sched ok := by
    have entered : SchedOk (enterLink .up [] (modLink f c)) := by
      unfold SchedOk
      rw [enterLink_sched, enterLink_budget]
      exact ok
    exact entered
  shut := fun ⟨down, _⟩ => absurd down up

theorem homeKept_takeCapacity (v : Nat) (c : Chip) : HomeKept c (takeCapacity v c) := by
  have stored : HomeKept c (modLink (fun l => { storeCapacity v l with
      capacityMessages := bump l.capacityMessages }) c) :=
    homeKept_modLink (fun ⟨quiet, hails, silence, limit, credit⟩ => ⟨quiet, hails, silence, limit, credit⟩)
      (linkRangesOk_storeCapacity v)
  exact stored.trans (aside_setAttention [.capacity] (aside_refl _)).homeKept

theorem homeKept_takeBody (b : ReturnBody) (c : Chip) : HomeKept c (takeBody b c) := by
  have stray : HomeKept c (countStray c) := homeKept_countLink
  cases b with
  | hailAnswer v =>
    cases state : c.link.state
    all_goals simp only [takeBody, state]
    case hailing =>
      exact homeKept_enterUp (f := fun l => { storeCapacity v l with
          answerWindow := none, retryGap := none, phase := none, attempt := 0, credit := 0 })
        (by rw [state]; nofun) (by rw [state]; nofun) (fun _ => ⟨rfl, rfl, rfl, rfl⟩) rfl (linkRangesOk_storeCapacity v)
    all_goals exact stray
  | ack ns =>
    have acks : HomeKept c (ackFrames ns c) := homeKept_foldl (fun d n => homeKept_ackFrame n d) ns c
    cases state : c.link.state
    all_goals simp only [takeBody, state]
    case down => exact stray
    all_goals exact acks
  | capacity v =>
    have capacity := homeKept_takeCapacity v c
    cases state : c.link.state
    all_goals simp only [takeBody, state]
    case down => exact stray
    all_goals exact capacity

theorem homeKept_heard (c : Chip) : HomeKept c (heard c) := by
  unfold heard
  split
  · rename_i up
    exact homeKept_startSilence (.inl up)
  · rename_i draining
    exact homeKept_startSilence (.inr draining)
  · rename_i lost
    exact homeKept_enterUp (f := id) (by rw [lost]; nofun) (by rw [lost]; nofun) fun h => h.quiet (by rw [lost]; nofun)
  all_goals exact homeKept_refl c

theorem homeKept_returnMessage (bytes : List Byte) (c : Chip) : HomeKept c (returnMessage bytes c) := by
  unfold returnMessage
  split
  · exact homeKept_countLink
  · exact homeKept_countLink
  · split
    · have counted : HomeKept c (modLink (fun l => { l with validMessages := bump l.validMessages }) c) :=
        homeKept_countLink
      exact (counted.trans (homeKept_takeBody _ _)).trans (homeKept_heard _)
    · exact homeKept_countLink

/-! ## The link's commands (R113, R122, R125, R126) -/

/-- R113: a hail begun from DOWN or HELD. -/
theorem linkOk_hailing (idle : c.link.state = .down ∨ c.link.state = .held) (ok : LinkOk c) :
    LinkOk (beginAttempt (enterLink .hailing [] (modLink (fun l => { l with attempt := 1 }) c))) := by
  obtain ⟨timers, ranges, lists⟩ := ok
  obtain ⟨quiet, -, silence, limit, -⟩ := (timed_iff _).mp timers
  have states : linkSends c.link.state = false ∧ c.link.state ≠ .hailing ∧ c.link.state ≠ .up ∧
      c.link.state ≠ .draining := by
    obtain down | held := idle
    · rw [down]; decide
    · rw [held]; decide
  obtain ⟨silent, other, notUp, notDraining⟩ := states
  obtain ⟨-, -, -, gap⟩ := quiet other
  have first : 1 ≤ 1 ∧ 1 ≤ 3 := by decide
  have attempt : Timed { c.link with
      state := .hailing, attempt := 1, credit := 0, stateChanges := bump c.link.stateChanges, phase := some .window,
      answerWindow := some c.link.settings.answerWindow, hailAttempts := bump c.link.hailAttempts } :=
    timed_attempt (l := { c.link with
        state := .hailing, attempt := 1, credit := 0, stateChanges := bump c.link.stateChanges })
      rfl first gap (by simpa [notUp, notDraining] using silence) (by simpa [notDraining] using limit) rfl _ _
  unfold LinkOk ListsOk
  rw [beginAttempt_eq]
  unfold hailed
  dsimp only
  rw [enterLink_link, enterLink_sched]
  exact ⟨(timed_iff _).mpr attempt, ranges, fun _ => lists silent⟩

theorem linkOk_linkOpen (h : LinkOk c) : LinkOk (linkOpen c).1 := by
  unfold linkOpen
  split
  · exact h
  split
  · rename_i idle
    refine linkOk_hailing ?_ h
    simpa using idle
  · exact h

theorem schedOk_linkOpen (h : SchedOk c) : SchedOk (linkOpen c).1 := by
  unfold linkOpen
  split
  · exact h
  split
  · have entered : SchedOk (enterLink .hailing [] (modLink (fun l => { l with attempt := 1 }) c)) := by
      unfold SchedOk
      rw [enterLink_sched, enterLink_budget]
      exact h
    exact entered
  · exact h

theorem homeKept_handover (c : Chip) : HomeKept c (handover c).1 := by
  unfold handover
  split
  · exact homeKept_refl c
  split
  · rename_i sending
    have sending' : c.link.state = .up ∨ c.link.state = .lost := by simpa using sending
    have drained : HomeKept c (enterLink .draining [] (modLink (fun l => { startSilence l with
        drainLimit := some (2 * l.settings.ackWindow) }) c)) := by
      refine homeKept_enterLink [] (fun down => by simp [down] at sending') fun h =>
        ⟨fun _ => h.quiet fun hailing => by simp [hailing] at sending', nofun, iff_of_true rfl (.inr rfl),
          iff_of_true rfl rfl, nofun⟩
    exact drained.trans (homeKept_checkDrain _)
  · exact homeKept_refl c

theorem homeKept_linkClose (c : Chip) : HomeKept c (linkClose c).1 := by
  unfold linkClose
  split
  · exact homeKept_refl c
  split
  · exact homeKept_refl c
  · rename_i up
    exact ⟨fun ⟨_, ranges, _⟩ => linkOk_discarded (.inl rfl) ⟨rfl, rfl, rfl, rfl⟩ rfl rfl ranges,
      fun ok => schedOk_discarded ok, fun ⟨down, _⟩ => absurd down up⟩

theorem homeKept_setLink (identity window gap silence ack : BitVec 16) (c : Chip) :
    HomeKept c (setLink identity window gap silence ack c).1 := by
  unfold setLink
  dsimp only
  refine homeKept_modLink (fun ⟨quiet, hails, silence, limit, credit⟩ => ⟨quiet, hails, silence, limit, credit⟩)
    fun ⟨least, most, _⟩ => ?_
  obtain ⟨window, window'⟩ := clampNat_le (x := window.toNat) (lo := 50) (hi := 2000) (by decide)
  obtain ⟨gap, gap'⟩ := clampNat_le (x := gap.toNat) (lo := 100) (hi := 5000) (by decide)
  obtain ⟨silence, silence'⟩ := clampNat_le (x := silence.toNat) (lo := 100) (hi := 2000) (by decide)
  obtain ⟨ack, ack'⟩ := clampNat_le (x := ack.toNat) (lo := 20) (hi := 1000) (by decide)
  exact ⟨least, most, window, window', gap, gap', silence, silence', ack, ack'⟩

end Sys2Proof.HomeLink

end


section
/-! The steps and the home link: the block tick, the picture boundary, the commands, the cells and the step relation keep the
conditions of the link and of the scheduler, and in STANDBY nothing goes to HT. -/

namespace Sys2Proof.HomeLink

open Sys2Proof.Machine Sys2Proof.Safety Sys2Proof.Claims Sys2Proof.Clockwork

-- One theorem after another: side by side, each waits for the others on a thread of its own.
set_option Elab.async false

variable {c d : Chip}

/-! ## The block tick (R22) -/

theorem homeKept_tickWork (c : Chip) : HomeKept c (tickWork c) := by
  have begun : HomeKept c (tickBegun c) := (aside_quiet (aside_refl c)).homeKept
  rw [tickWork_eq]
  refine begun.trans (homeKept_foldl (fun d p => ?_) _ _)
  cases p with
  | mixer => exact (aside_mixerTick (aside_refl d)).homeKept
  | scheduler => exact homeKept_schedulerTick d
  | link => exact homeKept_linkTick _ d

/-! ## The picture boundary (R14, R59, R132) -/

theorem creditAllowance_le (target allowance : Nat) : creditAllowance target allowance ≤ 2 * target := Nat.min_le_right ..

/-- R132: whatever the division brings, an allowance is within twice its target after it. -/
theorem homeKept_divided (w : Chip) : HomeKept w (BudgetAndRate.divided w) := by
  refine homeKept_lists (fun ⟨audio, labels, passes, bound, _, waits, again⟩ => ?_) fun a r => ⟨a, r⟩
  refine ⟨audio, labels, passes, bound, fun k => ?_, waits, again⟩
  rw [BudgetAndRate.divided_allowance]
  exact creditAllowance_le _ _

theorem homeKept_boundaryWork (c : Chip) : HomeKept c (boundaryWork c) := by
  have selected := aside_selectorBoundary (aside_gatherBoundary (aside_steerBoundary (aside_refl c)))
  exact selected.homeKept.trans (homeKept_divided _)

theorem homeKept_makeBoundary (st : TimebaseState) (tc : Timecode) (h : Aside c d) : HomeKept c (makeBoundary st tc d) := by
  have restarted : Aside c (modTime (restartTimer st tc) d) := aside_quiet h
  exact restarted.homeKept.trans (homeKept_boundaryWork _)

/-! ## The clock (R15, R17, R18, R22) -/

theorem aside_modTime (f : Timebase → Timebase) (h : Aside c d) : Aside c (modTime f d) := aside_quiet h

theorem homeKept_expireBoundary (c : Chip) : HomeKept c (expireBoundary c) := by
  unfold expireBoundary
  split
  · have made := homeKept_makeBoundary .freeRun (countForward c.time.rate c.time.timecode) (aside_refl c)
    exact made.trans (aside_setAttention [.refLost] (aside_modTime _ (aside_refl _))).homeKept
  · exact homeKept_makeBoundary _ _ (aside_refl c)

theorem homeKept_sampleStep (c : Chip) : HomeKept c (sampleStep c) := by
  have counted : HomeKept c (modTime countSample c) := (aside_modTime _ (aside_refl c)).homeKept
  have chosen : HomeKept c (madeChoice (modTime countSample c)) := (aside_quiet (aside_refl c)).homeKept
  obtain ⟨-, -, e⟩ | ⟨-, -, e⟩ | ⟨-, -, e⟩ | ⟨-, -, e⟩ | ⟨-, -, e⟩ := sampleStep_cases c
  all_goals rw [e]
  · exact counted
  · exact counted.trans (homeKept_tickWork _)
  · exact counted.trans (homeKept_expireBoundary _)
  · exact (chosen.trans (homeKept_expireBoundary _)).trans (homeKept_tickWork _)
  · exact (chosen.trans (homeKept_tickWork _)).trans (homeKept_expireBoundary _)

theorem homeKept_runClock (n : Nat) (c : Chip) : HomeKept c (runClock n c) :=
  runClock_keeps (P := HomeKept c) (fun d h => h.trans (homeKept_sampleStep d)) n (homeKept_refl c)

theorem homeKept_expiryIn (st : TimebaseState) (c : Chip) : HomeKept c (expiryIn st c) := by
  unfold expiryIn
  split
  · exact homeKept_runClock _ c
  · exact homeKept_refl c

theorem homeKept_referenceCell (payload : List Byte) (c : Chip) : HomeKept c (referenceCell payload c) := by
  have start := aside_refl c
  unfold referenceCell
  split
  · exact (aside_modTime _ start).homeKept
  · exact (aside_modTime _ start).homeKept
  unfold takeReference
  dsimp only
  split
  · exact homeKept_makeBoundary _ _ (aside_modTime _ (aside_modTime _ start))
  · split
    · exact (aside_modTime _ (aside_modTime _ start)).homeKept
    · exact homeKept_makeBoundary _ _ (aside_modTime _ start)

/-! ## What a step keeps, a LINK_OPEN and a power-on reset among them -/

/-- The conditions of the link and of the scheduler are kept, and in STANDBY a link that is DOWN stays DOWN, with nothing
added to what has gone to HT. -/
structure HomeMoved (c d : Chip) : Prop where
  link : LinkOk c → LinkOk d
  sched : SchedOk c → SchedOk d
  shut : c.port.mode = .standby → Shut c → Shut d ∧ (d.ht = c.ht ∨ d.ht = [])

theorem HomeKept.moved (h : HomeKept c d) : HomeMoved c d :=
  ⟨h.link, h.sched, fun _ down => have ⟨down', ht⟩ := h.shut down; ⟨down', .inl ht⟩⟩

theorem homeMoved_refl (c : Chip) : HomeMoved c c := (homeKept_refl c).moved

theorem Aside.moved (h : Aside c d) : HomeMoved c d := h.homeKept.moved

/-- Quiet work that leaves the part mode, and then a move. -/
theorem Aside.before {b : Chip} (h : Aside b c) (mode : c.port.mode = b.port.mode) (h' : HomeMoved c d) : HomeMoved b d where
  link ok := h'.link (h.homeKept.link ok)
  sched ok := h'.sched (h.homeKept.sched ok)
  shut standby down :=
    have ⟨down', ht⟩ := h.homeKept.shut down
    ht ▸ h'.shut (mode.trans standby) down'

/-- A move, and then quiet work. -/
theorem HomeMoved.quietly {e : Chip} (h : HomeMoved c d) (h' : Aside d e) : HomeMoved c e where
  link ok := h'.homeKept.link (h.link ok)
  sched ok := h'.homeKept.sched (h.sched ok)
  shut standby down :=
    have ⟨down', ht⟩ := h.shut standby down
    have ⟨down'', ht'⟩ := h'.homeKept.shut down'
    ⟨down'', ht'.symm ▸ ht⟩

/-- R113: LINK_OPEN is refused in STANDBY. -/
theorem homeMoved_linkOpen (c : Chip) : HomeMoved c (linkOpen c).1 where
  link := linkOk_linkOpen
  sched := schedOk_linkOpen
  shut standby down := by
    rw [linkOpen, if_pos standby]
    exact ⟨down, .inl rfl⟩

/-- R7. -/
theorem homeMoved_powerOnPart (straps : BitVec 4) (c : Chip) : HomeMoved c (powerOnPart straps c) := by
  have quiet : Aside Chip.powerOn (powerOnPart straps c) := aside_quiet (aside_refl _)
  exact ⟨fun _ => quiet.homeKept.link VanFabric.linkOk_powerOn, fun _ => quiet.homeKept.sched VanFabric.schedOk_powerOn,
    fun _ _ => ⟨⟨rfl, VanFabric.linkOk_powerOn.1⟩, .inr rfl⟩⟩

/-! ## Unit reset (R128, R147, R182) -/

/-- R128, R147: the link is DOWN, its settings kept, and the lists and queues are empty. -/
theorem homeKept_resetBlocks (c : Chip) : HomeKept c (resetBlocks c) where
  link := fun ⟨_, ⟨_, _, settings⟩, _⟩ =>
    ⟨⟨rfl, rfl, rfl, rfl, rfl, rfl, rfl⟩, ⟨Nat.le_refl 500, show 500 ≤ 200000 by decide, settings⟩, fun _ => ⟨rfl, rfl⟩⟩
  sched _ := by
    refine ⟨Nat.zero_le 16, Nat.zero_le 16, Nat.zero_le 32, Nat.zero_le 48, fun k => ?_, List.forall_mem_nil _,
      List.forall_mem_nil _⟩
    have none : (resetBlocks c).sched.allowance[k] = 0 := Vector.getElem_replicate _
    rw [none]
    exact Nat.zero_le _
  shut _ := ⟨⟨rfl, ⟨rfl, rfl, rfl, rfl, rfl, rfl, rfl⟩⟩, rfl⟩

theorem homeKept_unitReset (c : Chip) : HomeKept c (unitReset c) := by
  unfold unitReset
  have reset := homeKept_resetBlocks c
  generalize resetBlocks c = d at reset
  exact reset.trans (aside_offerTallyOff (aside_refl d)).homeKept

theorem homeKept_resetUnit (c : Chip) : HomeKept c (resetUnit c).1 := by
  dsimp only [resetUnit]
  exact homeKept_unitReset c

/-! ## Commands (R175, R176) -/

theorem homeMoved_takeAddressed (tag : Byte) (name : List Byte) {work : Chip → Chip × Reply}
    (hw : ∀ d, HomeMoved d (work d).1) (c : Chip) : HomeMoved c (takeAddressed tag name work c) := by
  have held : Aside c (holdPlace c) := aside_quiet (aside_refl c)
  unfold takeAddressed
  split
  · exact (aside_quiet (aside_refl c)).moved
  · exact (held.before rfl (hw _)).quietly (aside_placeAnswer _ _ _ (aside_refl _))

theorem homeMoved_takeCommand {tag : Byte} {name : CommandName} {work : Chip → Chip × Reply}
    (hw : ∀ d, HomeMoved d (work d).1) (c : Chip) : HomeMoved c (takeCommand tag name work c) :=
  homeMoved_takeAddressed tag _ hw c

/-- A command that leaves the home link and the lists aside. -/
theorem homeMoved_takeAside {tag : Byte} {name : CommandName} {work : Chip → Chip × Reply}
    (hw : ∀ d, Aside d (work d).1) (c : Chip) : HomeMoved c (takeCommand tag name work c) :=
  homeMoved_takeCommand (fun d => (hw d).moved) c

/-- A command that keeps the conditions in either mode. -/
theorem homeMoved_takeKept {tag : Byte} {name : CommandName} {work : Chip → Chip × Reply}
    (hw : ∀ d, HomeKept d (work d).1) (c : Chip) : HomeMoved c (takeCommand tag name work c) :=
  homeMoved_takeCommand (fun d => (hw d).moved) c

/-- A command whose work only answers, or is refused. -/
theorem homeMoved_takeReading {tag : Byte} {name : CommandName} {work : Chip → Chip × Reply}
    (reads : ∀ d, (work d).1 = d) (c : Chip) : HomeMoved c (takeCommand tag name work c) :=
  homeMoved_takeAside (fun d => by rw [reads]; exact aside_refl d) c

theorem homeMoved_takeGlobal {work : Chip → Chip} (hw : ∀ d, Aside d (work d)) (c : Chip) :
    HomeMoved c (takeGlobal work c) := by
  have counted : Aside c { c with port := { c.port with globalsTaken := bump c.port.globalsTaken } } :=
    aside_quiet (aside_refl c)
  exact (counted.trans (hw _)).moved

/-- R101: a selection in both its forms. -/
theorem homeMoved_select (name : CommandName) (inRange : Bool) {take : Chip → Chip} (quiet : ∀ d, Aside d (take d))
    (c : Chip) :
    (∀ tag, HomeMoved c (takeCommand tag name (fun d =>
      if inRange then (take d, reply .done) else refuse .refusedRange d) c)) ∧
    HomeMoved c (takeGlobal (fun d => if inRange then take d else countRefusedGlobal d) c) := by
  cases inRange
  · exact ⟨fun tag => homeMoved_takeAside aside_refl c, homeMoved_takeGlobal (fun d => aside_quiet (aside_refl d)) c⟩
  · exact ⟨fun tag => homeMoved_takeAside quiet c, homeMoved_takeGlobal quiet c⟩

theorem homeMoved_preset (dest : Dest) (unit ctx : Byte) (c : Chip) : HomeMoved c (preset dest unit ctx c) := by
  obtain ⟨addressed, global⟩ := homeMoved_select .preset (selectInRange unit ctx) (take := takePreset unit ctx)
    (fun d => aside_quiet (aside_refl d)) c
  cases dest with
  | unit tag => exact addressed tag
  | all => exact global

theorem homeMoved_cutTo (dest : Dest) (unit ctx : Byte) (c : Chip) : HomeMoved c (cutTo dest unit ctx c) := by
  obtain ⟨addressed, global⟩ := homeMoved_select .cutTo (selectInRange unit ctx) (take := takeCut unit ctx)
    (fun d => aside_quiet (aside_refl d)) c
  cases dest with
  | unit tag => exact addressed tag
  | all => exact global

theorem homeMoved_take (dest : Dest) (c : Chip) : HomeMoved c (take dest c) := by
  cases dest with
  | unit tag => exact homeMoved_takeAside (fun d => aside_quiet (aside_refl d)) c
  | all => exact homeMoved_takeGlobal (work := takeTake) (fun d => aside_quiet (aside_refl d)) c

theorem homeMoved_swapSteer (dest : Dest) (c : Chip) : HomeMoved c (swapSteer dest c) := by
  cases dest with
  | unit tag => exact homeMoved_takeAside (fun d => aside_quiet (aside_refl d)) c
  | all => exact homeMoved_takeGlobal (work := requestSwap) (fun d => aside_quiet (aside_refl d)) c

/-- R176: every command of the catalogue; an event is no command. -/
theorem homeMoved_runCommand (i : Instr) (c : Chip) : HomeMoved c (runCommand i c) := by
  cases i with
  | setRate t r => exact homeMoved_takeAside (aside_setRate r) c
  | loadSteer t f n es => exact homeMoved_takeAside (aside_loadSteer f n es) c
  | readSteer t b f n => exact homeMoved_takeReading (readSteer_fst b f n) c
  | steerDefault t a => exact homeMoved_takeAside (aside_steerDefault a) c
  | swapSteer dest => exact homeMoved_swapSteer dest c
  | startContext t k => exact homeMoved_takeAside (aside_startContext k) c
  | stopContext t k => exact homeMoved_takeAside (aside_stopContext k) c
  | setContext t k w m bo bi sl mk la mode => exact homeMoved_takeAside (aside_setContext k w m bo bi sl mk la mode) c
  | setReservoir t k dp lo hi st => exact homeMoved_takeAside (aside_setReservoir k dp lo hi st) c
  | loadCurve t k es => exact homeMoved_takeAside (aside_loadCurve k es) c
  | setBudget t r => exact homeMoved_takeAside (fun d => aside_quiet (aside_refl d)) c
  | loadGain t f n es => exact homeMoved_takeAside (aside_loadGain f n es) c
  | readGain t f n => exact homeMoved_takeReading (fun d => by unfold readGain; split; all_goals rfl) c
  | setFader t i x r => exact homeMoved_takeAside (aside_setFader i x r) c
  | setAfv t i l on off => exact homeMoved_takeAside (aside_setAfv i l on off) c
  | setSends t i a b x y => exact homeMoved_takeAside (aside_setSends i a b x y) c
  | setBus t b m mute s => exact homeMoved_takeAside (aside_setBus b m mute s) c
  | setAudioSend t v => exact homeMoved_takeAside (aside_setAudioSend v) c
  | readMeters t => exact homeMoved_takeAside (fun d => aside_quiet (aside_refl d)) c
  | preset dest u k => exact homeMoved_preset dest u k c
  | take dest => exact homeMoved_take dest c
  | cutTo dest u k => exact homeMoved_cutTo dest u k c
  | setTally t k s => exact homeMoved_takeAside (aside_setTally k s) c
  | linkOpen t => exact homeMoved_takeCommand homeMoved_linkOpen c
  | handover t => exact homeMoved_takeKept homeKept_handover c
  | linkClose t => exact homeMoved_takeKept homeKept_linkClose c
  | setLink t v a r s k => exact homeMoved_takeKept (homeKept_setLink v a r s k) c
  | readLog t => exact homeMoved_takeAside aside_readLog c
  | markIn t k text rating => exact homeMoved_takeAside (aside_markIn k text rating) c
  | markOut t => exact homeMoved_takeAside aside_markOut c
  | setClipMode t a cs => exact homeMoved_takeAside (aside_setClipMode a cs) c
  | label t i text rating => exact homeMoved_takeAside (aside_label i text rating) c
  | sendLabel t i => exact homeMoved_takeAside (aside_sendLabel i) c
  | voidClip t i => exact homeMoved_takeAside (aside_voidClip i) c
  | setFence t n => exact homeMoved_takeAside (aside_setFence n) c
  | clearClips t => exact homeMoved_takeAside aside_clearClips c
  | readClip t i => exact homeMoved_takeReading (fun d => by unfold readClip; split; all_goals rfl) c
  | go t => exact homeMoved_takeAside aside_goRun c
  | standby t => exact homeMoved_takeAside aside_standBy c
  | resetUnit t => exact homeMoved_takeKept homeKept_resetUnit c
  | readStatus t b i => exact homeMoved_takeReading (fun d => by unfold readStatus; split; all_goals rfl) c
  | setNotices t m => exact homeMoved_takeAside (fun d => aside_quiet (aside_refl d)) c
  | ackAttention t m => exact homeMoved_takeAside (fun d => aside_quiet (aside_refl d)) c
  | _ => exact homeMoved_refl c

/-! ## Cells (R2 to R6, R175) -/

theorem homeMoved_controlCell (unit : BitVec 4) (payload : List Byte) (c : Chip) :
    HomeMoved c (controlCell unit payload c) := by
  unfold controlCell
  split
  · exact (aside_quiet (aside_refl c)).moved
  split
  · unfold addressedCell
    split
    · exact homeMoved_takeAddressed _ _ homeMoved_refl c
    · split
      · exact homeMoved_takeAddressed _ _ homeMoved_refl c
      · exact homeMoved_runCommand _ c
  split
  · unfold globalCell
    split
    · exact homeMoved_runCommand _ c
    · exact (aside_quiet (aside_refl c)).moved
  · exact (aside_quiet (aside_refl c)).moved

theorem homeMoved_laneBytes (n : LaneNo) (bytes : List Byte) (c : Chip) : HomeMoved c (laneBytes n bytes c) := by
  have counted : ∀ f, Aside c (modLane n f c) := fun f => aside_quiet (aside_refl c)
  unfold laneBytes
  split
  · exact (counted _).moved
  unfold receiveCell
  split
  · exact (counted _).moved
  · exact (counted _).moved
  · exact (counted _).before rfl (homeMoved_controlCell _ _ _)
  · exact ((counted _).homeKept.trans (homeKept_referenceCell _ _)).moved
  · exact (aside_steerCell _ _ _ (counted _)).moved

/-! ## A step -/

theorem homeMoved_exec {i : Instr} {s t : State} (row : exec i s = .next t) : HomeMoved s.chip t.chip := by
  have command : encodeParams i ≠ none → HomeMoved s.chip t.chip := fun hi => by
    rw [VanFabric.exec_command hi] at row
    cases row
    exact homeMoved_runCommand i s.chip
  cases i with
  | powerOnReset straps => cases row; exact homeMoved_powerOnPart straps _
  | cellArrival n bytes => cases row; exact homeMoved_laneBytes n bytes _
  | referenceLoss => cases row; exact (homeKept_expiryIn _ _).moved
  | freeRunBoundary => cases row; exact (homeKept_expiryIn _ _).moved
  | blockTick => cases row; exact (homeKept_runClock _ _).moved
  | audioInputLost i => cases row; exact (aside_audioInputLost i (aside_refl _)).moved
  | pictureDeadline k n => cases row; exact (homeKept_deadlinePasses k n _).moved
  | ackWindowExpiry n => cases row; exact (homeKept_ackExpiry n _).moved
  | hailAnswerWindowExpiry => cases row; exact (homeKept_windowExpiry _).moved
  | hailRetryGapExpiry => cases row; exact (homeKept_gapExpiry _).moved
  | silenceExpiry => cases row; exact (homeKept_silenceRunsOut _).moved
  | drainLimitExpiry => cases row; exact (homeKept_drainExpiry _).moved
  | codingCompletion coded => cases row; exact (aside_codingDone coded (aside_refl _)).moved
  | returnMessageArrival bytes => cases row; exact (homeKept_returnMessage bytes _).moved
  | foSendCompletion => cases row; exact (aside_foSent (aside_refl _)).moved
  | _ => exact command (Option.some_ne_none _)

theorem homeMoved_step {s t : State} (row : step s = .next t) : HomeMoved s.chip t.chip := by
  obtain ⟨c, pending⟩ := s
  cases pending with
  | nil =>
    rw [step_idle] at row
    cases row
    exact (homeKept_sampleStep c).moved
  | cons i rest => exact homeMoved_exec (s := ⟨c, rest⟩) row

/-- Settles O56: each operation that a step is made of keeps the conditions of the link and of the scheduler. -/
theorem stepsKeepLinkAndScheduler : Obligations.StepsKeepLinkAndScheduler := by
  unfold Obligations.StepsKeepLinkAndScheduler
  intro s t row
  have moved := homeMoved_step row
  exact ⟨moved.link, moved.sched⟩

/-- Settles O59: STANDBY has the link DOWN, where no timer runs and nothing but a LINK_OPEN begins a frame, which STANDBY
refuses. -/
theorem standbySendsNothingHome : Obligations.StandbySendsNothingHome := by
  unfold Obligations.StandbySendsNothingHome
  intro s t row mode standby timers
  obtain ⟨⟨down, -⟩, ht⟩ := (homeMoved_step row).shut mode ⟨(standby mode).1, timers⟩
  exact ⟨ht, down⟩

end Sys2Proof.HomeLink

end


section
/-! The commands of the home link (R113, R122, R125, R126), and what the end of a drain leaves (R123, R144). -/

namespace Sys2Proof.HomeLink

open Sys2Proof.Machine Sys2Proof.Safety Sys2Proof.Claims Sys2Proof.Clockwork Sys2Proof.CodingRoom Sys2Proof.BudgetAndRate

/-! ## LINK_OPEN (R113) -/

theorem linkOpen_standby {c : Chip} (mode : c.port.mode = .standby) : linkOpen c = refuse .refusedState c := if_pos mode

theorem linkOpen_begins {c : Chip} (run : c.port.mode = .run) (idle : c.link.state = .down ∨ c.link.state = .held) :
    linkOpen c = (hailed (entered .hailing [] { c with link := { c.link with attempt := 1 } }), reply .done) := by
  have begins : (c.link.state = .down || c.link.state = .held) = true := by simpa using idle
  rw [linkOpen, if_neg (by rw [run]; nofun), if_pos begins, enterLink_eq, beginAttempt_eq]
  rfl

theorem linkOpen_busy {c : Chip} (run : c.port.mode = .run) (notDown : c.link.state ≠ .down)
    (notHeld : c.link.state ≠ .held) : linkOpen c = refuse .refusedState c := by
  have busy : ¬(c.link.state = .down || c.link.state = .held) = true := by simp [notDown, notHeld]
  rw [linkOpen, if_neg (by rw [run]; nofun), if_neg busy]

/-! ## SET_LINK (R126) -/

theorem setLink_eq (identity window gap silence ack : BitVec 16) (c : Chip) :
    setLink identity window gap silence ack c =
      ({ c with link := { c.link with settings :=
          ⟨identity, within 50 2000 window.toNat, within 100 5000 gap.toNat, within 100 2000 silence.toNat,
            within 20 1000 ack.toNat⟩ } },
        doneReply (outside 50 2000 window.toNat || outside 100 5000 gap.toNat || outside 100 2000 silence.toNat
          || outside 20 1000 ack.toNat)) := by
  unfold setLink
  simp only [clampNat_eq_within, decide_within_ne, Nat.reduceLeDiff, modLink]

/-- Settles O37: LINK_OPEN by the mode and the link state, and SET_LINK's four ranges. -/
theorem linkOpenAndSetLink : Obligations.LinkOpenAndSetLink := by
  unfold Obligations.LinkOpenAndSetLink
  refine ⟨fun tag s room => ⟨fun run idle => ?_, fun run notDown notHeld => ?_, fun standby => ?_⟩,
    fun tag identity window gap silence ack s room => ?_⟩
  · exact answers_of_work room rfl (linkOpen_begins (c := holdPlace s.chip) run idle)
  · exact answers_of_work room rfl (linkOpen_busy (c := holdPlace s.chip) run notDown notHeld)
  · exact answers_of_work room rfl (linkOpen_standby (c := holdPlace s.chip) standby)
  · exact answers_of_work room rfl (setLink_eq ..)

/-! ## Entries left at the end of a drain (R123, R144) -/

theorem lostInTurn_foldl (l : List Entry) (c : Chip) : LostInTurn l c (l.foldl (fun d e => settle false e d) c) := by
  induction l generalizing c with
  | nil => rfl
  | cons e l ih => exact ⟨settle false e c, countLost_false c ▸ settled_settle false e c, ih _⟩

/-- R123, R125, R144. -/
theorem allLost_declareAllLost (c : Chip) : AllLost c (declareAllLost c) := lostInTurn_foldl _ _

/-- R144: of the scheduler, entries settled as lost one after another change the video queues and the count of them. -/
theorem settleLost_sched (l : List Entry) (c : Chip) : (l.foldl (fun d e => settle false e d) c).sched = { c.sched with
    videoQueue := (l.foldl (fun d e => settle false e d) c).sched.videoQueue,
    entriesLost := bumpBy l.length c.sched.entriesLost } := by
  induction l generalizing c with
  | nil =>
    rw [List.length_nil, bumpBy_zero]
    rfl
  | cons e l ih =>
    rw [List.foldl_cons, ih, settle_sched, List.length_cons, Nat.add_comm, ← bumpBy_add, bumpBy_one]
    rfl

theorem declareAllLost_sched (c : Chip) : (declareAllLost c).sched = { c.sched with
    awaiting := [], resend := [], videoQueue := (declareAllLost c).sched.videoQueue,
    entriesLost := bumpBy (c.sched.awaiting.length + c.sched.resend.length) c.sched.entriesLost } := by
  rw [← List.length_append]
  exact settleLost_sched ..

theorem discardAudio_eq (c : Chip) : discardAudio c = audioDropped c := rfl

/-! ## HANDOVER and LINK_CLOSE (R122, R125) -/

theorem drainedOut_draining {c : Chip} (draining : c.link.state = .draining) :
    drainedOut c = if c.sched.awaiting = [] ∧ c.sched.resend = [] then drainEnd c else c := by
  simp only [drainedOut, draining, true_and]

/-- R122: a drain begun, before it is seen whether it is over at once. -/
def drainBegun (c : Chip) : Chip := entered .draining [] { c with link := { c.link with
  silence := some c.link.settings.silence, drainLimit := some (2 * c.link.settings.ackWindow) } }

theorem handover_sends {c : Chip} (run : c.port.mode = .run) (sends : c.link.state = .up ∨ c.link.state = .lost) :
    handover c = (if c.sched.awaiting = [] ∧ c.sched.resend = [] then drainEnd (drainBegun c) else drainBegun c,
      reply .done) := by
  have sending : (c.link.state = .up || c.link.state = .lost) = true := by simpa using sends
  have begun : enterLink .draining [] (modLink (fun l => { startSilence l with
      drainLimit := some (2 * l.settings.ackWindow) }) c) = drainBegun c := enterLink_eq ..
  have state : (drainBegun c).link.state = .draining := by rw [← begun, enterLink_link]
  have sched : (drainBegun c).sched = c.sched := by rw [← begun, enterLink_sched]; rfl
  rw [handover, if_neg (by rw [run]; nofun), if_pos sending, begun, checkDrain_eq, drainedOut_draining state, sched]

theorem handover_refused {c : Chip} (h : c.port.mode = .standby ∨ ¬(c.link.state = .up ∨ c.link.state = .lost)) :
    handover c = refuse .refusedState c := by
  unfold handover
  split
  · rfl
  · rename_i run
    exact if_neg fun sending => (h.resolve_left run) (by simpa using sending)

theorem linkClose_up {c : Chip} (run : c.port.mode = .run) (up : c.link.state ≠ .down) :
    linkClose c = (entered .down [] (audioDropped (declareAllLost { c with link := { c.link with
      answerWindow := none, retryGap := none, silence := none, drainLimit := none, phase := none, attempt := 0 } })),
      reply .done) := by
  rw [linkClose, if_neg (by rw [run]; nofun), if_neg up, closeLink, enterLink_eq]
  rfl

theorem linkClose_down {c : Chip} (run : c.port.mode = .run) (down : c.link.state = .down) :
    linkClose c = (c, reply .done) := by
  rw [linkClose, if_neg (by rw [run]; nofun), if_pos down]

theorem linkClose_standby {c : Chip} (mode : c.port.mode = .standby) : linkClose c = refuse .refusedState c := if_pos mode

/-! ## The end of a drain (R123) -/

theorem listsEmpty_eq (s : Scheduler) : listsEmpty s = decide (s.awaiting.length + s.resend.length = 0) := by
  rw [Bool.eq_iff_iff]
  simp [listsEmpty]

/-- R123: the timers stopped, and the drain counted. -/
def drainStopped (c : Chip) : Chip :=
  let left := c.sched.awaiting.length + c.sched.resend.length
  { c with link := { c.link with
      silence := none, drainLimit := none, drainsCompleted := bumpIf (decide (left = 0)) c.link.drainsCompleted,
      drainsCutShort := bumpIf (decide (left ≠ 0)) c.link.drainsCutShort } }

theorem drainEnd_eq (c : Chip) : drainEnd c = enterLink .held [] (discardAudio (declareAllLost (drainStopped c))) := by
  unfold drainEnd drainStopped
  simp only [listsEmpty_eq, modLink, decide_not]

theorem drainEnd_link (c : Chip) : (drainEnd c).link = { (drainStopped c).link with
    state := .held, credit := 0, stateChanges := bump c.link.stateChanges,
    audioDiscarded := bumpBy c.sched.audioQueue.length c.link.audioDiscarded } := by
  rw [drainEnd_eq, discarded_link, declareAllLost_sched]
  rfl

theorem drainEnd_sched (c : Chip) : (drainEnd c).sched = { c.sched with
    awaiting := [], resend := [], audioQueue := [], videoQueue := (drainEnd c).sched.videoQueue,
    entriesLost := bumpBy (c.sched.awaiting.length + c.sched.resend.length) c.sched.entriesLost } := by
  rw [drainEnd_eq, enterLink_sched, discardAudio, declareAllLost_sched]
  rfl

theorem drainEnd_ht (c : Chip) : (drainEnd c).ht = c.ht := by
  rw [drainEnd_eq, enterLink_ht]
  exact (aside_declareAllLost (drainStopped c)).ht

theorem drainEnd_attention (c : Chip) : attHas (drainEnd c).port.attention .linkState = true :=
  (attHas_setAttention _ _ _).mpr (.inr (.head _))

/-- Settles O39: HANDOVER and LINK_CLOSE by the mode and the link state, and the fields of the part that a drain's end
leaves, with what it declares lost. -/
theorem handoverCloseAndTheDrainsEnd : Obligations.HandoverCloseAndTheDrainsEnd := by
  unfold Obligations.HandoverCloseAndTheDrainsEnd
  refine ⟨fun tag s room => ?_, fun c => ?_⟩
  · intro drained sending empty
    refine ⟨fun run sends left => ?_, fun run sends done => ?_, fun h => ?_, fun run down => ?_, fun run up => ?_,
      fun standby => ?_⟩
    · refine answers_of_work room rfl ((handover_sends (c := holdPlace s.chip) run sends).trans ?_)
      exact congrArg (·, reply .done) (if_neg left)
    · refine answers_of_work (f := fun c => drainEnd (drained c)) room rfl
        ((handover_sends (c := holdPlace s.chip) run sends).trans ?_)
      exact congrArg (·, reply .done) (if_pos done)
    · exact answers_of_work room rfl (handover_refused (c := holdPlace s.chip) h)
    · exact answers_of_work room rfl (linkClose_down (c := holdPlace s.chip) run down)
    · exact ⟨_, allLost_declareAllLost _, answers_of_work room rfl (linkClose_up (c := holdPlace s.chip) run up)⟩
    · exact answers_of_work room rfl (linkClose_standby (c := holdPlace s.chip) standby)
  · intro d left
    have link : d.link = _ := drainEnd_link c
    have sched : d.sched = _ := drainEnd_sched c
    refine ⟨⟨_, ?_, allLost_declareAllLost (drainStopped c)⟩, ?_⟩
    · exact (drainEnd_eq c).trans (enterLink_eq ..)
    · rw [link, sched]
      exact ⟨rfl, rfl, rfl, rfl, rfl, rfl, rfl, rfl, rfl, rfl, rfl, rfl, rfl, rfl, rfl, rfl, rfl, drainEnd_ht c,
        drainEnd_attention c⟩

end Sys2Proof.HomeLink

end


section
/-! Return messages (R116 to R120, R142, R190): how the bytes of a message are judged, and what each kind does in each link
state. -/

namespace Sys2Proof.HomeLink

open Sys2Proof.Machine Sys2Proof.Safety Sys2Proof.Claims Sys2Proof.Clockwork Sys2Proof.BudgetAndRate

/-! ## Numbers in bytes, most significant byte first -/

theorem toNat_append_eq {m n : Nat} (a : BitVec m) (b : BitVec n) : (a ++ b).toNat = a.toNat * 2 ^ n + b.toNat := by
  rw [BitVec.toNat_append, ← Nat.shiftLeft_add_eq_or_of_lt b.isLt, Nat.shiftLeft_eq]

theorem u16_toNat (a b : Byte) : (u16 a b).toNat = a.toNat * 256 + b.toNat := toNat_append_eq a b

theorem u24_toNat (a b d : Byte) : (u24 a b d).toNat = (a.toNat * 256 + b.toNat) * 256 + d.toNat := by
  rw [u24, toNat_append_eq, toNat_append_eq]
  rfl

theorem u32_toNat (a b d e : Byte) :
    (u32 a b d e).toNat = (a.toNat * 65536 + b.toNat * 256 + d.toNat) * 256 + e.toNat := by
  rw [u32, toNat_append_eq, toNat_append_eq, toNat_append_eq]
  omega

/-! ## The judgement of a message (R117) -/

theorem drop_cons6 {α : Type} (a b d e f g : α) (rest : List α) {n : Nat} (h : 4 ≤ rest.length) (hn : n = rest.length + 6) :
    (a :: b :: d :: e :: f :: g :: rest).drop (n - 4) = rest.drop (rest.length - 4) := by
  obtain ⟨m, hm⟩ : ∃ m, rest.length = m + 4 := ⟨rest.length - 4, by omega⟩
  rw [hn, hm, show m + 4 + 6 - 4 = m + 6 by omega, Nat.add_sub_cancel]
  rfl

/-- R117, R190, log entry 11: a message that is too short, of another length than it says, or whose check is another. -/
theorem readReturn_badCheck {bytes : List Byte}
    (bad : bytes.length < 10 ∨ (bytes.getD 4 0).toNat * 256 + (bytes.getD 5 0).toNat ≠ bytes.length ∨
      bytes.drop (bytes.length - 4) ≠ le32 (crc32 (bytes.take (bytes.length - 4)))) : readReturn bytes = .badCheck := by
  unfold readReturn
  split
  · rename_i k u v1 v0 l1 l0 rest
    split
    · rfl
    · rename_i long
      split
      · rfl
      · rename_i length
        refine if_pos fun check => ?_
        rw [u16_toNat] at length
        obtain short | other | damaged := bad
        · exact long short
        · exact length other
        · refine damaged (Eq.trans (drop_cons6 _ _ _ _ _ _ _ ?_ rfl) check)
          simp only [List.length_cons] at long
          omega
  · rfl

/-- R117, R190: a message of the length it says and with its own check is read by its kind. -/
theorem readReturn_returnBytes {kind unit : Byte} {identity : BitVec 16} {body : List Byte} (fits : body.length ≤ 60000) :
    readReturn (returnBytes kind unit identity body) =
      (readReturnBody kind body).elim .malformed (.message unit identity) := by
  have check : ∀ head : List Byte, (le32 (crc32 head)).length = 4 := fun _ => rfl
  unfold returnBytes
  extract_lets head
  have cons : head ++ le32 (crc32 head) = kind :: unit :: identity.extractLsb' 8 8 :: identity.extractLsb' 0 8 ::
      (BitVec.ofNat 16 (10 + body.length)).extractLsb' 8 8 :: (BitVec.ofNat 16 (10 + body.length)).extractLsb' 0 8 ::
      (body ++ le32 (crc32 head)) := rfl
  have whole : (head ++ le32 (crc32 head)).length = 10 + body.length := by
    rw [cons]
    simp only [List.length_cons, List.length_append, check]
    omega
  have start : (head ++ le32 (crc32 head)).take (10 + body.length - 4) = head := by
    refine List.take_left' ?_
    have := List.length_append (as := head) (bs := le32 (crc32 head))
    rw [whole, check] at this
    omega
  have rest : (body ++ le32 (crc32 head)).length - 4 = body.length := by
    rw [List.length_append, check, Nat.add_sub_cancel]
  have field : (BitVec.ofNat 16 (10 + body.length)).toNat = 10 + body.length :=
    Nat.mod_eq_of_lt (by omega)
  have long : ¬10 + body.length < 10 := by omega
  rw [cons] at whole start ⊢
  unfold readReturn
  simp only [u16_of_be16, whole, field, start, rest, List.drop_left, List.take_left, if_neg long, ne_eq, not_true_eq_false,
    if_false]
  cases readReturnBody kind body with
  | none => rfl
  | some b => rfl

/-! ## The bodies by their kinds (R190) -/

/-- A frame number of an ACK's body by its place. -/
def ackNumber (l : List Byte) (j : Nat) : FrameNum := u24 (l.getD (3 * j) 0) (l.getD (3 * j + 1) 0) (l.getD (3 * j + 2) 0)

theorem readFrameNums_eq {m : Nat} {l : List Byte} (h : l.length = 3 * m) :
    readFrameNums l = some ((List.range m).map (ackNumber l)) := by
  induction m generalizing l with
  | zero =>
    rw [List.length_eq_zero_iff.mp h]
    rfl
  | succ m ih =>
    obtain ⟨a, l, rfl⟩ := List.exists_cons_of_length_eq_add_one (n := 3 * m + 2) (by omega)
    obtain ⟨b, l, rfl⟩ := List.exists_cons_of_length_eq_add_one (n := 3 * m + 1) (l := l)
      (by simp only [List.length_cons] at h; omega)
    obtain ⟨d, l, rfl⟩ := List.exists_cons_of_length_eq_add_one (n := 3 * m) (l := l)
      (by simp only [List.length_cons] at h; omega)
    have next : ∀ j, ackNumber (a :: b :: d :: l) (j + 1) = ackNumber l j := fun _ => rfl
    rw [readFrameNums, ih (by simp only [List.length_cons] at h; omega), List.range_succ_eq_map, List.map_cons, List.map_map]
    simp only [Function.comp_def, Nat.succ_eq_add_one, next]
    rfl

/-- R190: the four bytes of a capacity. -/
def fourBytes (body : List Byte) : Nat :=
  ((body.getD 0 0).toNat * 65536 + (body.getD 1 0).toNat * 256 + (body.getD 2 0).toNat) * 256 + (body.getD 3 0).toNat

theorem eq_of_length_four {l : List Byte} (h : l.length = 4) : ∃ a b d e, l = [a, b, d, e] := by
  match l, h with
  | [a, b, d, e], _ => exact ⟨a, b, d, e, rfl⟩

theorem readReturnBody_hailAnswer {kind : Byte} {body : List Byte} (one : kind.toNat = 1) (four : body.length = 4) :
    readReturnBody kind body = some (.hailAnswer (fourBytes body)) := by
  obtain rfl : kind = 1#8 := BitVec.eq_of_toNat_eq one
  obtain ⟨a, b, d, e, rfl⟩ := eq_of_length_four four
  exact congrArg (fun v => some (ReturnBody.hailAnswer v)) (u32_toNat a b d e)

theorem readReturnBody_capacity {kind : Byte} {body : List Byte} (three : kind.toNat = 3) (four : body.length = 4) :
    readReturnBody kind body = some (.capacity (fourBytes body)) := by
  obtain rfl : kind = 3#8 := BitVec.eq_of_toNat_eq three
  obtain ⟨a, b, d, e, rfl⟩ := eq_of_length_four four
  exact congrArg (fun v => some (ReturnBody.capacity v)) (u32_toNat a b d e)

theorem readReturnBody_ack {kind n : Byte} {rest : List Byte} (two : kind.toNat = 2) (least : 1 ≤ n.toNat)
    (most : n.toNat ≤ 16) (length : rest.length = 3 * n.toNat) :
    readReturnBody kind (n :: rest) = some (.ack ((List.range n.toNat).map (ackNumber rest))) := by
  obtain rfl : kind = 2#8 := BitVec.eq_of_toNat_eq two
  have some' : n ≠ 0#8 := by
    rintro rfl
    exact absurd least (by decide)
  unfold readReturnBody
  rw [if_neg (by decide), if_pos rfl]
  dsimp only
  rw [if_neg some', if_neg (Nat.not_lt.mpr most), if_neg (not_not_intro length), readFrameNums_eq length]
  rfl

/-- R190: the bodies that a kind allows. -/
def Allowed (kind : Byte) (body : List Byte) : Prop :=
  ((kind.toNat = 1 ∨ kind.toNat = 3) ∧ body.length = 4) ∨
    (kind.toNat = 2 ∧ 1 ≤ (body.getD 0 0).toNat ∧ (body.getD 0 0).toNat ≤ 16 ∧
      body.length = 1 + 3 * (body.getD 0 0).toNat)

/-- R117: any other body is malformed. -/
theorem readReturnBody_none {kind : Byte} {body : List Byte} (other : ¬Allowed kind body) :
    readReturnBody kind body = none := by
  unfold readReturnBody
  split
  · rename_i one
    split
    · exact absurd (.inl ⟨.inl (by rw [one]; rfl), rfl⟩) other
    · rfl
  split
  · rename_i two
    split
    · rename_i n rest
      split
      · rfl
      split
      · rfl
      split
      · rfl
      rename_i some' most length
      refine absurd (.inr ⟨by rw [two]; rfl, ?_, Nat.le_of_not_lt most, ?_⟩) other
      · exact Nat.pos_of_ne_zero fun zero => some' (BitVec.eq_of_toNat_eq zero)
      · rw [List.length_cons, not_not.mp length, Nat.add_comm]
        rfl
    · rfl
  split
  · rename_i three
    split
    · exact absurd (.inl ⟨.inr (by rw [three]; rfl), rfl⟩) other
    · rfl
  · rfl

/-- R190: the frame numbers of an ACK, behind the byte that counts them. -/
theorem ackNumbers_eq (n : Byte) (rest : List Byte) : (List.range n.toNat).map (ackNumber rest) =
    (List.range n.toNat).map (fun j => BitVec.ofNat 24 ((((n :: rest).getD (3 * j + 1) 0).toNat * 256
      + ((n :: rest).getD (3 * j + 2) 0).toNat) * 256 + ((n :: rest).getD (3 * j + 3) 0).toNat)) := by
  refine List.map_congr_left fun j _ => ?_
  calc ackNumber rest j = BitVec.ofNat 24 (ackNumber rest j).toNat := ((BitVec.ofNat_toNat ..).trans (BitVec.setWidth_eq _)).symm
    _ = _ := congrArg (BitVec.ofNat 24) (u24_toNat ..)

/-! ## What a valid message does (R116, R118, R119) -/

theorem heard_eq (c : Chip) : heard c = afterHeard c := by
  unfold heard afterHeard
  cases state : c.link.state
  case lost => simp [enterLink_eq, modLink, startSilence]
  all_goals simp [modLink, startSilence]

theorem storeCapacity_eq (v : Nat) (l : Link) : storeCapacity v l = { l with
    capacity := within 500 200000 v, capacityClamps := bumpIf (outside 500 200000 v) l.capacityClamps } := by
  rw [storeCapacity, clampNat_eq_within (by decide), decide_within_ne (by decide)]

theorem heard_up {c : Chip} (up : c.link.state = .up) : heard c = modLink startSilence c := by
  simp only [heard, up]

theorem heard_startSilence {c : Chip} (up : c.link.state = .up) : heard (modLink startSilence c) = heard c := by
  rw [heard_up up, heard_up (c := modLink startSilence c) up]
  rfl

/-- R116: in UP the message that opened the link leaves its silence timer as it was started. -/
theorem heard_openLink (v : Nat) (c : Chip) : heard (openLink v c) = afterHeard (entered .up [] { c with
    link := { storeCapacity v c.link with
      answerWindow := none, retryGap := none, phase := none, attempt := 0, credit := 0 } }) := by
  rw [← enterLink_eq, ← heard_eq]
  refine heard_startSilence ?_
  rw [enterLink_link]

theorem takeBody_down {c : Chip} (down : c.link.state = .down) (b : ReturnBody) : takeBody b c = countStray c := by
  cases b
  all_goals simp only [takeBody, down]

theorem takeBody_hailAnswer_stray {c : Chip} (other : c.link.state ≠ .hailing) (v : Nat) :
    takeBody (.hailAnswer v) c = countStray c := by
  cases state : c.link.state
  case hailing => exact absurd state other
  all_goals simp only [takeBody, state]

theorem takeBody_hailAnswer_hailing {c : Chip} (hailing : c.link.state = .hailing) (v : Nat) :
    takeBody (.hailAnswer v) c = openLink v c := by simp only [takeBody, hailing]

theorem takeBody_capacity {c : Chip} (up : c.link.state ≠ .down) (v : Nat) :
    takeBody (.capacity v) c = takeCapacity v c := by
  cases state : c.link.state
  case down => exact absurd state up
  all_goals simp only [takeBody, state]

theorem takeBody_ack {c : Chip} (up : c.link.state ≠ .down) (ns : List FrameNum) :
    takeBody (.ack ns) c = ns.foldl (fun d n => ackFrame n d) c := by
  cases state : c.link.state
  case down => exact absurd state up
  all_goals
    simp only [takeBody, state]
    rfl

theorem forThisUnit_iff (unit : Byte) (identity : BitVec 16) (c : Chip) :
    forThisUnit unit identity c = true ↔ unit.toNat = c.unit.val ∧ identity = c.link.settings.identity := by
  simp [forThisUnit]

/-- R117: a message for this unit counts as valid, is taken by its kind, and then counts as one heard. -/
theorem returnMessage_mine {c : Chip} {bytes : List Byte} {unit : Byte} {identity : BitVec 16} {b : ReturnBody}
    (read : readReturn bytes = .message unit identity b)
    (mine : unit.toNat = c.unit.val ∧ identity = c.link.settings.identity) :
    returnMessage bytes c = heard (takeBody b { c with link := { c.link with
      validMessages := bump c.link.validMessages } }) := by
  rw [returnMessage, read]
  exact if_pos ((forThisUnit_iff ..).mpr mine)

theorem returnMessage_other {c : Chip} {bytes : List Byte} {unit : Byte} {identity : BitVec 16} {b : ReturnBody}
    (read : readReturn bytes = .message unit identity b)
    (other : ¬(unit.toNat = c.unit.val ∧ identity = c.link.settings.identity)) :
    returnMessage bytes c = { c with link := { c.link with identityMismatches := bump c.link.identityMismatches } } := by
  rw [returnMessage, read]
  exact if_neg (mt (forThisUnit_iff ..).mp other)

theorem exists_body {kind : Byte} {body : List Byte} (allowed : Allowed kind body) :
    ∃ b, readReturnBody kind body = some b := by
  obtain ⟨one | three, four⟩ | ⟨two, least, most, length⟩ := allowed
  · exact ⟨_, readReturnBody_hailAnswer one four⟩
  · exact ⟨_, readReturnBody_capacity three four⟩
  · obtain ⟨n, rest, rfl⟩ := List.exists_cons_of_length_eq_add_one (length.trans (Nat.add_comm ..))
    exact ⟨_, readReturnBody_ack two least most (by simpa [Nat.add_comm] using length)⟩

/-- R190: a body of the right length for its kind, where the kind is HAIL_ANSWER or CAPACITY. -/
theorem Allowed.four {kind : Byte} {body : List Byte} (allowed : Allowed kind body) (other : kind.toNat ≠ 2) :
    body.length = 4 := by
  obtain ⟨-, four⟩ | ⟨two, -⟩ := allowed
  · exact four
  · exact absurd two other

/-- Settles O40: the tests in their order, and then each kind of message by the link state. -/
theorem returnMessagesAreJudgedAndTaken : Obligations.ReturnMessagesAreJudgedAndTaken := by
  unfold Obligations.ReturnMessagesAreJudgedAndTaken
  intro bytes body kind unit identity s l
  refine ⟨fun bad => ends_of_work rfl ?_, fun whole fits => ?_⟩
  · rw [returnMessage, readReturn_badCheck bad]
    rfl
  intro allowed mine valid stray value stored numbers
  have read : ∀ {b}, readReturnBody kind body = some b → readReturn bytes = .message unit identity b := fun known => by
    rw [whole, readReturn_returnBytes fits, known, Option.elim_some]
  have taken : ∀ {b d}, mine → readReturnBody kind body = some b → heard (takeBody b valid) = d →
      Ends (.returnMessageArrival bytes) s d := fun own known done =>
    ends_of_work rfl ((returnMessage_mine (read known) own).trans done)
  refine ⟨fun other => ends_of_work rfl ?_, fun ok foreign => ?_, fun ok own idle => ?_, fun ok own one hailing => ?_,
    fun ok own three up => ?_, fun ok own two up => ?_⟩
  · rw [returnMessage, whole, readReturn_returnBytes fits, readReturnBody_none other]
    rfl
  · obtain ⟨b, known⟩ := exists_body ok
    exact ends_of_work rfl (returnMessage_other (read known) foreign)
  · obtain down | ⟨one, other⟩ := idle
    · obtain ⟨b, known⟩ := exists_body ok
      exact taken own known (by rw [takeBody_down (c := valid) down, heard_eq]; rfl)
    · refine taken own (readReturnBody_hailAnswer one (Allowed.four ok (by omega))) ?_
      rw [takeBody_hailAnswer_stray (c := valid) other, heard_eq]
      rfl
  · refine taken own (readReturnBody_hailAnswer one (Allowed.four ok (by omega))) ?_
    rw [takeBody_hailAnswer_hailing (c := valid) hailing, heard_openLink, storeCapacity_eq]
    rfl
  · refine taken own (readReturnBody_capacity three (Allowed.four ok (by omega))) ?_
    rw [takeBody_capacity (c := valid) up, heard_eq, takeCapacity]
    simp only [modLink, storeCapacity_eq]
    rfl
  · obtain ⟨-, least, most, length⟩ := Or.resolve_left ok fun four => by omega
    obtain ⟨n, rest, rfl⟩ := List.exists_cons_of_length_eq_add_one (length.trans (Nat.add_comm ..))
    refine taken own (readReturnBody_ack two least most (by simpa [Nat.add_comm] using length)) ?_
    rw [takeBody_ack (c := valid) up, heard_eq, ackNumbers_eq]
    rfl

end Sys2Proof.HomeLink

end


section
/-! Home frames as bytes (R129, R184, R189): the header and its check, the fragments of a picture, the HAIL frame and the
payload of a LABEL frame. -/

namespace Sys2Proof.HomeLink

open Sys2Proof.Machine

/-! ## The header and its check (R184, R189) -/

/-- R189: the two bytes of a stream, which is narrower. -/
theorem stream_bytes (s : Stream) : be16 (s.zeroExtend 16) = be16 (BitVec.ofNat 16 s.toNat) :=
  congrArg be16 (BitVec.ofNat_toNat ..).symm

theorem homeHeaderBytes_length (h : HomeHeader) (n : Nat) : (homeHeaderBytes h n).length = 28 := by
  simp [homeHeaderBytes, timecodeBytes, num16]

/-- R189: header bytes 0 to 27. -/
theorem homeHeaderBytes_eq (h : HomeHeader) (n : Nat) : homeHeaderBytes h n =
    [h.kind, BitVec.ofNat 8 h.unit.val] ++ be16 h.identity ++ be24 h.frame ++ [h.ctx] ++ be16 h.picture
      ++ be16 (BitVec.ofNat 16 h.fragment) ++ be16 (BitVec.ofNat 16 h.count) ++ [h.marker, h.flags]
      ++ [h.timecode.hours, h.timecode.minutes, h.timecode.seconds, h.timecode.picture].map (BitVec.ofNat 8)
      ++ be32 h.ms ++ be16 (BitVec.ofNat 16 h.stream.toNat) ++ be16 (BitVec.ofNat 16 n) := by
  rw [← stream_bytes]
  rfl

/-- R184: a head, the check over it and the payload, and the payload. -/
theorem check_between (head payload : List Byte) {n : Nat} (length : head.length = n) :
    let f := head ++ le32 (crc32 (head ++ payload)) ++ payload
    f.take n = head ∧ (f.drop n).take 4 = le32 (crc32 (head ++ payload)) ∧ f.drop (n + 4) = payload := by
  intro f
  have whole : f = head ++ (le32 (crc32 (head ++ payload)) ++ payload) := List.append_assoc ..
  have behind : f.drop n = le32 (crc32 (head ++ payload)) ++ payload := whole ▸ List.drop_left' length
  refine ⟨whole ▸ List.take_left' length, behind ▸ rfl, ?_⟩
  rw [← List.drop_drop, behind]
  rfl

/-! ## The fragments of a picture (R129) -/

/-- The pieces of a size, one after another, are the list as far as they reach. -/
theorem flatMap_pieces {α : Type} (size : Nat) (l : List α) (n : Nat) :
    (List.range n).flatMap (fun j => (l.drop (size * j)).take size) = l.take (size * n) := by
  induction n with
  | zero => simp
  | succ n ih => rw [List.range_succ, List.flatMap_append, ih, List.flatMap_singleton, ← List.take_add, Nat.mul_succ]

theorem flatMap_fragmentPayload (q : Queued) :
    (List.range ((q.coded.length + 1367) / 1368)).flatMap (fragmentPayload q) = q.coded := by
  refine (flatMap_pieces 1368 q.coded _).trans (List.take_of_length_le ?_)
  omega

theorem fragmentPayload_length_le (q : Queued) (j : Nat) : (fragmentPayload q j).length ≤ 1368 := by
  rw [fragmentPayload, List.length_take]
  exact Nat.min_le_left ..

/-! ## Fields at their offsets (R189) -/

/-- A field stands in a payload at an offset. -/
def StandsAt (p : List Byte) (field : Nat × List Byte) : Prop := (p.drop field.1).take field.2.length = field.2

/-- Fields that follow one another from the start on, each with its offset. -/
def placed : Nat → List (List Byte) → List (Nat × List Byte)
  | _, [] => []
  | start, f :: fs => (start, f) :: placed (start + f.length) fs

theorem standsAt_append {pre field post : List Byte} {n : Nat} (length : pre.length = n) :
    StandsAt (pre ++ (field ++ post)) (n, field) := by
  rw [StandsAt, List.drop_left' length, List.take_left]

/-- What is made of fields one after another holds each at its own offset. -/
theorem standsAt_of_mem_placed {fs : List (List Byte)} {pre : List Byte} {n : Nat} (length : pre.length = n) :
    ∀ field ∈ placed n fs, StandsAt (pre ++ fs.flatten) field := by
  induction fs generalizing pre n with
  | nil => exact fun _ none => nomatch none
  | cons f fs ih =>
    intro field mem
    obtain rfl | later := List.mem_cons.mp mem
    · exact standsAt_append length
    · rw [List.flatten_cons, ← List.append_assoc]
      exact ih (by rw [List.length_append, length]) field later

/-! ## The payload of a LABEL frame -/

/-- R189: the flags of a LABEL frame as a number. -/
theorem labelFlags_eq (x : Clip) :
    labelFlags x = BitVec.ofNat 8 ((if x.auto then 1 else 0) + (if x.gap then 2 else 0) + (if x.empty then 4 else 0)
      + (if x.labelLost then 8 else 0) + (if x.parent.isSome then 16 else 0)) := by
  have flags : ∀ a b d e f : Bool, flag8 a ||| (flag8 b <<< 1) ||| (flag8 d <<< 2) ||| (flag8 e <<< 3)
      ||| (flag8 f <<< 4) = BitVec.ofNat 8 ((if a then 1 else 0) + (if b then 2 else 0) + (if d then 4 else 0)
        + (if e then 8 else 0) + (if f then 16 else 0)) := by decide
  exact flags ..

/-- R189: a text in its 32 bytes, zeros behind it. -/
theorem text_field {text : List Byte} (short : text.length ≤ 32) :
    (text ++ zeros 32).take 32 = text ++ List.replicate (32 - text.length) 0 := by
  rw [List.take_append, List.take_of_length_le short, zeros, List.take_replicate, Nat.min_eq_left (Nat.sub_le ..)]
  rfl

/-- R189: the fields of the payload of a LABEL frame in their order. -/
def labelFields (i : Nat) (x : Clip) : List (List Byte) :=
  [[BitVec.ofNat 8 i], be16 x.id, [x.version], [BitVec.ofNat 8 x.sourceUnit.val], [BitVec.ofNat 8 x.ctx.val],
    be16 x.inPicture, be16 (x.outPicture.getD 0), timecodeBytes x.inTimecode, timecodeBytes (x.outTimecode.getD .zero),
    [BitVec.ofNat 8 x.rating], [labelFlags x], be16 (x.parent.getD 0), [BitVec.ofNat 8 x.text.length], x.text,
    List.replicate (32 - x.text.length) 0, List.replicate 9 0]

theorem labelPayload_eq {x : Clip} (short : x.text.length ≤ 32) (i : Nat) :
    labelPayload i x = (labelFields i x).flatten := by
  rw [labelPayload, text_field short]
  simp [labelFields, num8, zeros]

theorem labelPayload_length {x : Clip} (short : x.text.length ≤ 32) (i : Nat) : (labelPayload i x).length = 64 := by
  simp [labelPayload_eq short, labelFields, timecodeBytes]
  omega

/-- R189: the offsets, less the 32 of the header. -/
theorem placed_labelFields {x : Clip} (short : x.text.length ≤ 32) (i : Nat) : placed 0 (labelFields i x) =
    [(0, [BitVec.ofNat 8 i]), (1, be16 x.id), (3, [x.version]), (4, [BitVec.ofNat 8 x.sourceUnit.val]),
      (5, [BitVec.ofNat 8 x.ctx.val]), (6, be16 x.inPicture), (8, be16 (x.outPicture.getD 0)),
      (10, timecodeBytes x.inTimecode), (14, timecodeBytes (x.outTimecode.getD .zero)), (18, [BitVec.ofNat 8 x.rating]),
      (19, [labelFlags x]), (20, be16 (x.parent.getD 0)), (22, [BitVec.ofNat 8 x.text.length]), (23, x.text),
      (23 + x.text.length, List.replicate (32 - x.text.length) 0), (55, List.replicate 9 0)] := by
  have last : 23 + x.text.length + (32 - x.text.length) = 55 := by omega
  simp [labelFields, placed, timecodeBytes, last]

/-- Settles O45: the frames are read field by field. -/
theorem homeFramesCarryTheirPayload : Obligations.HomeFramesCarryTheirPayload := by
  unfold Obligations.HomeFramesCarryTheirPayload
  refine ⟨fun h payload => ?_, fun q => ⟨flatMap_fragmentPayload q, fragmentPayload_length_le q⟩,
    fun unit identity attempt rate t ms => ?_, fun i x short => ?_⟩
  · obtain ⟨start, check, rest⟩ :=
      check_between (homeHeaderBytes h payload.length) payload (homeHeaderBytes_length h payload.length)
    refine ⟨Clockwork.homeFrame_length h payload, rest, ?_, start.trans (homeHeaderBytes_eq ..)⟩
    exact check.trans (congrArg (fun head => le32 (crc32 (head ++ payload))) start.symm)
  · refine ⟨rfl, rfl, ?_⟩
    cases rate <;> rfl
  · refine ⟨labelPayload_length short i, fun field mem => ?_⟩
    have each := standsAt_of_mem_placed (fs := labelFields i x) (pre := []) (n := 0) rfl field
    rw [List.nil_append, ← labelPayload_eq short, placed_labelFields short, labelFlags_eq] at each
    exact each mem

end Sys2Proof.HomeLink

end


section
/-! The scheduler's search for a frame and what a selection spends (R131 to R136). -/

namespace Sys2Proof.HomeLink

open Sys2Proof.Machine Sys2Proof.Safety Sys2Proof.Claims Sys2Proof.Clockwork Sys2Proof.CodingRoom

/-! ## The next fragment of a context (R135) -/

theorem fragmentSize_eq (q : Queued) (j : Nat) : fragmentSize q j = 32 + min 1368 (q.coded.length - 1368 * j) := by
  rw [fragmentSize, fragmentPayload, List.length_take, List.length_drop]

theorem headPicture_eq_some {c : Chip} {k : Ctx} {q : Queued} : headPicture k c = some q ↔
    0 < unsent q ∧ ∃ before after, c.sched.videoQueue[k] = before ++ q :: after ∧ ∀ r ∈ before, unsent r = 0 := by
  simp only [headPicture, List.find?_eq_some_iff_append, decide_eq_true_eq, Bool.not_eq_true', decide_eq_false_iff_not,
    Nat.not_lt, Nat.le_zero]

theorem eligible_iff {c : Chip} {k : Ctx} {q : Queued} : Eligible c k q ↔ eligibleFragment k c = some q := by
  have covered : eligibleFragment k c = some q ↔
      headPicture k c = some q ∧ fragmentSize q q.sent ≤ c.sched.allowance[k] := by
    unfold eligibleFragment
    cases headPicture k c with
    | none => simp
    | some r =>
      simp only [Option.ite_none_right_eq_some, Option.some.injEq]
      exact ⟨fun ⟨fits, e⟩ => ⟨e, e ▸ fits⟩, fun ⟨e, fits⟩ => ⟨e ▸ fits, e⟩⟩
  rw [covered, headPicture_eq_some, fragmentSize_eq]
  exact ⟨fun ⟨oldest, left, fits⟩ => ⟨⟨left, oldest⟩, fits⟩, fun ⟨⟨left, oldest⟩, fits⟩ => ⟨oldest, left, fits⟩⟩

theorem eligibleFragment_none {c : Chip} {k : Ctx} (unable : ∀ q, ¬Eligible c k q) : eligibleFragment k c = none :=
  Option.eq_none_iff_forall_ne_some.mpr fun q found => unable q (eligible_iff.mpr found)

/-! ## The rotation (R135) -/

/-- R135, step 2: a context other than the programme context, with an eligible fragment. -/
def inTurn (c : Chip) (k : Ctx) : Bool := decide (c.sel.programme ≠ some k) && (eligibleFragment k c).isSome

theorem rotatedFragment_eq (c : Chip) (l : List Ctx) : rotatedFragment c l =
    (l.find? (inTurn c)).bind fun k => (eligibleFragment k c).map fun q => .video k q true := by
  induction l with
  | nil => rfl
  | cons k l ih =>
    by_cases onAir : c.sel.programme = some k
    · have skipped : inTurn c k = false := by simp [inTurn, onAir]
      rw [rotatedFragment, if_pos onAir, ih, List.find?_cons_of_neg (by simp [skipped])]
    · cases found : eligibleFragment k c with
      | none =>
        have skipped : inTurn c k = false := by simp [inTurn, found]
        rw [rotatedFragment, if_neg onAir, found, ih, List.find?_cons_of_neg (by simp [skipped])]
      | some q =>
        have taken : inTurn c k = true := by simp [inTurn, found, onAir]
        rw [rotatedFragment, if_neg onAir, found, List.find?_cons_of_pos taken, Option.bind_some, found]
        rfl

/-- R135, step 1: with nothing eligible of the programme context the search goes by rotation. -/
theorem findFragment_rotated {c : Chip} (programme : ∀ p, c.sel.programme = some p → ∀ r, ¬Eligible c p r) :
    findFragment c = rotatedFragment c (rotation c.sched.pointer) := by
  unfold findFragment
  cases onAir : c.sel.programme with
  | none => rfl
  | some p =>
    dsimp only
    rw [eligibleFragment_none (programme p onAir)]

theorem findFragment_programme {c : Chip} {k : Ctx} {q : Queued} (onAir : c.sel.programme = some k)
    (eligible : Eligible c k q) : findFragment c = some (.video k q false) := by
  simp only [findFragment, onAir, eligible_iff.mp eligible]

theorem findFragment_inTurn {c : Chip} {k : Ctx} {q : Queued} (offAir : c.sel.programme ≠ some k)
    (eligible : Eligible c k q) (programme : ∀ p, c.sel.programme = some p → ∀ r, ¬Eligible c p r)
    (least : ∀ j r, Eligible c j r → rank c.sched.pointer k ≤ rank c.sched.pointer j) :
    findFragment c = some (.video k q true) := by
  have fragment := eligible_iff.mp eligible
  have first : (rotation c.sched.pointer).find? (inTurn c) = some k := by
    refine find?_rotation (by simp [inTurn, fragment, offAir]) fun j turn => ?_
    obtain ⟨r, found⟩ := Option.isSome_iff_exists.mp (Bool.and_eq_true_iff.mp turn).2
    exact least j r (eligible_iff.mpr found)
  rw [findFragment_rotated programme, rotatedFragment_eq, first, Option.bind_some, fragment]
  rfl

theorem findFragment_none {c : Chip} (unable : ∀ k q, ¬Eligible c k q) : findFragment c = none := by
  have skipped : ∀ k, inTurn c k = false := fun k => by rw [inTurn, eligibleFragment_none (unable k), Bool.and_comm]; rfl
  have nobody : (rotation c.sched.pointer).find? (inTurn c) = none :=
    List.find?_eq_none.mpr fun k _ => by rw [skipped]; nofun
  rw [findFragment_rotated fun p _ => unable p, rotatedFragment_eq, nobody]
  rfl

/-! ## The classes in their order (R134) -/

theorem findFrame_draining {c : Chip} (draining : c.link.state = .draining) :
    findFrame c = c.sched.resend.head?.map .resend := if_pos draining

theorem findFrame_new {c : Chip} (other : c.link.state ≠ .draining) (audio : c.sched.audioQueue = [])
    (resend : c.sched.resend = []) : findFrame c = findNew c := by
  rw [findFrame, if_neg other, audio, resend]

theorem listsHaveRoom_iff (s : Scheduler) : listsHaveRoom s = true ↔ ¬48 ≤ s.awaiting.length + s.resend.length := by
  rw [listsHaveRoom, decide_eq_true_eq, Nat.not_le]

theorem findNew_full {c : Chip} (full : 48 ≤ c.sched.awaiting.length + c.sched.resend.length) : findNew c = findPass c := by
  rw [findNew, if_neg fun room => (listsHaveRoom_iff _).mp room full]

theorem findNew_label {c : Chip} {f : LabelFrame} {rest : List LabelFrame}
    (room : ¬48 ≤ c.sched.awaiting.length + c.sched.resend.length) (label : c.sched.labelQueue = f :: rest) :
    findNew c = some (.label f) := by
  rw [findNew, if_pos ((listsHaveRoom_iff _).mpr room), label]

theorem findNew_unlabelled {c : Chip} (room : ¬48 ≤ c.sched.awaiting.length + c.sched.resend.length)
    (noLabel : c.sched.labelQueue = []) : findNew c = (findFragment c).or (findPass c) := by
  rw [findNew, if_pos ((listsHaveRoom_iff _).mpr room), noLabel]
  cases findFragment c with
  | none => rfl
  | some f => rfl

/-- Settles O43: the search class by class, and among the contexts by the first one in turn. -/
theorem searchTakesClassesInOrder : Obligations.SearchTakesClassesInOrder := by
  unfold Obligations.SearchTakesClassesInOrder
  intro c s full
  refine ⟨findFrame_draining, fun other => ⟨fun f rest audio => ?_, fun noAudio e rest resend => ?_,
    fun noAudio noResend full => ?_, fun noAudio noResend room => ?_⟩⟩
  · rw [findFrame, if_neg other, audio]
  · rw [findFrame, if_neg other, noAudio, resend]
  · exact (findFrame_new other noAudio noResend).trans (findNew_full full)
  · have new := findFrame_new other noAudio noResend
    refine ⟨fun f rest label => new.trans (findNew_label room label), fun noLabel unable => ?_,
      fun noLabel k q onAir eligible => ?_, fun noLabel k q offAir eligible programme least => ?_⟩
    all_goals rw [new, findNew_unlabelled room noLabel]
    · rw [findFragment_none unable]
      rfl
    · rw [findFragment_programme onAir eligible]
      rfl
    · rw [findFragment_inTurn offAir eligible programme least]
      rfl

/-! ## What is sent and paid for (R131, R136) -/

theorem labelSent_ht (i : Nat) (c : Chip) : (labelSent i c).ht = c.ht := by
  unfold labelSent
  split
  · split <;> rfl
  · rfl

/-- R129: a frame sent goes to HT behind what it holds. -/
theorem sendFound_ht (f : Found) (c : Chip) : (sendFound f c).ht = c.ht ++ [frameOf c f] := by
  cases f with
  | audio a => rfl
  | pass x => rfl
  | label l => rw [sendFound, sendLabelFrame, labelSent_ht]; rfl
  | resend e =>
    rw [sendFound, resendEntry]
    unfold noteResend
    split
    · rw [changeQueued_ht]; rfl
    · rfl
  | video k q rotated => rw [sendFound, sendVideo, changeQueued_ht, frameOf_video]; rfl

/-- R136: 8 bits a byte leave the credit. -/
theorem sendFound_credit (f : Found) (c : Chip) :
    (sendFound f c).link.credit = c.link.credit - 8 * (frameOf c f).length := by
  cases f with
  | audio a => rfl
  | pass x => rfl
  | label l => rw [sendFound, sendLabelFrame, labelSent_link]; rfl
  | resend e => rw [sendFound, resendEntry, noteResend_link]; rfl
  | video k q rotated => rw [sendFound, sendVideo, changeQueued_link, frameOf_video]; rfl

/-- R130, R136: a resend leaves the resend queue and takes no new frame number. -/
theorem sendResend_sched (e : Entry) (c : Chip) : (sendFound (.resend e) c).sched.resend = c.sched.resend.drop 1 ∧
    (sendFound (.resend e) c).sched.nextFrame = c.sched.nextFrame := by
  rw [sendFound, resendEntry]
  unfold noteResend
  split
  · rw [changeQueued_sched]
    exact ⟨rfl, rfl⟩
  · exact ⟨rfl, rfl⟩

/-- R131, R133, R134, R136: d is c after a selection that has handed these frames to HT and paid for each. -/
structure Spent (c d : Chip) (frames : List (List Byte)) : Prop where
  ht : d.ht = c.ht ++ frames
  paid : 8 * (frames.map List.length).sum + d.link.credit = c.link.credit
  draining : c.link.state = .draining → d.sched.nextFrame = c.sched.nextFrame ∧
    ∀ f ∈ frames, f ∈ c.sched.resend.map (·.bytes)

theorem spent_nothing (c : Chip) : Spent c c [] :=
  ⟨(List.append_nil _).symm, Nat.zero_add _, fun _ => ⟨rfl, List.forall_mem_nil _⟩⟩

/-- A frame found and covered is sent, and the selection goes on. -/
theorem Spent.sent {c d : Chip} {f : Found} {frames : List (List Byte)} (found : findFrame c = some f)
    (covered : 8 * (frameOf c f).length ≤ c.link.credit) (rest : Spent (sendFound f c) d frames) :
    Spent c d (frameOf c f :: frames) where
  ht := by rw [rest.ht, sendFound_ht, List.append_assoc]; rfl
  paid := by
    have paid := rest.paid
    rw [sendFound_credit] at paid
    rw [List.map_cons, List.sum_cons]
    omega
  draining state := by
    rw [findFrame_draining state] at found
    obtain ⟨e, head, rfl⟩ := Option.map_eq_some_iff.mp found
    obtain ⟨resend, number⟩ := sendResend_sched e c
    obtain ⟨numbers, sent⟩ := rest.draining ((sendFound_linkState _ c).trans state)
    refine ⟨numbers.trans number, List.forall_mem_cons.mpr ⟨?_, fun f mem => ?_⟩⟩
    · exact List.mem_map_of_mem (List.mem_of_mem_head? head)
    · have left := sent f mem
      rw [resend, List.map_drop] at left
      exact List.mem_of_mem_drop left

theorem spent_selectFrames (fuel : Nat) (c : Chip) : ∃ frames, Spent c (selectFrames fuel c) frames := by
  induction fuel generalizing c with
  | zero => exact ⟨[], spent_nothing c⟩
  | succ fuel ih =>
    unfold selectFrames
    split
    · exact ⟨[], spent_nothing c⟩
    · rename_i f found
      split
      · rename_i covered
        obtain ⟨frames, rest⟩ := ih (sendFound f c)
        exact ⟨_, rest.sent found (foundSize_eq c f ▸ covered)⟩
      · exact ⟨[], spent_nothing c⟩

theorem spent_selectTick (c : Chip) : ∃ frames, Spent c (selectTick c) frames := by
  unfold selectTick
  split
  · exact spent_selectFrames _ c
  · exact ⟨[], spent_nothing c⟩

/-- Settles O44: frame by frame, each sent behind the ones before it and paid for as it is sent. -/
theorem selectionSpendsTheCredit : Obligations.SelectionSpendsTheCredit := by
  unfold Obligations.SelectionSpendsTheCredit
  intro c d
  obtain ⟨frames, ht, paid, draining⟩ := spent_selectTick c
  refine ⟨frames, ht, paid, fun silent => if_neg fun sends => ?_, draining⟩
  obtain down | hailing | held := silent
  · rw [down] at sends
    cases sends
  · rw [hailing] at sends
    cases sends
  · rw [held] at sends
    cases sends

end Sys2Proof.HomeLink

end


section
/-! The clip table, the mark stack, the fence and the labels under way (R138, R158 to R160, R167, R171): their conditions,
said of one entry of the table at a time, and what one entry's change makes of them. -/

namespace Sys2Proof.ClipTable

open Sys2Proof.Machine Sys2Proof.Safety Sys2Proof.Claims

/-! ## An entry of the table, and its state -/

/-- R158: the state of an entry, none where it is FREE. -/
def stateAt (l : ClipLog) (i : Nat) : Option ClipState := (clipAt l i).map (·.state)

theorem clipAt_fin (l : ClipLog) (i : Fin 128) : clipAt l i.val = l.table[i] := by
  simp [clipAt]

theorem clipAt_past {l : ClipLog} {i : Nat} (past : 128 ≤ i) : clipAt l i = none := by
  rw [clipAt, Vector.getElem?_eq_none past]
  rfl

theorem lt_of_clipAt {l : ClipLog} {i : Nat} {x : Clip} (held : clipAt l i = some x) : i < 128 := by
  by_contra past
  rw [clipAt_past (Nat.le_of_not_lt past)] at held
  cases held

theorem clipAt_put {l l' : ClipLog} {i : Nat} {y : Clip} (bound : i < 128)
    (table : l'.table = l.table.setIfInBounds i (some y)) (j : Nat) :
    clipAt l' j = if j = i then some y else clipAt l j := by
  rw [clipAt, table]
  split
  · rename_i here
    simp [here, bound]
  · rename_i other
    rw [clipAt, Vector.getElem?_setIfInBounds_ne (Ne.symm other)]

/-- A table with each entry in use marked in one way. -/
theorem clipAt_mapAll {l l' : ClipLog} {f : Option Clip → Option Clip} {g : Clip → Clip}
    (table : l'.table = mapAll f l.table) (marks : ∀ e, f e = e.map g) (i : Nat) :
    clipAt l' i = (clipAt l i).map g := by
  by_cases bound : i < 128
  · have get := mapAll_get f l.table ⟨i, bound⟩
    rw [← table, marks] at get
    exact (clipAt_fin l' ⟨i, bound⟩).trans (get.trans (congrArg (Option.map g) (clipAt_fin l ⟨i, bound⟩).symm))
  · rw [clipAt_past (Nat.le_of_not_lt bound), clipAt_past (Nat.le_of_not_lt bound)]
    rfl

theorem stateAt_of_clipAt {l : ClipLog} {i : Nat} {x : Clip} (held : clipAt l i = some x) :
    stateAt l i = some x.state := by rw [stateAt, held]; rfl

theorem stateAt_eq_some {l : ClipLog} {i : Nat} {st : ClipState} :
    stateAt l i = some st ↔ ∃ x, clipAt l i = some x ∧ x.state = st := Option.map_eq_some_iff

/-! ## The conditions, entry by entry -/

/-- The numbers name each entry in a state once, and no other. -/
def Lists (st : ClipState) (l : ClipLog) (is : List Nat) : Prop := is.Nodup ∧ ∀ i, i ∈ is ↔ stateAt l i = some st

theorem lists_iff {st : ClipState} {l : ClipLog} {is : List Nat} : Lists st l is ↔ is.Nodup ∧
    (∀ i : Fin 128, i.val ∈ is ↔ ∃ x, l.table[i] = some x ∧ x.state = st) ∧ ∀ i ∈ is, i < 128 := by
  constructor
  · rintro ⟨nodup, names⟩
    refine ⟨nodup, fun i => ?_, fun i mem => ?_⟩
    · rw [names, stateAt_eq_some, clipAt_fin]
    · obtain ⟨x, held, -⟩ := stateAt_eq_some.mp ((names i).mp mem)
      exact lt_of_clipAt held
  · rintro ⟨nodup, names, bound⟩
    refine ⟨nodup, fun i => ?_⟩
    rw [stateAt_eq_some]
    by_cases inside : i < 128
    · rw [clipAt_fin l ⟨i, inside⟩]
      exact names ⟨i, inside⟩
    · rw [clipAt_past (Nat.le_of_not_lt inside)]
      exact iff_of_false (fun mem => inside (bound i mem)) nofun

theorem Lists.perm {st : ClipState} {l : ClipLog} {is is' : List Nat} (h : Lists st l is) (p : is'.Perm is) :
    Lists st l is' := ⟨p.nodup_iff.mpr h.1, fun i => p.mem_iff.trans (h.2 i)⟩

/-- R158 to R160, R171: the conditions of the clip log, entry by entry. -/
structure Tabled (l : ClipLog) : Prop where
  write : l.write ≤ 128
  fence : l.fence ≤ l.write
  used : ∀ i, (clipAt l i).isSome = true ↔ i < l.write
  depth : l.stack.length ≤ 4
  marks : Lists .opened l l.stack
  settled : ∀ i < l.fence, isSettled (clipAt l i) = true
  fields : ∀ i x, clipAt l i = some x → ClipOk x

theorem clipsOk_iff (c : Chip) : ClipsOk c ↔ Tabled c.clips := by
  constructor
  · rintro ⟨⟨write, fence, used, depth, nodup, marked, opened, settled⟩, fields⟩
    refine ⟨write, fence, fun i => ?_, depth, lists_iff.mpr ⟨nodup, fun i => ⟨fun mem => ?_, ?_⟩, fun i mem => ?_⟩,
      fun i below => ?_, fun i x held => ?_⟩
    · by_cases inside : i < 128
      · rw [clipAt_fin _ ⟨i, inside⟩]
        exact used ⟨i, inside⟩
      · rw [clipAt_past (Nat.le_of_not_lt inside)]
        exact iff_of_false nofun fun below => inside (Nat.lt_of_lt_of_le below write)
    · rw [← clipAt_fin]
      exact marked i mem
    · rintro ⟨x, held, open'⟩
      exact opened i x held open'
    · obtain ⟨x, held, -⟩ := marked i mem
      exact lt_of_clipAt held
    · have inside : i < 128 := Nat.lt_of_lt_of_le below (fence.trans write)
      rw [clipAt_fin _ ⟨i, inside⟩]
      exact settled ⟨i, inside⟩ below
    · rw [clipAt_fin _ ⟨i, lt_of_clipAt held⟩] at held
      exact fields _ x held
  · rintro ⟨write, fence, used, depth, ⟨nodup, marks⟩, settled, fields⟩
    refine ⟨⟨write, fence, fun i => ?_, depth, nodup, fun i mem => stateAt_eq_some.mp ((marks i).mp mem),
      fun i x held open' => ?_, fun i below => ?_⟩, fun i x held => ?_⟩
    · rw [← clipAt_fin]
      exact used i
    · rw [← clipAt_fin] at held
      exact (marks i).mpr (stateAt_eq_some.mpr ⟨x, held, open'⟩)
    · rw [← clipAt_fin]
      exact settled i below
    · rw [← clipAt_fin] at held
      exact fields i x held

/-- R158, R171: an entry in a state that may not fall below the fence stands at or above it. -/
theorem Tabled.above {l : ClipLog} {i : Nat} {x : Clip} (h : Tabled l) (held : clipAt l i = some x)
    (unsettled : x.state ≠ .delivered ∧ x.state ≠ .void) : l.fence ≤ i := by
  by_contra below
  have settled := h.settled i (Nat.lt_of_not_le below)
  rw [held] at settled
  obtain delivered | void := Bool.or_eq_true_iff.mp settled
  · exact unsettled.1 (eq_of_beq delivered)
  · exact unsettled.2 (eq_of_beq void)

/-- R171: no lower fence, and every entry below the old one as it was. -/
def FenceKept (b l : ClipLog) : Prop := b.fence ≤ l.fence ∧ ∀ i < b.fence, clipAt l i = clipAt b i

theorem fenceKept_refl (l : ClipLog) : FenceKept l l := ⟨Nat.le_refl _, fun _ _ => rfl⟩

theorem FenceKept.trans {b l l' : ClipLog} (h : FenceKept b l) (h' : FenceKept l l') : FenceKept b l' :=
  ⟨h.1.trans h'.1, fun i below => (h'.2 i (Nat.lt_of_lt_of_le below h.1)).trans (h.2 i below)⟩

/-! ## The labels under way (R138, R167) -/

/-- R138: the clips whose frames stand in the label queue. -/
def queuedLabels (s : Scheduler) : List Nat := s.labelQueue.map (·.clip)

/-- R141, R167: the clips whose labels await their outcome: in entries that have left the lists and are still to be
settled, and in those of the lists. -/
def sentLabels (es : List Entry) (s : Scheduler) : List Nat := (es ++ (s.awaiting ++ s.resend)).filterMap labelOf

/-- A frame in the label queue for each QUEUED clip, and an entry for each AWAITING clip. -/
structure Labelled (l : ClipLog) (queue sent : List Nat) : Prop where
  queued : Lists .queued l queue
  awaiting : Lists .awaiting l sent

theorem labelsOk_iff (c : Chip) : LabelsOk c ↔ Labelled c.clips (queuedLabels c.sched) (sentLabels [] c.sched) := by
  constructor
  · rintro ⟨queue, queued, inside, sent, awaiting, inside'⟩
    exact ⟨lists_iff.mpr ⟨queue, queued, List.forall_mem_map.mpr inside⟩, lists_iff.mpr ⟨sent, awaiting, inside'⟩⟩
  · rintro ⟨queued, awaiting⟩
    obtain ⟨queue, queued, inside⟩ := lists_iff.mp queued
    obtain ⟨sent, awaiting, inside'⟩ := lists_iff.mp awaiting
    exact ⟨queue, queued, List.forall_mem_map.mp inside, sent, awaiting, inside'⟩

/-! ## What is kept of a part -/

/-- The clip log is in order, no entry below the fence of the part b that it began from has changed, and the labels are in
order where b's were. -/
structure Kept (b : Chip) (l : ClipLog) (queue sent : List Nat) : Prop where
  table : Tabled l
  fenced : FenceKept b.clips l
  labels : LabelsOk b → Labelled l queue sent

/-- That of a part, with some entries that have left the lists still to be settled. -/
def Filed (b : Chip) (es : List Entry) (c : Chip) : Prop := Kept b c.clips (queuedLabels c.sched) (sentLabels es c.sched)

theorem filed_refl {c : Chip} (h : ClipsOk c) : Filed c [] c :=
  ⟨(clipsOk_iff c).mp h, fenceKept_refl _, (labelsOk_iff c).mp⟩

/-! ## A clip's fields (R158) -/

/-- A clip in the same state, its text and rating in their ranges. -/
theorem clipOk_edited {x y : Clip} (h : ClipOk x) (text : y.text.length ≤ 32) (rating : y.rating ≤ 5)
    (state : y.state = x.state := by rfl) (outPicture : y.outPicture = x.outPicture := by rfl)
    (outTimecode : y.outTimecode = x.outTimecode := by rfl) (done : y.done = x.done := by rfl) : ClipOk y := by
  obtain ⟨-, -, rest⟩ := h
  unfold ClipOk
  rw [state, outPicture, outTimecode, done]
  exact ⟨text, rating, rest⟩

/-- A clip that is no longer OPEN, in another of the states that follow. -/
theorem clipOk_moved {x y : Clip} (h : ClipOk x) (closed : x.state ≠ .opened) (state : y.state ≠ .opened)
    (delivered : y.state = .delivered → x.done = some true) (text : y.text.length ≤ 32) (rating : y.rating ≤ 5)
    (outPicture : y.outPicture = x.outPicture := by rfl)
    (outTimecode : y.outTimecode = x.outTimecode := by rfl) (done : y.done = x.done := by rfl) : ClipOk y := by
  obtain ⟨-, -, -, present, -⟩ := h
  unfold ClipOk
  rw [outPicture, outTimecode, done]
  exact ⟨text, rating, fun opened => absurd opened state, fun _ => present closed, delivered⟩

/-! ## One entry rewritten -/

/-- Two clip logs that differ, of what the table, W and the fence hold, in one entry. -/
structure Rewritten (l l' : ClipLog) (i : Nat) (x y : Clip) : Prop where
  held : clipAt l i = some x
  entries : ∀ j, clipAt l' j = if j = i then some y else clipAt l j
  write : l'.write = l.write
  fence : l'.fence = l.fence

theorem rewritten_of_put {l l' : ClipLog} {i : Nat} {x y : Clip} (held : clipAt l i = some x)
    (table : l'.table = l.table.setIfInBounds i (some y) := by rfl) (write : l'.write = l.write := by rfl)
    (fence : l'.fence = l.fence := by rfl) : Rewritten l l' i x y :=
  ⟨held, clipAt_put (lt_of_clipAt held) table, write, fence⟩

section
variable {l l' : ClipLog} {i : Nat} {x y : Clip} {st : ClipState} {is is' : List Nat}

theorem Rewritten.here (h : Rewritten l l' i x y) : clipAt l' i = some y := (h.entries i).trans (if_pos rfl)

theorem Rewritten.other (h : Rewritten l l' i x y) {j : Nat} (other : j ≠ i) : clipAt l' j = clipAt l j :=
  (h.entries j).trans (if_neg other)

theorem Rewritten.stateAt_here (h : Rewritten l l' i x y) : stateAt l' i = some y.state := stateAt_of_clipAt h.here

theorem Rewritten.stateAt_other (h : Rewritten l l' i x y) {j : Nat} (other : j ≠ i) : stateAt l' j = stateAt l j := by
  rw [stateAt, h.other other]
  rfl

/-- A list of the entries in a state that the change neither enters nor leaves. -/
theorem Rewritten.keeps (h : Rewritten l l' i x y) (same : x.state = st ↔ y.state = st) (lists : Lists st l is) :
    Lists st l' is := by
  refine ⟨lists.1, fun j => (lists.2 j).trans ?_⟩
  by_cases here : j = i
  · rw [here, h.stateAt_here, stateAt_of_clipAt h.held, Option.some_inj, Option.some_inj]
    exact same
  · rw [h.stateAt_other here]

/-- A list of the entries in a state that the entry leaves. -/
theorem Rewritten.leaves (h : Rewritten l l' i x y) (left : y.state ≠ st) (lists : Lists st l is)
    (p : is.Perm (i :: is')) : Lists st l' is' := by
  obtain ⟨nodup, names⟩ := lists.perm p.symm
  obtain ⟨gone, nodup⟩ := List.nodup_cons.mp nodup
  refine ⟨nodup, fun j => ?_⟩
  by_cases here : j = i
  · rw [here, h.stateAt_here, Option.some_inj]
    exact iff_of_false gone left
  · rw [h.stateAt_other here, ← names j, List.mem_cons]
    exact (or_iff_right here).symm

/-- A list of the entries in a state that the entry enters. -/
theorem Rewritten.joins (h : Rewritten l l' i x y) (new : x.state ≠ st) (state : y.state = st) (lists : Lists st l is)
    (p : is'.Perm (i :: is)) : Lists st l' is' := by
  have absent : i ∉ is := fun mem => by
    have was := (lists.2 i).mp mem
    rw [stateAt_of_clipAt h.held] at was
    exact new (Option.some_inj.mp was)
  refine Lists.perm ⟨List.nodup_cons.mpr ⟨absent, lists.1⟩, fun j => ?_⟩ p
  by_cases here : j = i
  · rw [here, h.stateAt_here, state]
    exact iff_of_true (List.mem_cons_self ..) rfl
  · rw [h.stateAt_other here, ← lists.2 j, List.mem_cons]
    exact or_iff_right here

theorem Rewritten.tabled (h : Rewritten l l' i x y) (table : Tabled l) (fields : ClipOk y) (above : l.fence ≤ i)
    (depth : l'.stack.length ≤ l.stack.length) (marks : Lists .opened l' l'.stack) : Tabled l' where
  write := h.write ▸ table.write
  fence := h.write ▸ h.fence ▸ table.fence
  used j := by
    rw [h.write, ← table.used j, h.entries j]
    split
    · rename_i here
      rw [here, h.held]
      rfl
    · rfl
  depth := depth.trans table.depth
  marks := marks
  settled j below := by
    rw [h.fence] at below
    rw [h.other (Nat.ne_of_lt (Nat.lt_of_lt_of_le below above))]
    exact table.settled j below
  fields j z held := by
    rw [h.entries] at held
    split at held
    · cases held
      exact fields
    · exact table.fields j z held

theorem Rewritten.fenceKept (h : Rewritten l l' i x y) (above : l.fence ≤ i) : FenceKept l l' :=
  ⟨Nat.le_of_eq h.fence.symm, fun _ below => h.other (Nat.ne_of_lt (Nat.lt_of_lt_of_le below above))⟩

end

variable {b c d : Chip} {es : List Entry} {i : Nat} {x y : Clip}

/-- An entry at or above the fence rewritten, with what that makes of the mark stack and of the labels. -/
theorem Filed.rewritten {es' : List Entry} (h : Filed b es c) (put : Rewritten c.clips d.clips i x y) (fields : ClipOk y)
    (above : c.clips.fence ≤ i) (marks : Lists .opened c.clips c.clips.stack → Lists .opened d.clips d.clips.stack)
    (queued : Lists .queued c.clips (queuedLabels c.sched) → Lists .queued d.clips (queuedLabels d.sched))
    (awaiting : Lists .awaiting c.clips (sentLabels es c.sched) → Lists .awaiting d.clips (sentLabels es' d.sched))
    (depth : d.clips.stack.length ≤ c.clips.stack.length := by exact Nat.le_refl _) : Filed b es' d where
  table := put.tabled h.table fields above depth (marks h.table.marks)
  fenced := h.fenced.trans (put.fenceKept above)
  labels ok := ⟨queued (h.labels ok).queued, awaiting (h.labels ok).awaiting⟩

/-- A state that neither the mark stack nor a label under way names. -/
def Idle (st : ClipState) : Prop := st ≠ .opened ∧ st ≠ .queued ∧ st ≠ .awaiting

theorem idle_closed : Idle .closed := ⟨nofun, nofun, nofun⟩
theorem idle_labelled : Idle .labelled := ⟨nofun, nofun, nofun⟩
theorem idle_delivered : Idle .delivered := ⟨nofun, nofun, nofun⟩
theorem idle_void : Idle .void := ⟨nofun, nofun, nofun⟩

/-- An entry rewritten whose state is as it was, or is named by no list before and after. -/
theorem Filed.rewritten_idle (h : Filed b es c) (put : Rewritten c.clips d.clips i x y) (fields : ClipOk y)
    (above : c.clips.fence ≤ i) (state : y.state = x.state ∨ Idle x.state ∧ Idle y.state)
    (stack : d.clips.stack = c.clips.stack := by rfl)
    (queue : queuedLabels d.sched = queuedLabels c.sched := by rfl)
    (sent : sentLabels es d.sched = sentLabels es c.sched := by rfl) : Filed b es d := by
  have same : ∀ st, st = .opened ∨ st = .queued ∨ st = .awaiting → (x.state = st ↔ y.state = st) := by
    rintro st named
    obtain same | ⟨⟨opened, queued, awaiting⟩, opened', queued', awaiting'⟩ := state
    · rw [same]
    · obtain rfl | rfl | rfl := named
      · exact iff_of_false opened opened'
      · exact iff_of_false queued queued'
      · exact iff_of_false awaiting awaiting'
  refine h.rewritten put fields above ?_ ?_ ?_ (Nat.le_of_eq (congrArg List.length stack))
  · rw [stack]
    exact put.keeps (same _ (.inl rfl))
  · rw [queue]
    exact put.keeps (same _ (.inr (.inl rfl)))
  · rw [sent]
    exact put.keeps (same _ (.inr (.inr rfl)))

/-! ## Every entry marked in one way (R168, R169) -/

/-- A marking that leaves what may stand below the fence, and what the lists name, in its state. -/
structure Marking (g : Clip → Clip) : Prop where
  fields : ∀ x, ClipOk x → ClipOk (g x)
  settled : ∀ x : Clip, x.state = .delivered ∨ x.state = .void → g x = x
  states : ∀ x : Clip, (g x).state = x.state ∨ Idle x.state ∧ Idle (g x).state

theorem Marking.lists {g : Clip → Clip} (h : Marking g) {l l' : ClipLog} (entries : ∀ j, clipAt l' j = (clipAt l j).map g)
    {st : ClipState} (named : ¬Idle st) {is : List Nat} (lists : Lists st l is) : Lists st l' is := by
  refine ⟨lists.1, fun j => (lists.2 j).trans ?_⟩
  rw [stateAt, stateAt, entries, Option.map_map]
  cases clipAt l j with
  | none => rfl
  | some x =>
    simp only [Option.map_some, Option.some_inj, Function.comp_apply]
    obtain same | ⟨idle, idle'⟩ := h.states x
    · rw [same]
    · exact iff_of_false (fun e => named (e ▸ idle)) fun e => named (e ▸ idle')

theorem Filed.marked {g : Clip → Clip} (h : Filed b es c) (mark : Marking g)
    (entries : ∀ j, clipAt d.clips j = (clipAt c.clips j).map g) (write : d.clips.write = c.clips.write := by rfl)
    (fence : d.clips.fence = c.clips.fence := by rfl) (stack : d.clips.stack = c.clips.stack := by rfl)
    (sched : d.sched = c.sched := by rfl) : Filed b es d := by
  have below : ∀ j < c.clips.fence, clipAt d.clips j = clipAt c.clips j := fun j below => by
    have settled := h.table.settled j below
    rw [entries]
    cases held : clipAt c.clips j with
    | none => rfl
    | some x =>
      rw [held] at settled
      refine congrArg some (mark.settled x ?_)
      simpa [isSettled] using settled
  refine ⟨⟨?_, ?_, fun j => ?_, ?_, ?_, fun j under => ?_, fun j x held => ?_⟩, ?_, fun ok => ?_⟩
  · exact write ▸ h.table.write
  · exact write ▸ fence ▸ h.table.fence
  · rw [entries, Option.isSome_map, write]
    exact h.table.used j
  · exact stack ▸ h.table.depth
  · rw [stack]
    exact mark.lists entries (fun idle => idle.1 rfl) h.table.marks
  · rw [fence] at under
    rw [below j under]
    exact h.table.settled j under
  · rw [entries] at held
    obtain ⟨z, before, rfl⟩ := Option.map_eq_some_iff.mp held
    exact mark.fields z (h.table.fields j z before)
  · exact h.fenced.trans ⟨Nat.le_of_eq fence.symm, below⟩
  · rw [sched]
    exact ⟨mark.lists entries (fun idle => idle.2.1 rfl) (h.labels ok).queued,
      mark.lists entries (fun idle => idle.2.2 rfl) (h.labels ok).awaiting⟩

/-- A change of the clip log's counters and settings. -/
theorem Filed.counted (h : Filed b es c) (table : d.clips.table = c.clips.table := by rfl)
    (write : d.clips.write = c.clips.write := by rfl) (fence : d.clips.fence = c.clips.fence := by rfl)
    (stack : d.clips.stack = c.clips.stack := by rfl) (sched : d.sched = c.sched := by rfl) : Filed b es d := by
  refine h.marked (g := id) ⟨fun _ ok => ok, fun _ _ => rfl, fun _ => .inl rfl⟩ (fun j => ?_) write fence stack sched
  rw [Option.map_id_fun, clipAt, table]
  rfl

end Sys2Proof.ClipTable

end


section
/-! What the clip log's operations make of the clip table and the labels under way (R159 to R172), and what delivery
accounting and the settlement of a label do (R144, R167 to R169). -/

namespace Sys2Proof.ClipTable

open Sys2Proof.Machine Sys2Proof.Safety Sys2Proof.Claims

variable {b c d : Chip} {es : List Entry} {i : Nat} {x y : Clip}

theorem filed_foldl {α : Type} {f : Chip → α → Chip} (hf : ∀ d a, Filed b es d → Filed b es (f d a)) (l : List α)
    (h : Filed b es d) : Filed b es (l.foldl f d) := by
  induction l generalizing d with
  | nil => exact h
  | cons a l ih => exact ih (hf d a h)

/-! ## Reports (chapter 1, R175 to R179) -/

theorem filed_setAttention (as : List AttClass) (h : Filed b es d) : Filed b es (setAttention as d) := by
  rw [setAttention_frame]
  exact h

theorem filed_setAttentionIf (p : Bool) (as : List AttClass) (h : Filed b es d) : Filed b es (setAttentionIf p as d) := by
  rw [setAttentionIf_frame]
  exact h

/-! ## Label frames offered (R138, R162, R165, R166) -/

/-- R138: a CLOSED clip's frame joins the label queue and the clip becomes QUEUED, or the queue is full. -/
theorem filed_offerLabel (h : Filed b es d) (held : clipAt d.clips i = some x) (closed : x.state = .closed) :
    Filed b es (offerLabel i x d) := by
  obtain ⟨notOpened, notQueued, notAwaiting⟩ : Idle x.state := closed ▸ idle_closed
  have ok := h.table.fields i x held
  by_cases room : labelRoom d.sched = true
  · simp only [offerLabel, joinLabel, if_pos room]
    have put := rewritten_of_put (l' := (putClip i { x with state := .queued } d).clips) held
    refine h.rewritten put (clipOk_moved ok notOpened nofun nofun ok.1 ok.2.1)
      (h.table.above held (by rw [closed]; exact ⟨nofun, nofun⟩)) (put.keeps (iff_of_false notOpened nofun))
      (fun queued => put.joins notQueued rfl queued ?_) (put.keeps (iff_of_false notAwaiting nofun))
    simp only [queuedLabels, putClip, List.map_append, List.map_singleton]
    exact List.perm_append_singleton ..
  · simp only [offerLabel, joinLabel, if_neg room]
    exact h

theorem filed_autoOffer (h : Filed b es d) (held : clipAt d.clips i = some x) (closed : x.state = .closed) :
    Filed b es (autoOffer i x d) := by
  unfold autoOffer
  split
  · exact filed_setAttentionIf _ _ (filed_offerLabel h held closed)
  · exact h

/-! ## Opening and closing (R159 to R162, R164) -/

/-- R159 to R161: the clip opened at W is the next entry in use, and stands on top of the mark stack. -/
theorem filed_openClip (k : Ctx) {text : List Byte} {rating : Nat} (auto : Bool) (h : Filed b es d)
    (room : clipsFull d.clips = false) (fits : text.length ≤ 32) (range : rating ≤ 5) :
    Filed b es (openClip k text rating auto d) := by
  obtain ⟨space, marks⟩ : d.clips.write < 128 ∧ d.clips.stack.length < 4 := by simpa [clipsFull] using room
  unfold openClip
  extract_lets x
  have free : clipAt d.clips d.clips.write = none := by
    have unused := mt (h.table.used d.clips.write).mp (Nat.lt_irrefl _)
    simpa using unused
  have entries : ∀ {l' : ClipLog}, l'.table = d.clips.table.setIfInBounds d.clips.write (some x) → ∀ j,
      clipAt l' j = if j = d.clips.write then some x else clipAt d.clips j := fun table => clipAt_put space table
  have states : ∀ {l' : ClipLog}, l'.table = d.clips.table.setIfInBounds d.clips.write (some x) → ∀ j,
      stateAt l' j = if j = d.clips.write then some .opened else stateAt d.clips j := fun table j => by
    rw [stateAt, entries table]
    split
    · rfl
    · rfl
  have fresh : ∀ st, stateAt d.clips d.clips.write ≠ some st := fun st => by
    rw [stateAt, free]
    nofun
  have others : ∀ {l' : ClipLog} {st : ClipState} {is : List Nat}, l'.table = d.clips.table.setIfInBounds d.clips.write
      (some x) → st ≠ .opened → Lists st d.clips is → Lists st l' is := fun {_ st _} table other lists => by
    refine ⟨lists.1, fun j => (lists.2 j).trans ?_⟩
    rw [states table]
    split
    · rename_i here
      rw [here]
      exact iff_of_false (fresh st) fun e => other (Option.some_inj.mp e).symm
    · rfl
  refine ⟨⟨space, Nat.le_succ_of_le h.table.fence, fun j => ?_, marks, ⟨?_, fun j => ?_⟩, fun j below => ?_, fun j z held => ?_⟩,
    h.fenced.trans ⟨Nat.le_refl _, fun j below => ?_⟩, fun ok => ⟨?_, ?_⟩⟩
  · rw [entries rfl]
    split
    · rename_i here
      exact iff_of_true rfl (here ▸ Nat.lt_succ_self _)
    · rename_i other
      rw [h.table.used j]
      exact ⟨Nat.lt_succ_of_lt, fun below => Nat.lt_of_le_of_ne (Nat.le_of_lt_succ below) other⟩
  · exact List.nodup_cons.mpr ⟨fun mem => fresh _ ((h.table.marks.2 _).mp mem), h.table.marks.1⟩
  · rw [states rfl, List.mem_cons, h.table.marks.2 j]
    split
    · rename_i here
      exact iff_of_true (.inl here) rfl
    · rename_i other
      exact or_iff_right other
  · rw [entries rfl, if_neg (Nat.ne_of_lt (Nat.lt_of_lt_of_le below h.table.fence))]
    exact h.table.settled j below
  · rw [entries rfl] at held
    split at held
    · cases held
      exact ⟨fits, range, fun _ => ⟨rfl, rfl, rfl⟩, fun closed => absurd rfl closed, nofun⟩
    · exact h.table.fields j z held
  · rw [entries rfl, if_neg (Nat.ne_of_lt (Nat.lt_of_lt_of_le below h.table.fence))]
  · exact others rfl nofun (h.labels ok).queued
  · exact others rfl nofun (h.labels ok).awaiting

theorem topClip_eq_some {l : ClipLog} (top : topClip l = some (i, x)) :
    ∃ rest, l.stack = i :: rest ∧ clipAt l i = some x := by
  unfold topClip at top
  split at top
  · cases top
  · rename_i j rest stack
    obtain ⟨z, held, e⟩ := Option.map_eq_some_iff.mp top
    cases e
    exact ⟨rest, stack, held⟩

/-- R162: the clip on top of the mark stack is popped and closed, and its label is offered where auto-send is ON. -/
theorem filed_closeClip (h : Filed b es d) (top : topClip d.clips = some (i, x)) :
    Filed b es (closeClip i x (popMark d)) := by
  obtain ⟨rest, stack, held⟩ := topClip_eq_some top
  have opened : x.state = .opened := by
    have marked := (h.table.marks.2 i).mp (stack ▸ List.mem_cons_self ..)
    rw [stateAt_of_clipAt held] at marked
    exact Option.some_inj.mp marked
  have ok := h.table.fields i x held
  unfold closeClip
  extract_lets y
  have fields : ClipOk y := ⟨ok.1, ok.2.1, nofun, fun _ => ⟨rfl, rfl, rfl⟩, nofun⟩
  have put := rewritten_of_put (y := y) (l' := { d.clips with
    stack := d.clips.stack.drop 1, closed := bump d.clips.closed,
    emptyClips := bumpIf y.empty d.clips.emptyClips, table := d.clips.table.setIfInBounds i (some y) }) held
  have closed : Filed b es (putClip i y { popMark d with clips := { (popMark d).clips with
      closed := bump (popMark d).clips.closed, emptyClips := bumpIf y.empty (popMark d).clips.emptyClips } }) := by
    refine h.rewritten put fields (h.table.above held (by rw [opened]; exact ⟨nofun, nofun⟩))
      (fun marks => put.leaves nofun marks ?_) (put.keeps ?_) (put.keeps ?_) ?_
    · rw [stack]
      exact List.Perm.of_eq (congrArg (i :: ·) (congrArg (List.drop 1) stack).symm)
    · exact iff_of_false (by rw [opened]; nofun) nofun
    · exact iff_of_false (by rw [opened]; nofun) nofun
    · exact (List.drop_sublist 1 d.clips.stack).length_le
  exact filed_autoOffer closed put.here rfl

theorem filed_autoClips (p : Option Ctx) (h : Filed b es d) : Filed b es (autoClips p d) := by
  have closed : Filed b es (autoClose p d) := by
    unfold autoClose
    split
    · rename_i top
      split
      · exact filed_closeClip h top
      · exact h
    · exact h
  unfold autoClips autoOpen
  split
  · exact closed
  split
  · split
    · exact filed_setAttention _ closed.counted
    · rename_i room
      exact filed_openClip _ true closed.counted (Bool.eq_false_of_not_eq_true room) (Nat.zero_le 32) (Nat.zero_le 5)
  · exact closed

theorem filed_markIn (ctx : Byte) (text : List Byte) (rating : Byte) (h : Filed b es c) :
    Filed b es (markIn ctx text rating c).1 := by
  unfold markIn
  split
  · exact h
  split
  · exact h
  split
  · exact h
  rename_i fits
  split
  · exact h
  rename_i room
  split
  · exact h
  · exact filed_openClip _ false h.counted (Bool.eq_false_of_not_eq_true room) (Nat.le_of_not_lt fits)
      (clampNat_le (by decide)).2

theorem filed_markOut (h : Filed b es c) : Filed b es (markOut c).1 := by
  unfold markOut
  split
  · exact h
  split
  · exact h
  · rename_i top
    exact filed_closeClip h top

/-! ## LABEL, SEND_LABEL and VOID_CLIP (R165, R166, R170) -/

/-- R165: a clip at or above the fence rewritten in the same state, its text and rating in their ranges. -/
theorem filed_putSame (h : Filed b es d) (held : clipAt d.clips i = some x) (above : d.clips.fence ≤ i)
    (fields : ClipOk y) (state : y.state = x.state := by rfl) : Filed b es (putClip i y d) :=
  h.rewritten_idle (rewritten_of_put held) fields above (.inl state)

/-- R165: a LABELLED or DELIVERED clip closed again, its label offered where auto-send is ON. -/
theorem filed_reopened (h : Filed b es d) (held : clipAt d.clips i = some x) (above : d.clips.fence ≤ i)
    (before : x.state = .labelled ∨ x.state = .delivered) (closed : y.state = .closed) (fields : ClipOk y) :
    Filed b es (autoOffer i y (putClip i y d)) := by
  have idle : Idle x.state := before.elim (fun labelled => labelled ▸ idle_labelled) fun delivered => delivered ▸ idle_delivered
  have put := rewritten_of_put (y := y) (l' := (putClip i y d).clips) held
  have moved : Filed b es (putClip i y d) := h.rewritten_idle put fields above (.inr ⟨idle, closed ▸ idle_closed⟩)
  exact filed_autoOffer moved put.here closed

/-- R138: a frame that takes the place of its own clip's leaves the clips that the queue names. -/
theorem queuedLabels_replaceLabel (f : LabelFrame) (c : Chip) :
    queuedLabels (replaceLabel f c).sched = queuedLabels c.sched := by
  rw [queuedLabels, replaceLabel, List.map_map]
  refine List.map_congr_left fun g _ => ?_
  rw [Function.comp_apply]
  split
  · rename_i own
    exact (eq_of_beq own).symm
  · rfl

theorem filed_replaceLabel (f : LabelFrame) (h : Filed b es d) : Filed b es (replaceLabel f d) := by
  unfold Filed
  rw [queuedLabels_replaceLabel]
  exact h

theorem filed_labelClip (text : List Byte) (rating : Byte) (h : Filed b es c) (held : clipAt c.clips i = some x)
    (above : c.clips.fence ≤ i) (fits : text.length ≤ 32) : Filed b es (labelClip i x text rating c).1 := by
  have ok := h.table.fields i x held
  have range : clampNat rating.toNat 0 5 ≤ 5 := (clampNat_le (by decide)).2
  have same : ∀ y : Clip, ClipOk y → y.state = x.state → Filed b es (putClip i y c) := fun y fields state =>
    filed_putSame h held above fields state
  unfold labelClip
  extract_lets y ok'
  have edited : ClipOk y := clipOk_edited ok fits range
  have raisedOk : ClipOk (raised y) := edited
  split
  case h_1 => exact same y edited rfl
  case h_2 =>
    repeat' split
    · exact h
    · exact same _ raisedOk rfl
    · exact same y edited rfl
  case h_3 =>
    repeat' split
    · exact h
    · exact filed_replaceLabel _ (same _ raisedOk rfl)
    · exact filed_replaceLabel _ (same y edited rfl)
  case h_5 labelled =>
    split
    · exact h
    · exact filed_reopened h held above (.inl labelled) rfl
        (clipOk_moved ok (by rw [labelled]; nofun) nofun nofun fits range)
  case h_6 delivered =>
    split
    · exact h
    · exact filed_reopened h held above (.inr delivered) rfl
        (clipOk_moved ok (by rw [delivered]; nofun) nofun nofun fits range)
  all_goals exact h

theorem filed_label (index : Byte) (text : List Byte) (rating : Byte) (h : Filed b es c) :
    Filed b es (label index text rating c).1 := by
  unfold label
  split
  · exact h
  split
  · exact h
  rename_i fits
  split
  · exact h
  rename_i above
  split
  · exact h
  · rename_i held
    exact filed_labelClip text rating h held (Nat.le_of_not_lt above) (Nat.le_of_not_lt fits)

theorem filed_sendLabel (index : Byte) (h : Filed b es c) : Filed b es (sendLabel index c).1 := by
  unfold sendLabel
  split
  · exact h
  split
  · exact h
  split
  · exact h
  rename_i held
  split
  · rename_i closed
    exact filed_offerLabel h held closed
  all_goals exact h

/-- R170: a clip that no list names made VOID. -/
theorem filed_makeVoid (h : Filed b es d) (held : clipAt d.clips i = some x) (above : d.clips.fence ≤ i)
    (idle : Idle x.state) : Filed b es (makeVoid i x d) := by
  have ok := h.table.fields i x held
  exact h.rewritten_idle (rewritten_of_put (y := { x with state := .void }) held)
    (clipOk_moved ok idle.1 nofun nofun ok.1 ok.2.1) above (.inr ⟨idle, idle_void⟩)

theorem erase_of_nodup {is : List Nat} (nodup : is.Nodup) (mem : i ∈ is) :
    is.Perm (i :: is.filter fun j => !(j == i)) := by
  have kept : is.erase i = is.filter fun j => !(j == i) := nodup.erase_eq_filter i
  exact kept ▸ List.perm_cons_erase mem

/-- R138, R170: a QUEUED clip made VOID, its frame withdrawn from the label queue. -/
theorem filed_voidQueued (h : Filed b es d) (held : clipAt d.clips i = some x) (above : d.clips.fence ≤ i)
    (queued : x.state = .queued) : Filed b es (makeVoid i x (withdrawLabel i d)) := by
  have ok := h.table.fields i x held
  have notOpened : x.state ≠ .opened := by
    rw [queued]
    nofun
  have put := rewritten_of_put (l' := (makeVoid i x (withdrawLabel i d)).clips) held
  refine h.rewritten put (clipOk_moved ok notOpened nofun nofun ok.1 ok.2.1) above (put.keeps (iff_of_false notOpened nofun))
    (fun lists => put.leaves nofun lists ?_) (put.keeps (iff_of_false (by rw [queued]; nofun) nofun))
  have mem := (lists.2 i).mpr ((stateAt_of_clipAt held).trans (congrArg some queued))
  refine (erase_of_nodup lists.1 mem).trans (List.Perm.of_eq ?_)
  rw [queuedLabels, List.filter_map]
  rfl

theorem filed_voidClip (index : Byte) (h : Filed b es c) : Filed b es (voidClip index c).1 := by
  unfold voidClip
  split
  · exact h
  split
  · exact h
  rename_i above
  have above := Nat.le_of_not_lt above
  split
  · exact h
  rename_i held
  split
  case h_1 closed => exact filed_makeVoid h held above (closed ▸ idle_closed)
  case h_2 labelled => exact filed_makeVoid h held above (labelled ▸ idle_labelled)
  case h_3 delivered => exact filed_makeVoid h held above (delivered ▸ idle_delivered)
  case h_4 queued => exact filed_voidQueued h held above queued
  all_goals exact h

/-! ## SET_CLIP_MODE and SET_FENCE (R163, R171) -/

theorem filed_setClipMode (autoSend : Byte) (autoClip : Vector Byte 6) (h : Filed b es c) :
    Filed b es (setClipMode autoSend autoClip c).1 := by
  unfold setClipMode
  split
  · exact h.counted
  · exact h

/-- R171: the fence rises to a position below which every entry is DELIVERED or VOID. -/
theorem filed_setFence (position : Byte) (h : Filed b es c) : Filed b es (setFence position c).1 := by
  unfold setFence
  extract_lets n
  split
  · exact h
  split
  · exact h
  rename_i range
  obtain ⟨least, most⟩ : c.clips.fence ≤ n ∧ n ≤ c.clips.write := by simpa using range
  split
  · exact h
  rename_i settled
  have settled : ∀ e ∈ c.clips.table.toList.take n, isSettled e = true := by simpa using settled
  refine ⟨{ h.table with fence := most, settled := fun j below => ?_ }, h.fenced.trans ⟨least, fun _ _ => rfl⟩,
    fun ok => ⟨(h.labels ok).queued, (h.labels ok).awaiting⟩⟩
  have inside : j < 128 := Nat.lt_of_lt_of_le below (most.trans h.table.write)
  show isSettled (clipAt c.clips j) = true
  rw [clipAt_fin _ ⟨j, inside⟩]
  refine settled _ (List.mem_take_iff_getElem.mpr ⟨j, ?_, ?_⟩)
  · rw [Vector.length_toList]
    exact Nat.lt_min.mpr ⟨below, inside⟩
  · simp

/-! ## Pictures (R168, R169) -/

theorem marking_gap (k : Ctx) (p : PicNum) :
    Marking fun x => if newGap k p x then { x with gap := true } else x where
  fields x ok := by
    split
    · exact ok
    · exact ok
  settled x state := by
    refine if_neg fun gap => ?_
    obtain ⟨-, takes, -⟩ := (newGap_iff k p x).mp gap
    obtain delivered | void := state
    · rw [delivered] at takes
      cases takes
    · rw [void] at takes
      cases takes
  states x := by
    split
    · exact .inl rfl
    · exact .inl rfl

/-- R169: the clips whose pictures are judged are no longer OPEN, and neither DELIVERED nor VOID. -/
theorem newDone_state {k : Ctx} {lw : PicNum} (done : newDone k lw x = true) :
    x.state ≠ .opened ∧ x.state ≠ .delivered ∧ x.state ≠ .void := by
  have judged : awaitsPictures x.state = true := by
    simp only [newDone, Bool.and_eq_true] at done
    exact done.1.1.2
  refine ⟨fun e => ?_, fun e => ?_, fun e => ?_⟩
  all_goals
    rw [e] at judged
    cases judged

theorem marking_done (k : Ctx) (lw : PicNum) :
    Marking fun x => if newDone k lw x then
      { x with done := some true, state := if x.state = .labelled then .delivered else x.state } else x where
  fields x ok := by
    split
    · rename_i done
      obtain ⟨closed, -, -⟩ := newDone_state done
      obtain ⟨text, rating, -, present, -⟩ := ok
      have opened : (if x.state = .labelled then ClipState.delivered else x.state) ≠ .opened := by
        split
        · nofun
        · exact closed
      obtain ⟨picture, timecode, -⟩ := present closed
      exact ⟨text, rating, fun e => absurd e opened, fun _ => ⟨picture, timecode, rfl⟩, fun _ => rfl⟩
    · exact ok
  settled x state := by
    refine if_neg fun done => ?_
    obtain ⟨-, delivered, void⟩ := newDone_state done
    exact state.elim delivered void
  states x := by
    split
    · dsimp only
      split
      · rename_i labelled
        exact .inr ⟨labelled ▸ idle_labelled, idle_delivered⟩
      · exact .inl rfl
    · exact .inl rfl

theorem filed_clipsTakePicture (k : Ctx) (p : PicNum) (bad : Bool) (lw : PicNum) (h : Filed b es d) :
    Filed b es (clipsTakePicture k p bad lw d) := by
  have gap : Filed b es (gapStep k p d) :=
    h.marked (marking_gap k p) (clipAt_mapAll rfl fun e => by cases e <;> rfl)
  have done : ∀ d, Filed b es d → Filed b es (doneStep k lw d) := fun d h =>
    filed_setAttentionIf _ _ (h.marked (d := { d with clips := { d.clips with
      table := mapAll _ d.clips.table, delivered := _ } }) (marking_done k lw)
      (clipAt_mapAll rfl fun e => by cases e <;> rfl))
  unfold clipsTakePicture
  split
  · exact done _ gap
  · exact done _ h

theorem filed_writeLog (e : LogEntry) (h : Filed b es d) : Filed b es (writeLog e d) := by
  rw [writeLog_frame]
  exact h

theorem filed_resolve (p : Picture) (q : Option Nat) (sends : Nat) (o : PicOutcome) (h : Filed b es d) :
    Filed b es (resolve p q sends o d) := by
  unfold resolve
  extract_lets k acct counted noted handed
  have noted : Filed b es noted := filed_setAttention (outcomeAttention o) (d := counted) h
  have handed : Filed b es handed := filed_clipsTakePicture _ _ _ _ noted
  split
  · exact filed_writeLog _ handed
  · exact handed

theorem filed_changeQueued (k : Ctx) (n : PicNum) (f : Queued → Queued) (h : Filed b es d) :
    Filed b es (changeQueued k n f d) := by
  unfold changeQueued judgeQueued
  split
  · exact h
  split
  · rw [endDrainedContext_frame]
    exact filed_resolve (d := modVideo _ _ (modVideo _ _ d)) _ _ _ _ h
  · exact h

/-! ## Settlement (R144, R167) -/

/-- R167: an entry's label has its outcome: its clip leaves AWAITING for a state that no list names. -/
theorem Filed.labelEnds {e : Entry} (h : Filed b (e :: es) c) (label : labelOf e = some i)
    (put : Rewritten c.clips d.clips i x y) (awaiting : x.state = .awaiting) (idle : Idle y.state) (fields : ClipOk y)
    (stack : d.clips.stack = c.clips.stack := by rfl) (sched : d.sched = c.sched := by rfl) : Filed b es d := by
  refine h.rewritten put fields (h.table.above put.held (by rw [awaiting]; exact ⟨nofun, nofun⟩)) ?_ ?_ ?_
    (Nat.le_of_eq (congrArg List.length stack))
  · rw [stack]
    exact put.keeps (iff_of_false (by rw [awaiting]; nofun) idle.1)
  · rw [sched]
    exact put.keeps (iff_of_false (by rw [awaiting]; nofun) idle.2.1)
  · refine fun lists => put.leaves idle.2.2 lists (List.Perm.of_eq ?_)
    rw [sched, sentLabels, List.cons_append, List.filterMap_cons_some label]
    rfl

/-- R167: a label under way is that of an AWAITING clip. -/
theorem Filed.stray {e : Entry} (h : Filed b (e :: es) c) (label : labelOf e = some i)
    (other : ∀ x, clipAt c.clips i = some x → x.state ≠ .awaiting) : Filed b es c := by
  refine ⟨h.table, h.fenced, fun ok => ?_⟩
  have named : i ∈ sentLabels (e :: es) c.sched := List.mem_filterMap.mpr ⟨e, List.mem_cons_self .., label⟩
  obtain ⟨x, held, awaiting⟩ := stateAt_eq_some.mp (((h.labels ok).awaiting.2 i).mp named)
  exact absurd awaiting (other x held)

theorem filed_labelDelivered {e : Entry} (h : Filed b (e :: es) c) (label : labelOf e = some i) :
    Filed b es (labelDelivered i c) := by
  unfold labelDelivered
  split
  · rename_i x held
    have ok := h.table.fields i x held
    split
    · rename_i awaiting
      have notOpened : x.state ≠ .opened := by
        rw [awaiting]
        nofun
      split
      · rename_i done
        refine filed_setAttentionIf _ _ (h.labelEnds label (rewritten_of_put (l' := { c.clips with
          table := c.clips.table.setIfInBounds i (some { x with state := .delivered, labelLost := false }),
          delivered := _ }) held) awaiting idle_delivered ?_)
        exact clipOk_moved ok notOpened nofun (fun _ => done) ok.1 ok.2.1
      · exact h.labelEnds label (rewritten_of_put (y := { x with state := .labelled, labelLost := false }) held)
          awaiting idle_labelled (clipOk_moved ok notOpened nofun nofun ok.1 ok.2.1)
    · rename_i other
      exact h.stray label fun z here => by
        cases held.symm.trans here
        exact other
  · rename_i none
    exact h.stray label fun z here => by
      cases none.symm.trans here

theorem filed_labelLost {e : Entry} (h : Filed b (e :: es) c) (label : labelOf e = some i) :
    Filed b es (labelLost i c) := by
  unfold labelLost
  split
  · rename_i x held
    have ok := h.table.fields i x held
    split
    · rename_i awaiting
      refine filed_setAttention _ (h.labelEnds label (rewritten_of_put (l' := { c.clips with
        table := c.clips.table.setIfInBounds i (some { x with state := .closed, labelLost := true }),
        labelsLost := bump c.clips.labelsLost }) held) awaiting idle_closed ?_)
      exact clipOk_moved ok (by rw [awaiting]; nofun) nofun nofun ok.1 ok.2.1
    · rename_i other
      exact h.stray label fun z here => by
        cases held.symm.trans here
        exact other
  · rename_i none
    exact h.stray label fun z here => by
      cases none.symm.trans here

/-- R144: an entry that has left the lists is settled. -/
theorem filed_settle (delivered : Bool) {e : Entry} (h : Filed b (e :: es) c) : Filed b es (settle delivered e c) := by
  unfold settle
  extract_lets c1
  have counted : Filed b (e :: es) c1 := h
  split
  · rename_i k n j origin
    have video : labelOf e = none := by rw [labelOf, origin]
    have left : Filed b es c1 := by
      unfold Filed sentLabels at counted
      rw [List.cons_append, List.filterMap_cons_none video] at counted
      exact counted
    exact filed_changeQueued _ _ _ left
  · rename_i i v origin
    have label : labelOf e = some i := by rw [labelOf, origin]
    unfold settleLabel
    rw [logLabel_frame]
    show Filed b es (if delivered then labelDelivered i c1 else labelLost i c1)
    split
    · exact filed_labelDelivered counted label
    · exact filed_labelLost counted label

end Sys2Proof.ClipTable

end


section
/-! The engine, the gatherers, the mixer, steering and the selector, and the clip table and the labels under way: they reach
the clip log by resolutions (R151) and by the automatic clips of a boundary (R164) alone. -/

namespace Sys2Proof.ClipTable

open Sys2Proof.Machine Sys2Proof.Safety Sys2Proof.Claims

variable {b d : Chip} {es : List Entry}

/-! ## The output lane and the other queues (R8 to R11, R137, R139) -/

theorem filed_offerTallyOf (k : Ctx) (h : Filed b es d) : Filed b es (offerTallyOf k d) := by
  rw [offerTallyOf_frame]
  exact h

theorem filed_offerTallySet (h : Filed b es d) : Filed b es (offerTallySet d) :=
  filed_foldl (fun _ => filed_offerTallyOf) _ h

theorem filed_foSent (h : Filed b es d) : Filed b es (foSent d) := by
  rw [foSent_frame]
  exact h

/-! ## The engine and the gatherers (chapter 4) -/

theorem filed_arbitrate (h : Filed b es d) : Filed b es (arbitrate d) := by
  rw [arbitrate_frame]
  exact h

theorem filed_takeCoded (o : Coding) (coded : List Byte) (h : Filed b es d) : Filed b es (takeCoded o coded d) := by
  unfold takeCoded
  extract_lets k e v
  have settled : Filed b es (settleVerdict o coded v d) := by
    cases v with
    | accepted => exact h
    | reservoir => exact filed_resolve _ _ _ _ h
    | queueFull => exact filed_resolve _ _ _ _ h
  exact settled

theorem filed_codingDone (coded : List Byte) (h : Filed b es d) : Filed b es (codingDone coded d) := by
  unfold codingDone
  split
  · exact h
  split
  · exact filed_arbitrate (filed_takeCoded (d := { d with engine := _ }) _ _ h)
  · exact h

theorem filed_completePicture (k : Ctx) (g : Gathering) (h : Filed b es d) : Filed b es (completePicture k g d) := by
  unfold completePicture
  dsimp only
  refine filed_arbitrate ?_
  split
  · exact h
  · exact filed_resolve (d := modCtx k _ (modCtx k _ d)) _ _ _ _ h

theorem filed_endDamaged (k : Ctx) (g : Gathering) (h : Filed b es d) : Filed b es (endDamaged k g d) :=
  filed_completePicture (d := modCtx k _ d) _ _ h

theorem filed_gatherCell (k : Ctx) (lane : LaneNo) (cell : Cell) (h : Filed b es d) :
    Filed b es (gatherCell k lane cell d) := by
  have started : Filed b es (startPicture k lane cell d) := by
    unfold startPicture
    extract_lets freed g begun
    have freed : Filed b es freed := by
      unfold freed
      split
      · exact filed_endDamaged _ _ h
      · exact h
    split
    · exact filed_completePicture (d := begun) _ _ freed
    · exact freed
  have joined : ∀ g, Filed b es (joinPicture k g lane cell d) := fun g => by
    unfold joinPicture
    extract_lets y x full part src begun
    split
    · exact filed_completePicture (d := modCtx k _ d) _ _ h
    · split
      · exact filed_completePicture (d := begun) _ _ h
      · exact h
  unfold gatherCell
  split
  · split
    · exact started
    · split
      · exact joined _
      · exact h
  · exact h

theorem filed_gatherBoundary (h : Filed b es d) : Filed b es (gatherBoundary d) := by
  refine filed_foldl (fun d k h => ?_) _ h
  unfold gatherBoundaryAt staleCheck
  split
  · split
    · exact h
    · split
      · exact h
      · exact filed_endDamaged (d := modCtx k _ d) _ _ h
  all_goals exact h

theorem filed_startContext (ctx : Byte) (h : Filed b es d) : Filed b es (startContext ctx d).1 := by
  unfold startContext
  repeat' split
  all_goals exact h

/-! ## STOP_CONTEXT (R44, R53, R106) -/

theorem filed_stopRunning (k : Ctx) (h : Filed b es d) : Filed b es (stopRunning k d) := by
  have abandoned : Filed b es (abandonFor k d) := by
    unfold abandonFor
    split
    · exact h
    · split
      · exact filed_resolve (d := { d with engine := _ }) _ _ _ _ h
      · exact h
  have ready : Filed b es (shedReady k (abandonFor k d)) := by
    unfold shedReady
    split
    · exact filed_resolve (d := modCtx k _ (abandonFor k d)) _ _ _ _ abandoned
    · exact abandoned
  have gathering : Filed b es (shedGathering k (shedReady k (abandonFor k d))) := by
    unfold shedGathering
    split
    · exact filed_resolve (d := modCtx k _ (shedReady k (abandonFor k d))) _ _ _ _ ready
    · exact ready
  unfold stopRunning drainOrStop
  split
  all_goals exact gathering

theorem filed_stopAtSelector (k : Ctx) (h : Filed b es d) : Filed b es (stopAtSelector k d) := by
  have programme : Filed b es (stopProgramme k d) := by
    unfold stopProgramme
    split
    · exact filed_setAttention [.takeDegraded] (d := { d with sel := _ }) h
    · exact h
  have stopped : Filed b es (stopPreset k (stopProgramme k d)) := by
    unfold stopPreset
    split
    all_goals exact programme
  unfold stopAtSelector
  dsimp only
  split
  · exact filed_offerTallySet stopped
  · exact stopped

theorem filed_stopContext (ctx : Byte) (h : Filed b es d) : Filed b es (stopContext ctx d).1 := by
  unfold stopContext
  split
  · exact h
  split
  · exact h
  split
  · exact filed_arbitrate (filed_stopAtSelector _ (d := reachStopped _ d) h)
  · exact filed_arbitrate (filed_stopAtSelector _ (filed_stopRunning _ h))
  all_goals exact h

/-! ## The mixer (chapter 6) -/

theorem filed_takeBlock (i : InputNo) (h : Filed b es d) : Filed b es (takeBlock i d).1 := by
  unfold takeBlock
  dsimp only
  split
  · exact h
  split
  · dsimp only
    split
    · exact filed_setAttention _ (d := { d with mixer := _ }) h
    · exact h
  · exact h

theorem filed_takeBlocks (h : Filed b es d) : Filed b es (takeBlocks d).1 := by
  have fold : ∀ (l : List InputNo) (acc : Chip × List (List Sample)), Filed b es acc.1 →
      Filed b es (l.foldl (fun acc i =>
        let t := takeBlock i acc.1
        (t.1, acc.2 ++ [t.2])) acc).1 := fun l => by
    induction l with
    | nil => exact fun _ h => h
    | cons i l ih => exact fun acc h => ih _ (filed_takeBlock i h)
  exact fold allInputs (d, []) h

theorem filed_offerAuxBus (source : OutSource) (stream : Stream) (out : List Int) (h : Filed b es d) :
    Filed b es (offerAuxBus source stream out d) := by
  unfold offerAuxBus
  split
  · exact h
  · rw [offerAux_frame]
    exact h

theorem filed_buildFrame (left right : List Sample) (h : Filed b es d) : Filed b es (buildFrame left right d) := by
  unfold buildFrame queueOrDiscard
  dsimp only
  split
  · exact h
  · split
    all_goals exact h

theorem filed_newMixer (m : Mixer) (h : Filed b es d) : Filed b es { d with mixer := m } := h

theorem filed_mixerTick (h : Filed b es d) : Filed b es (mixerTick d) := by
  unfold mixerTick
  split
  · exact h
  · have mixed := filed_newMixer (countMix (moveFaders (takeBlocks d).1.mixer) (takeBlocks d).2) (filed_takeBlocks h)
    exact filed_buildFrame _ _ (filed_offerAuxBus _ _ _ (filed_offerAuxBus _ _ _ (filed_setAttentionIf _ _ mixed)))

theorem filed_audioInputLost (i : InputNo) (h : Filed b es d) : Filed b es (audioInputLost i d) := by
  unfold audioInputLost
  split
  · exact filed_takeBlock i h
  · exact h

/-! ## Steering (chapter 3) -/

theorem filed_carryOut (a : SteerAction) (lane : LaneNo) (k : CellKind) (cell : Cell) (h : Filed b es d) :
    Filed b es (carryOut a lane k cell d) := by
  cases a with
  | discard => exact h
  | code x =>
    show Filed b es (if k = .video then gatherCell x lane cell (countDecision d) else countMismatch d)
    split
    · exact filed_gatherCell _ _ _ (d := countDecision d) h
    · exact h
  | mix i =>
    show Filed b es (if k = .audio then modInput i (receiveBlock cell.payload) (countDecision d) else countMismatch d)
    split
    all_goals exact h
  | pass => exact h

theorem filed_steerCell (lane : LaneNo) (k : CellKind) (cell : Cell) (h : Filed b es d) :
    Filed b es (steerCell lane k cell d) := by
  unfold steerCell
  split
  · exact h
  unfold evaluateCell
  split
  · rename_i i a _
    have done : Filed b es (carryOut a lane k cell d) := filed_carryOut a lane k cell h
    dsimp only
    split
    · exact filed_setAttention _ (d := modSteer _ (carryOut a lane k cell d)) done
    · exact done
  · unfold defaultAction
    dsimp only
    split
    all_goals exact h

theorem filed_steerBoundary (h : Filed b es d) : Filed b es (steerBoundary d) := by
  unfold steerBoundary
  split
  · exact filed_setAttention _ (d := modSteer _ d) h
  · exact h

/-! ## The selector and the picture boundary (R14, R104, R164) -/

theorem filed_selectorBoundary (h : Filed b es d) : Filed b es (selectorBoundary d) := by
  unfold selectorBoundary
  extract_lets op pre applied handed
  have applied : Filed b es applied := by
    have operated : Filed b es (if op then applyOp d else d) := by
      split
      · exact filed_setAttention _ (d := { d with sel := _ }) h
      · exact h
    unfold applied applyPreset
    split
    all_goals exact operated
  have handed : Filed b es handed := by
    unfold handed
    split
    · exact filed_autoClips _ (d := afvHandover _ _) applied
    · exact applied
  split
  · exact filed_offerTallySet handed
  · exact handed

/-- R59, R132: the division of the bytes at a boundary. -/
theorem filed_divided (h : Filed b es d) : Filed b es (BudgetAndRate.divided d) := h

theorem filed_boundaryWork (h : Filed b es d) : Filed b es (boundaryWork d) :=
  filed_divided (filed_selectorBoundary (filed_gatherBoundary (filed_steerBoundary h)))

theorem filed_modTime (f : Timebase → Timebase) (h : Filed b es d) : Filed b es (modTime f d) := h

theorem filed_makeBoundary (st : TimebaseState) (tc : Timecode) (h : Filed b es d) :
    Filed b es (makeBoundary st tc d) := filed_boundaryWork (filed_modTime _ h)

theorem filed_expireBoundary (h : Filed b es d) : Filed b es (expireBoundary d) := by
  unfold expireBoundary loseReference freeBoundary
  split
  · exact filed_setAttention [.refLost] (filed_modTime _ (filed_makeBoundary _ _ h))
  · exact filed_makeBoundary _ _ h

theorem filed_referenceCell (payload : List Byte) (h : Filed b es d) : Filed b es (referenceCell payload d) := by
  unfold referenceCell
  split
  · exact h
  · exact h
  unfold takeReference
  dsimp only
  split
  · exact filed_makeBoundary _ _ (d := modTime _ (modTime _ d)) h
  · split
    · exact h
    · exact filed_makeBoundary _ _ (d := modTime _ d) h

/-! ## Settings (chapters 2 to 7 and 12) -/

theorem filed_setRate (rate : Byte) (h : Filed b es d) : Filed b es (setRate rate d).1 := by
  unfold setRate
  repeat' split
  all_goals exact h

theorem filed_loadSteer (first count : Byte) (entries : List SteerEntry) (h : Filed b es d) :
    Filed b es (loadSteer first count entries d).1 := by
  unfold loadSteer
  split
  all_goals exact h

theorem filed_steerDefault (a : Byte) (h : Filed b es d) : Filed b es (steerDefault a d).1 := by
  unfold steerDefault
  split
  all_goals exact h

theorem filed_setContext (ctx weight : Byte) (minimum : BitVec 32) (boost bias slew marker : Byte) (latency : BitVec 16)
    (logMode : Byte) (h : Filed b es d) :
    Filed b es (setContext ctx weight minimum boost bias slew marker latency logMode d).1 := by
  unfold setContext
  split
  all_goals exact h

theorem filed_setReservoir (ctx depth qMin qMax qStart : Byte) (h : Filed b es d) :
    Filed b es (setReservoir ctx depth qMin qMax qStart d).1 := by
  unfold setReservoir
  dsimp only
  repeat' split
  all_goals exact h

theorem filed_loadCurve (ctx : Byte) (entries : List Byte) (h : Filed b es d) :
    Filed b es (loadCurve ctx entries d).1 := by
  unfold loadCurve
  repeat' split
  all_goals exact h

theorem filed_loadGain (first count : Byte) (entries : List (BitVec 16)) (h : Filed b es d) :
    Filed b es (loadGain first count entries d).1 := by
  unfold loadGain
  repeat' split
  all_goals exact h

theorem filed_setFader (input target step : Byte) (h : Filed b es d) : Filed b es (setFader input target step d).1 := by
  unfold setFader
  split
  all_goals exact h

theorem filed_setAfv (input link onIndex offIndex : Byte) (h : Filed b es d) :
    Filed b es (setAfv input link onIndex offIndex d).1 := by
  unfold setAfv
  split
  all_goals exact h

theorem filed_setSends (input pgmL pgmR auxA auxB : Byte) (h : Filed b es d) :
    Filed b es (setSends input pgmL pgmR auxA auxB d).1 := by
  unfold setSends
  split
  all_goals exact h

theorem filed_setBus (bus master mute : Byte) (stream : BitVec 16) (h : Filed b es d) :
    Filed b es (setBus bus master mute stream d).1 := by
  unfold setBus
  repeat' split
  all_goals exact h

theorem filed_setAudioSend (value : Byte) (h : Filed b es d) : Filed b es (setAudioSend value d).1 := by
  unfold setAudioSend
  split
  all_goals exact h

theorem filed_setTally (ctx : Byte) (stream : BitVec 16) (h : Filed b es d) : Filed b es (setTally ctx stream d).1 := by
  unfold setTally
  split
  · exact h
  · dsimp only
    split
    · exact h
    · exact filed_offerTallyOf _ (d := { d with sel := _ }) h

theorem filed_readLog (h : Filed b es d) : Filed b es (readLog d).1 := by
  unfold readLog
  split
  all_goals exact h

theorem filed_goRun (h : Filed b es d) : Filed b es (goRun d).1 := by
  unfold goRun
  split
  all_goals exact h

theorem filed_standBy (h : Filed b es d) : Filed b es (standBy d).1 := by
  unfold standBy
  split
  all_goals exact h

end Sys2Proof.ClipTable

end


section
/-! The home link, the scheduler and the return path, and the labels under way: an entry leaves the lists to be settled
(R142 to R145, R123, R125), moves between them (R141, R143), or joins them as its frame is sent (R136, R167). -/

namespace Sys2Proof.ClipTable

open Sys2Proof.Machine Sys2Proof.Safety Sys2Proof.Claims Sys2Proof.HomeLink Sys2Proof.Clockwork

variable {b c d : Chip} {es : List Entry}

/-! ## The lists -/

/-- The lists changed, with the labels that they carry as they were. -/
theorem Filed.relisted {es' : List Entry} (h : Filed b es c) (sent : (sentLabels es' d.sched).Perm (sentLabels es c.sched))
    (clips : d.clips = c.clips := by rfl) (queue : queuedLabels d.sched = queuedLabels c.sched := by rfl) :
    Filed b es' d := by
  unfold Filed
  rw [clips, queue]
  exact ⟨h.table, h.fenced, fun ok => ⟨(h.labels ok).queued, (h.labels ok).awaiting.perm sent⟩⟩

/-- An entry taken out of the awaiting list, to be settled. -/
theorem Filed.leavesAwaiting {p : Entry → Bool} {e : Entry} {rest : List Entry} (h : Filed b [] c)
    (taken : takeFirst p c.sched.awaiting = some (e, rest)) (awaiting : d.sched.awaiting = rest := by rfl)
    (resend : d.sched.resend = c.sched.resend := by rfl) (clips : d.clips = c.clips := by rfl)
    (queue : queuedLabels d.sched = queuedLabels c.sched := by rfl) : Filed b [e] d := by
  obtain ⟨before, after, all, rfl, -⟩ := takeFirst_some taken
  refine h.relisted (List.Perm.filterMap _ ?_) clips queue
  rw [awaiting, resend, all]
  exact (List.perm_middle.append_right _).symm

/-- An entry taken out of the resend queue, to be settled. -/
theorem Filed.leavesResend {p : Entry → Bool} {e : Entry} {rest : List Entry} (h : Filed b [] c)
    (taken : takeFirst p c.sched.resend = some (e, rest)) (resend : d.sched.resend = rest := by rfl)
    (awaiting : d.sched.awaiting = c.sched.awaiting := by rfl) (clips : d.clips = c.clips := by rfl)
    (queue : queuedLabels d.sched = queuedLabels c.sched := by rfl) : Filed b [e] d := by
  obtain ⟨before, after, all, rfl, -⟩ := takeFirst_some taken
  refine h.relisted (List.Perm.filterMap _ ?_) clips queue
  rw [awaiting, resend, all]
  rw [List.nil_append, List.singleton_append, ← List.append_assoc, ← List.append_assoc]
  exact List.perm_middle.symm

/-! ## The link's states and the end of a drain (R112, R123, R125) -/

theorem filed_enterLink (st : LinkState) (also : List AttClass) (h : Filed b es d) : Filed b es (enterLink st also d) := by
  rw [enterLink_frame]
  exact h

theorem filed_modLink (f : Link → Link) (h : Filed b es d) : Filed b es (modLink f d) := h

/-- R144: entries that have left the lists are settled in turn. -/
theorem filed_settleAll (delivered : Bool) (h : Filed b es d) :
    Filed b [] (es.foldl (fun d e => settle delivered e d) d) := by
  induction es generalizing d with
  | nil => exact h
  | cons e es ih => exact ih (filed_settle delivered h)

theorem filed_declareAllLost (h : Filed b [] d) : Filed b [] (declareAllLost d) := by
  have emptied : Filed b (d.sched.awaiting ++ d.sched.resend)
      { d with sched := { d.sched with awaiting := [], resend := [] } } :=
    h.relisted (List.Perm.of_eq (congrArg (List.filterMap labelOf) (List.append_nil _)))
  exact filed_settleAll false emptied

theorem filed_discardAudio (h : Filed b es d) : Filed b es (discardAudio d) := h

theorem filed_drainEnd (h : Filed b [] d) : Filed b [] (drainEnd d) :=
  filed_enterLink _ _ (filed_discardAudio (filed_declareAllLost (filed_modLink _ h)))

theorem filed_checkDrain (h : Filed b [] d) : Filed b [] (checkDrain d) := by
  unfold checkDrain
  split
  · exact filed_drainEnd h
  · exact h

/-! ## The link's timers (R115, R121, R123) -/

theorem filed_windowExpiry (h : Filed b es d) : Filed b es (windowExpiry d) := by
  unfold windowExpiry
  split
  · exact h
  · split
    · exact h
    · exact filed_enterLink _ _ (filed_modLink _ h)

theorem filed_gapExpiry (h : Filed b es d) : Filed b es (gapExpiry d) := by
  unfold gapExpiry
  split
  all_goals exact h

theorem filed_silenceRunsOut (h : Filed b [] d) : Filed b [] (silenceRunsOut d) := by
  unfold silenceRunsOut
  split
  · exact h
  dsimp only
  split
  · exact filed_enterLink _ _ (filed_modLink _ h)
  · exact filed_drainEnd (filed_modLink _ h)
  all_goals exact h

theorem filed_drainExpiry (h : Filed b [] d) : Filed b [] (drainExpiry d) := by
  unfold drainExpiry
  split
  · exact h
  · split
    · exact filed_drainEnd h
    · exact h

theorem filed_linkTick (silenceFirst : Bool) (h : Filed b [] d) : Filed b [] (linkTick silenceFirst d) := by
  have silence : ∀ {d}, Filed b [] d → Filed b [] (takeSilence d) := fun h => by
    unfold takeSilence
    split
    · exact filed_silenceRunsOut h
    · exact h
  have drain : ∀ {d}, Filed b [] d → Filed b [] (takeDrain d) := fun h => by
    unfold takeDrain
    split
    · exact filed_drainExpiry h
    · exact h
  have windowed : Filed b [] (windowTaken d) := by
    unfold windowTaken
    split
    · exact filed_windowExpiry (filed_modLink _ h)
    · exact h
  have gapped : Filed b [] (gapTaken d) := by
    unfold gapTaken
    split
    · exact filed_gapExpiry windowed
    · exact windowed
  rw [linkTick_eq]
  split
  · exact drain (silence gapped)
  · exact silence (drain gapped)

/-! ## The link's commands (R113, R122, R125, R126) -/

theorem filed_linkOpen (h : Filed b es d) : Filed b es (linkOpen d).1 := by
  unfold linkOpen
  split
  · exact h
  split
  · exact filed_enterLink (d := modLink _ d) _ _ h
  · exact h

theorem filed_handover (h : Filed b [] d) : Filed b [] (handover d).1 := by
  unfold handover
  split
  · exact h
  split
  · exact filed_checkDrain (filed_enterLink _ _ (filed_modLink _ h))
  · exact h

theorem filed_linkClose (h : Filed b [] d) : Filed b [] (linkClose d).1 := by
  unfold linkClose
  split
  · exact h
  split
  · exact h
  · exact filed_enterLink _ _ (filed_discardAudio (filed_declareAllLost (filed_modLink _ h)))

theorem filed_setLink (identity window gap silence ack : BitVec 16) (h : Filed b es d) :
    Filed b es (setLink identity window gap silence ack d).1 := h

/-! ## Acknowledgements, windows and deadlines (R142, R143, R145) -/

theorem filed_ackFrame (n : FrameNum) (h : Filed b [] d) : Filed b [] (ackFrame n d) := by
  unfold ackFrame
  split
  · rename_i taken
    exact filed_checkDrain (filed_settle _ (h.leavesAwaiting taken))
  · split
    · rename_i taken
      exact filed_checkDrain (filed_settle _ (h.leavesResend taken))
    · exact h

theorem filed_ackExpiry (n : FrameNum) (h : Filed b [] d) : Filed b [] (ackExpiry n d) := by
  unfold ackExpiry
  split
  · rename_i e rest taken
    have left : Filed b [e] (modSched (fun s => { s with awaiting := rest }) d) := h.leavesAwaiting taken
    unfold expire
    split
    · refine left.relisted ?_
      show ((rest ++ (d.sched.resend ++ [{ e with timer := none }])).filterMap labelOf).Perm
        (([e] ++ (rest ++ d.sched.resend)).filterMap labelOf)
      rw [← List.append_assoc]
      exact (List.perm_append_singleton _ _).filterMap labelOf
    · exact filed_checkDrain (filed_settle _ left)
  · exact h

theorem filed_loseResend (e : Entry) (h : Filed b [] d) : Filed b [] (loseResend e d) := by
  unfold loseResend
  split
  · rename_i x rest taken
    obtain ⟨-, -, -, -, same, -⟩ := takeFirst_some taken
    have own : x = e := eq_of_beq same
    exact filed_checkDrain (filed_settle _ (own ▸ h.leavesResend taken))
  · exact h

theorem filed_deadlinePasses (k : Ctx) (n : PicNum) (h : Filed b [] d) : Filed b [] (deadlinePasses k n d) := by
  unfold deadlinePasses
  split
  · split
    · exact h
    · exact filed_foldl (fun _ => filed_loseResend) _ (filed_changeQueued (d := modSched _ d) _ _ _ h)
  · exact h

theorem filed_earnCredit (h : Filed b es d) : Filed b es (earnCredit d) := by
  unfold earnCredit
  split
  all_goals exact h

theorem filed_countAckTimers (h : Filed b es d) : Filed b es (modSched countAckTimers d) := by
  refine h.relisted (List.Perm.of_eq ?_)
  show (es ++ (d.sched.awaiting.map _ ++ d.sched.resend)).filterMap labelOf = _
  simp only [sentLabels, List.filterMap_append, List.filterMap_map]
  rfl

theorem filed_expireWindows (h : Filed b [] d) : Filed b [] (expireWindows d) :=
  filed_foldl (fun _ (e : Entry) => filed_ackExpiry e.frame) _ (filed_countAckTimers h)

theorem filed_applyDeadlines (h : Filed b [] d) : Filed b [] (applyDeadlines d) :=
  filed_foldl (fun _ k => filed_foldl (fun _ (q : Queued) => filed_deadlinePasses k q.picture.number) _) _ h

/-! ## A selection (R134 to R136, R141) -/

/-- R134: what a frame found is at the head of: a label, of the label queue; an entry, of the resend queue. -/
def AtHead (s : Scheduler) : Found → Prop
  | .label f => s.labelQueue.head? = some f
  | .resend e => s.resend.head? = some e
  | _ => True

theorem atHead_of_findNew {f : Found} (found : findNew c = some f) : AtHead c.sched f := by
  have passed : ∀ {f}, findPass c = some f → AtHead c.sched f := fun found => by
    obtain ⟨x, -, rfl⟩ := Option.map_eq_some_iff.mp found
    trivial
  unfold findNew at found
  split at found
  · split at found
    · rename_i queue
      cases found
      exact congrArg List.head? queue
    · split at found
      · rename_i fragment
        cases found
        obtain ⟨k, q, r, rfl⟩ := findFragment_video fragment
        trivial
      · exact passed found
  · exact passed found

theorem atHead_of_found {f : Found} (found : findFrame c = some f) : AtHead c.sched f := by
  unfold findFrame at found
  split at found
  · obtain ⟨e, head, rfl⟩ := Option.map_eq_some_iff.mp found
    exact head
  split at found
  · cases found
    trivial
  split at found
  · rename_i queue
    cases found
    exact congrArg List.head? queue
  · exact atHead_of_findNew found

/-- R136, R141: an entry of no label joins the awaiting list. -/
theorem filed_await {e : Entry} (h : Filed b es d) (video : labelOf e = none) : Filed b es (await e d) := by
  refine h.relisted (List.Perm.of_eq ?_)
  have timed : ∀ t, labelOf { e with timer := t } = none := fun _ => video
  simp [sentLabels, await, modSched, timed]

/-- R136, R167: the frame of the first clip that the label queue names is sent: the clip goes from QUEUED to AWAITING. -/
theorem Filed.labelSent {i : Nat} (h : Filed b [] c) (queue : queuedLabels c.sched = i :: queuedLabels d.sched)
    (sent : (sentLabels [] d.sched).Perm (i :: sentLabels [] c.sched)) (clips : d.clips = c.clips := by rfl) :
    Filed b [] (labelSent i d) := by
  have stray : (∀ x, clipAt c.clips i = some x → x.state ≠ .queued) → Filed b [] d := fun other => by
    unfold Filed
    rw [clips]
    refine ⟨h.table, h.fenced, fun ok => ?_⟩
    have named : i ∈ queuedLabels c.sched := queue ▸ List.mem_cons_self ..
    obtain ⟨x, held, queued⟩ := stateAt_eq_some.mp (((h.labels ok).queued.2 i).mp named)
    exact absurd queued (other x held)
  unfold Machine.labelSent
  rw [clips]
  split
  · rename_i x held
    have ok := h.table.fields i x held
    split
    · rename_i queued
      have notOpened : x.state ≠ .opened := by
        rw [queued]
        nofun
      have put : Rewritten c.clips (putClip i { x with state := .awaiting } d).clips i x { x with state := .awaiting } :=
        rewritten_of_put held (by rw [← clips]; rfl) (congrArg (·.write) clips) (congrArg (·.fence) clips)
      have stack : (putClip i { x with state := .awaiting } d).clips.stack = c.clips.stack := congrArg (·.stack) clips
      refine h.rewritten put (clipOk_moved ok notOpened nofun nofun ok.1 ok.2.1)
        (h.table.above held (by rw [queued]; exact ⟨nofun, nofun⟩)) (fun lists => ?_)
        (fun lists => put.leaves nofun lists (List.Perm.of_eq queue))
        (fun lists => put.joins (by rw [queued]; nofun) rfl lists sent) (Nat.le_of_eq (congrArg List.length stack))
      exact stack ▸ put.keeps (iff_of_false notOpened nofun) lists
    · rename_i other
      exact stray fun z here => by
        cases held.symm.trans here
        exact other
  · rename_i none
    exact stray fun z here => by
      cases none.symm.trans here

theorem filed_sendLabelFrame {f : LabelFrame} (h : Filed b [] c) (head : c.sched.labelQueue.head? = some f) :
    Filed b [] (sendLabelFrame f c) := by
  obtain ⟨rest, queue⟩ := List.head?_eq_some_iff.mp head
  refine h.labelSent ?_ ?_
  · show c.sched.labelQueue.map (·.clip) = f.clip :: (c.sched.labelQueue.drop 1).map (·.clip)
    rw [queue]
    rfl
  · show ((c.sched.awaiting ++ [_] ++ c.sched.resend).filterMap labelOf).Perm _
    rw [List.append_assoc]
    exact List.perm_middle.filterMap labelOf

theorem filed_sendVideo (k : Ctx) (q : Queued) (rotated : Bool) (h : Filed b es d) :
    Filed b es (sendVideo k q rotated d) :=
  filed_changeQueued _ _ _ (filed_await (d := modSched _ (numberFrame (charge _ (putHt _ d)))) h rfl)

/-- R136, R141: the entry at the head of the resend queue is sent again, and joins the awaiting list. -/
theorem filed_resendEntry {e : Entry} (h : Filed b [] c) (head : c.sched.resend.head? = some e) :
    Filed b [] (resendEntry e c) := by
  obtain ⟨rest, queue⟩ := List.head?_eq_some_iff.mp head
  have moved : Filed b [] (resent e c) := by
    refine h.relisted (List.Perm.of_eq ?_)
    show (c.sched.awaiting ++ [{ e with sendCount := 2, timer := _ }] ++ c.sched.resend.drop 1).filterMap labelOf =
      (c.sched.awaiting ++ c.sched.resend).filterMap labelOf
    simp only [queue, List.append_assoc, List.filterMap_append, List.singleton_append]
    refine congrArg _ ?_
    rw [List.filterMap_cons, List.filterMap_cons]
    rfl
  rw [resendEntry_eq]
  unfold noteResend
  split
  · exact filed_changeQueued _ _ _ moved
  · exact moved

theorem filed_sendFound {f : Found} (h : Filed b [] c) (head : AtHead c.sched f) : Filed b [] (sendFound f c) := by
  cases f with
  | audio a => exact h
  | resend e => exact filed_resendEntry h head
  | label l => exact filed_sendLabelFrame h head
  | video k q rotated => exact filed_sendVideo k q rotated h
  | pass x => exact h

theorem filed_selectFrames (fuel : Nat) (h : Filed b [] c) : Filed b [] (selectFrames fuel c) := by
  induction fuel generalizing c with
  | zero => exact h
  | succ fuel ih =>
    unfold selectFrames
    split
    · exact h
    · rename_i found
      split
      · exact ih (filed_sendFound h (atHead_of_found found))
      · exact h

theorem filed_schedulerTick (h : Filed b [] d) : Filed b [] (schedulerTick d) := by
  have due := filed_applyDeadlines (filed_expireWindows (filed_earnCredit h))
  unfold schedulerTick selectTick
  split
  · exact filed_selectFrames _ due
  · exact due

/-! ## The return path (R116 to R120) -/

theorem filed_takeBody (body : ReturnBody) (h : Filed b [] d) : Filed b [] (takeBody body d) := by
  have capacity : ∀ v, Filed b [] (takeCapacity v d) := fun v => filed_setAttention [.capacity] (d := modLink _ d) h
  have acks : ∀ ns, Filed b [] (ackFrames ns d) := fun ns => filed_foldl (fun _ => filed_ackFrame) ns h
  cases body with
  | hailAnswer v =>
    cases state : d.link.state
    all_goals simp only [takeBody, state]
    case hailing => exact filed_modLink _ (filed_enterLink _ _ (filed_modLink _ h))
    all_goals exact h
  | ack ns =>
    cases state : d.link.state
    all_goals simp only [takeBody, state]
    case down => exact h
    all_goals exact acks ns
  | capacity v =>
    cases state : d.link.state
    all_goals simp only [takeBody, state]
    case down => exact h
    all_goals exact capacity v

theorem filed_returnMessage (bytes : List Byte) (h : Filed b [] d) : Filed b [] (returnMessage bytes d) := by
  have heard : ∀ {d}, Filed b [] d → Filed b [] (heard d) := fun h => by
    unfold Machine.heard
    split
    case h_3 => exact filed_enterLink _ _ h
    all_goals exact h
  unfold returnMessage
  split
  · exact h
  · exact h
  · split
    · exact heard (filed_takeBody _ (filed_modLink _ h))
    · exact h

end Sys2Proof.ClipTable

end


section
/-! The steps and the clip log: the block tick, the clock, the commands, the cells, a unit reset and the step relation keep
the table, the mark stack and the fence in order, and the labels under way (R138, R158 to R160, R167, R171). -/

namespace Sys2Proof.ClipTable

open Sys2Proof.Machine Sys2Proof.Safety Sys2Proof.Claims Sys2Proof.HomeLink Sys2Proof.Clockwork

variable {b c d : Chip} {es : List Entry}

/-! ## The clock (R15, R17, R18, R22) -/

theorem filed_tickWork (h : Filed b [] d) : Filed b [] (tickWork d) := by
  have begun : Filed b [] (tickBegun d) := h
  rw [tickWork_eq]
  refine filed_foldl (fun d p h => ?_) _ begun
  cases p with
  | mixer => exact filed_mixerTick h
  | scheduler => exact filed_schedulerTick h
  | link => exact filed_linkTick _ h

theorem filed_madeChoice (h : Filed b es d) : Filed b es (madeChoice d) := h

theorem filed_sampleStep (h : Filed b [] d) : Filed b [] (sampleStep d) := by
  have counted := filed_modTime countSample h
  have chosen := filed_madeChoice counted
  obtain ⟨-, -, e⟩ | ⟨-, -, e⟩ | ⟨-, -, e⟩ | ⟨-, -, e⟩ | ⟨-, -, e⟩ := sampleStep_cases d
  all_goals rw [e]
  · exact counted
  · exact filed_tickWork counted
  · exact filed_expireBoundary counted
  · exact filed_tickWork (filed_expireBoundary chosen)
  · exact filed_expireBoundary (filed_tickWork chosen)

theorem filed_runClock (n : Nat) (h : Filed b [] d) : Filed b [] (runClock n d) :=
  runClock_keeps (P := Filed b []) (fun _ => filed_sampleStep) n h

theorem filed_expiryIn (st : TimebaseState) (h : Filed b [] d) : Filed b [] (expiryIn st d) := by
  unfold expiryIn
  split
  · exact filed_runClock _ h
  · exact h

/-! ## What a step keeps, a CLEAR_CLIPS and a power-on reset among them -/

/-- R172: no entry in use, with W and the fence at 0. -/
def Emptied (l : ClipLog) : Prop := l.fence = 0 ∧ l.write = 0 ∧ ∀ i, clipAt l i = none

/-- The clip log is in order, each entry below the old fence is as it was unless the table has been cleared, and the labels
are in order where they were. -/
structure Carried (b d : Chip) : Prop where
  table : Tabled d.clips
  fenced : FenceKept b.clips d.clips ∨ Emptied d.clips
  labels : LabelsOk b → LabelsOk d

theorem Filed.carried (h : Filed b [] d) : Carried b d :=
  ⟨h.table, .inl h.fenced, fun ok => (labelsOk_iff d).mpr (h.labels ok)⟩

/-- Work ahead of a step's that leaves the clip log and the labels as they were. -/
theorem Carried.after (h : Carried c d) (clips : c.clips = b.clips := by rfl) (sched : c.sched = b.sched := by rfl) :
    Carried b d := by
  refine ⟨h.table, clips ▸ h.fenced, fun ok => h.labels ?_⟩
  unfold LabelsOk at ok ⊢
  rwa [clips, sched]

/-- Work behind a step's that leaves the clip log and the labels as they were. -/
theorem Carried.before (h : Carried b c) (clips : d.clips = c.clips := by rfl) (sched : d.sched = c.sched := by rfl) :
    Carried b d := by
  refine ⟨clips ▸ h.table, clips ▸ h.fenced, fun ok => ?_⟩
  have labels := h.labels ok
  unfold LabelsOk at labels ⊢
  rwa [clips, sched]

theorem lists_nil {st : ClipState} {l : ClipLog} (none : ∀ i, stateAt l i ≠ some st) : Lists st l [] :=
  ⟨List.nodup_nil, fun i => iff_of_false List.not_mem_nil (none i)⟩

theorem Emptied.lists_nil {l : ClipLog} (h : Emptied l) (st : ClipState) : Lists st l [] :=
  ClipTable.lists_nil fun i => by
    rw [stateAt, h.2.2 i]
    nofun

theorem Emptied.tabled {l : ClipLog} (h : Emptied l) (stack : l.stack = []) : Tabled l := by
  obtain ⟨fence, write, none⟩ := h
  constructor
  case marks => exact stack ▸ Emptied.lists_nil ⟨fence, write, none⟩ .opened
  all_goals simp [fence, write, none, stack]

/-- R172: the table cleared, with no OPEN clip and no label under way. -/
theorem Emptied.carried (h : Emptied d.clips) (stack : d.clips.stack = [])
    (labels : LabelsOk b → queuedLabels d.sched = [] ∧ sentLabels [] d.sched = []) : Carried b d := by
  refine ⟨h.tabled stack, .inr h, fun ok => (labelsOk_iff d).mpr ?_⟩
  obtain ⟨queue, sent⟩ := labels ok
  rw [queue, sent]
  exact ⟨h.lists_nil _, h.lists_nil _⟩

theorem clipAt_cleared {l : ClipLog} (table : l.table = Vector.replicate 128 none) (i : Nat) : clipAt l i = none := by
  by_cases inside : i < 128
  · rw [clipAt_fin l ⟨i, inside⟩, table]
    exact Vector.getElem_replicate _
  · exact clipAt_past (Nat.le_of_not_lt inside)

theorem carried_powerOnPart (straps : BitVec 4) (b c : Chip) : Carried b (powerOnPart straps c) :=
  Emptied.carried ⟨rfl, rfl, clipAt_cleared rfl⟩ rfl fun _ => ⟨rfl, rfl⟩

/-- A list of a state in which there is no clip is empty. -/
theorem Lists.eq_nil {st : ClipState} {l : ClipLog} {is : List Nat} (h : Lists st l is)
    (none : ∀ i x, clipAt l i = some x → x.state ≠ st) : is = [] :=
  List.eq_nil_iff_forall_not_mem.mpr fun i mem => by
    obtain ⟨x, held, state⟩ := stateAt_eq_some.mp ((h.2 i).mp mem)
    exact none i x held state

/-- R172: CLEAR_CLIPS is refused while a clip is OPEN, QUEUED or AWAITING. -/
theorem carried_clearClips (h : Filed b [] c) : Carried b (clearClips c).1 := by
  unfold clearClips
  split
  · exact h.carried
  · rename_i free
    have idle : ∀ i x, clipAt c.clips i = some x → Idle x.state := fun i x held => by
      have bound := lt_of_clipAt held
      have spare : inWork (some x) = false := by
        rw [← held, clipAt_fin _ ⟨i, bound⟩]
        refine Bool.eq_false_iff.mpr fun busy => free (List.any_eq_true.mpr ⟨_, ?_, busy⟩)
        exact Vector.mem_toList_iff.mpr (Vector.getElem_mem _)
      simpa [inWork, Idle, and_assoc] using spare
    refine Emptied.carried ⟨rfl, rfl, clipAt_cleared rfl⟩ (h.table.marks.eq_nil fun i x held => (idle i x held).1) fun ok => ?_
    have labels := h.labels ok
    exact ⟨labels.queued.eq_nil fun i x held => (idle i x held).2.1, labels.awaiting.eq_nil fun i x held => (idle i x held).2.2⟩

/-! ## Unit reset (R147, R160, R182) -/

/-- R171, R182: the clips below the fence stay, and there is no other. -/
theorem clipAt_resetClips (l : ClipLog) (i : Nat) : clipAt (resetClips l) i = if i < l.fence then clipAt l i else none := by
  by_cases inside : i < 128
  · rw [clipAt_fin (resetClips l) ⟨i, inside⟩, clipAt_fin l ⟨i, inside⟩]
    exact tabulate_get 128 _ ⟨i, inside⟩
  · rw [clipAt_past (Nat.le_of_not_lt inside), clipAt_past (Nat.le_of_not_lt inside), ite_self]

/-- R171: a clip below the fence is in no state that a list names. -/
theorem Tabled.idle_below {l : ClipLog} {i : Nat} {x : Clip} (h : Tabled l) (held : clipAt l i = some x)
    (below : i < l.fence) : Idle x.state := by
  have settled : x.state = .delivered ∨ x.state = .void := by
    by_contra other
    exact absurd (h.above held (not_or.mp other)) (Nat.not_le_of_lt below)
  exact settled.elim (fun e => e ▸ idle_delivered) fun e => e ▸ idle_void

theorem filed_resetBlocks (h : Filed b es d) : Filed b [] (resetBlocks d) := by
  have left : ∀ {i x}, clipAt (resetClips d.clips) i = some x → i < d.clips.fence ∧ clipAt d.clips i = some x :=
    fun held => by
      rw [clipAt_resetClips] at held
      split at held
      · exact ⟨‹_›, held⟩
      · cases held
  have idle : ∀ {i x}, clipAt (resetClips d.clips) i = some x → Idle x.state := fun held =>
    have ⟨below, was⟩ := left held
    h.table.idle_below was below
  have unlisted : ∀ st, (∀ st', Idle st' → st' ≠ st) → Lists st (resetClips d.clips) [] := fun st other =>
    lists_nil fun i named => by
      obtain ⟨x, held, state⟩ := stateAt_eq_some.mp named
      exact other _ (idle held) state
  have kept : ∀ i < d.clips.fence, clipAt (resetClips d.clips) i = clipAt d.clips i := fun i below => by
    rw [clipAt_resetClips, if_pos below]
  have write : d.clips.fence ≤ 128 := h.table.fence.trans h.table.write
  refine ⟨⟨write, Nat.le_refl _, fun i => ?_, Nat.zero_le 4, unlisted .opened fun _ i => i.1, fun i below => ?_,
    fun i x held => h.table.fields i x (left held).2⟩, h.fenced.trans ⟨Nat.le_refl _, kept⟩,
    fun _ => ⟨unlisted .queued fun _ i => i.2.1, unlisted .awaiting fun _ i => i.2.2⟩⟩
  · show (clipAt (resetClips d.clips) i).isSome = true ↔ i < d.clips.fence
    rw [clipAt_resetClips]
    split
    · rename_i below
      rw [h.table.used i]
      exact iff_of_true (Nat.lt_of_lt_of_le below h.table.fence) below
    · rename_i past
      exact iff_of_false nofun past
  · show isSettled (clipAt (resetClips d.clips) i) = true
    rw [kept i below]
    exact h.table.settled i below

theorem filed_offerTallyOff (h : Filed b es d) : Filed b es (offerTallyOff d) := by
  refine filed_foldl (fun d k h => ?_) _ h
  split
  · exact h
  · rw [offerTally_frame]
    exact h

theorem filed_resetUnit (h : Filed b [] d) : Filed b [] (resetUnit d).1 := by
  dsimp only [resetUnit]
  unfold unitReset
  exact filed_offerTallyOff (filed_resetBlocks h)

/-! ## Commands (R175, R176) -/

theorem carried_takeAddressed (tag : Byte) (name : List Byte) {work : Chip → Chip × Reply}
    (hw : ∀ d, Filed b [] d → Carried b (work d).1) (h : Filed b [] c) : Carried b (takeAddressed tag name work c) := by
  unfold takeAddressed
  split
  · exact h.carried.before
  · exact (hw (holdPlace c) h).before (placeAnswer_clips ..) (placeAnswer_sched ..)

/-- A command that keeps the clip log and the labels in order. -/
theorem carried_takeFiled {tag : Byte} {name : CommandName} {work : Chip → Chip × Reply}
    (hw : ∀ {d}, Filed b [] d → Filed b [] (work d).1) (h : Filed b [] c) : Carried b (takeCommand tag name work c) :=
  carried_takeAddressed tag _ (fun _ h => (hw h).carried) h

/-- A command whose work only answers, or is refused. -/
theorem carried_takeReading {tag : Byte} {name : CommandName} {work : Chip → Chip × Reply}
    (reads : ∀ d, (work d).1 = d) (h : Filed b [] c) : Carried b (takeCommand tag name work c) :=
  carried_takeFiled (fun h => by rwa [reads]) h

theorem carried_takeGlobal {work : Chip → Chip} (hw : ∀ {d}, Filed b [] d → Filed b [] (work d)) (h : Filed b [] c) :
    Carried b (takeGlobal work c) := by
  have counted : Filed b [] { c with port := { c.port with globalsTaken := bump c.port.globalsTaken } } := h
  exact (hw counted).carried

/-- R101: a selection in both its forms. -/
theorem carried_select (name : CommandName) (inRange : Bool) {take : Chip → Chip}
    (quiet : ∀ {d}, Filed b [] d → Filed b [] (take d)) (h : Filed b [] c) :
    (∀ tag, Carried b (takeCommand tag name (fun d =>
      if inRange then (take d, reply .done) else refuse .refusedRange d) c)) ∧
    Carried b (takeGlobal (fun d => if inRange then take d else countRefusedGlobal d) c) := by
  cases inRange
  · exact ⟨fun tag => carried_takeFiled id h, carried_takeGlobal (fun h => h) h⟩
  · exact ⟨fun tag => carried_takeFiled quiet h, carried_takeGlobal quiet h⟩

theorem carried_preset (dest : Dest) (unit ctx : Byte) (h : Filed b [] c) : Carried b (preset dest unit ctx c) := by
  obtain ⟨addressed, global⟩ := carried_select .preset (selectInRange unit ctx) (take := takePreset unit ctx) (fun h => h) h
  cases dest with
  | unit tag => exact addressed tag
  | all => exact global

theorem carried_cutTo (dest : Dest) (unit ctx : Byte) (h : Filed b [] c) : Carried b (cutTo dest unit ctx c) := by
  obtain ⟨addressed, global⟩ := carried_select .cutTo (selectInRange unit ctx) (take := takeCut unit ctx) (fun h => h) h
  cases dest with
  | unit tag => exact addressed tag
  | all => exact global

theorem carried_take (dest : Dest) (h : Filed b [] c) : Carried b (take dest c) := by
  cases dest with
  | unit tag => exact carried_takeFiled (fun h => h) h
  | all => exact carried_takeGlobal (work := takeTake) (fun h => h) h

theorem carried_swapSteer (dest : Dest) (h : Filed b [] c) : Carried b (swapSteer dest c) := by
  cases dest with
  | unit tag => exact carried_takeFiled (fun h => h) h
  | all => exact carried_takeGlobal (work := requestSwap) (fun h => h) h

/-- R176: every command of the catalogue; an event is no command. -/
theorem carried_runCommand (i : Instr) (h : Filed b [] c) : Carried b (runCommand i c) := by
  cases i with
  | setRate t r => exact carried_takeFiled (filed_setRate r) h
  | loadSteer t f n es => exact carried_takeFiled (filed_loadSteer f n es) h
  | readSteer t b f n => exact carried_takeReading (readSteer_fst b f n) h
  | steerDefault t a => exact carried_takeFiled (filed_steerDefault a) h
  | swapSteer dest => exact carried_swapSteer dest h
  | startContext t k => exact carried_takeFiled (filed_startContext k) h
  | stopContext t k => exact carried_takeFiled (filed_stopContext k) h
  | setContext t k w m bo bi sl mk la mode => exact carried_takeFiled (filed_setContext k w m bo bi sl mk la mode) h
  | setReservoir t k dp lo hi st => exact carried_takeFiled (filed_setReservoir k dp lo hi st) h
  | loadCurve t k es => exact carried_takeFiled (filed_loadCurve k es) h
  | setBudget t r => exact carried_takeFiled (fun h => h) h
  | loadGain t f n es => exact carried_takeFiled (filed_loadGain f n es) h
  | readGain t f n => exact carried_takeReading (fun d => by unfold readGain; split; all_goals rfl) h
  | setFader t i x r => exact carried_takeFiled (filed_setFader i x r) h
  | setAfv t i l on off => exact carried_takeFiled (filed_setAfv i l on off) h
  | setSends t i a b x y => exact carried_takeFiled (filed_setSends i a b x y) h
  | setBus t b m mute s => exact carried_takeFiled (filed_setBus b m mute s) h
  | setAudioSend t v => exact carried_takeFiled (filed_setAudioSend v) h
  | readMeters t => exact carried_takeFiled (fun h => h) h
  | preset dest u k => exact carried_preset dest u k h
  | take dest => exact carried_take dest h
  | cutTo dest u k => exact carried_cutTo dest u k h
  | setTally t k s => exact carried_takeFiled (filed_setTally k s) h
  | linkOpen t => exact carried_takeFiled filed_linkOpen h
  | handover t => exact carried_takeFiled filed_handover h
  | linkClose t => exact carried_takeFiled filed_linkClose h
  | setLink t v a r s k => exact carried_takeFiled (filed_setLink v a r s k) h
  | readLog t => exact carried_takeFiled filed_readLog h
  | markIn t k text rating => exact carried_takeFiled (filed_markIn k text rating) h
  | markOut t => exact carried_takeFiled filed_markOut h
  | setClipMode t a cs => exact carried_takeFiled (filed_setClipMode a cs) h
  | label t i text rating => exact carried_takeFiled (filed_label i text rating) h
  | sendLabel t i => exact carried_takeFiled (filed_sendLabel i) h
  | voidClip t i => exact carried_takeFiled (filed_voidClip i) h
  | setFence t n => exact carried_takeFiled (filed_setFence n) h
  | clearClips t => exact carried_takeAddressed t _ (fun _ => carried_clearClips) h
  | readClip t i => exact carried_takeReading (fun d => by unfold readClip; split; all_goals rfl) h
  | go t => exact carried_takeFiled filed_goRun h
  | standby t => exact carried_takeFiled filed_standBy h
  | resetUnit t => exact carried_takeFiled filed_resetUnit h
  | readStatus t b i => exact carried_takeReading (fun d => by unfold readStatus; split; all_goals rfl) h
  | setNotices t m => exact carried_takeFiled (fun h => h) h
  | ackAttention t m => exact carried_takeFiled (fun h => h) h
  | _ => exact h.carried

/-! ## Cells (R2 to R6, R175) -/

theorem carried_controlCell (unit : BitVec 4) (payload : List Byte) (h : Filed b [] c) :
    Carried b (controlCell unit payload c) := by
  unfold controlCell
  split
  · exact h.carried.before
  split
  · unfold addressedCell
    split
    · exact carried_takeAddressed _ _ (fun _ => Filed.carried) h
    · split
      · exact carried_takeAddressed _ _ (fun _ => Filed.carried) h
      · exact carried_runCommand _ h
  split
  · unfold globalCell
    split
    · exact carried_runCommand _ h
    · exact h.carried.before
  · exact h.carried.before

theorem carried_laneBytes (n : LaneNo) (bytes : List Byte) (h : Filed b [] c) : Carried b (laneBytes n bytes c) := by
  have counted : ∀ f, Filed b [] (modLane n f c) := fun f => h
  unfold laneBytes
  split
  · exact (counted _).carried
  unfold receiveCell
  split
  · exact (counted _).carried
  · exact (counted _).carried
  · exact carried_controlCell _ _ (counted _)
  · exact (filed_referenceCell _ (counted _)).carried
  · exact (filed_steerCell _ _ _ (counted _)).carried

/-! ## A step -/

theorem carried_exec {i : Instr} {s t : State} (row : exec i s = .next t) (h : Filed b [] s.chip) : Carried b t.chip := by
  have command : encodeParams i ≠ none → Carried b t.chip := fun hi => by
    rw [VanFabric.exec_command hi] at row
    cases row
    exact carried_runCommand i h
  cases i with
  | powerOnReset straps => cases row; exact carried_powerOnPart straps _ _
  | cellArrival n bytes => cases row; exact carried_laneBytes n bytes h
  | referenceLoss => cases row; exact (filed_expiryIn _ h).carried
  | freeRunBoundary => cases row; exact (filed_expiryIn _ h).carried
  | blockTick => cases row; exact (filed_runClock _ h).carried
  | audioInputLost i => cases row; exact (filed_audioInputLost i h).carried
  | pictureDeadline k n => cases row; exact (filed_deadlinePasses k n h).carried
  | ackWindowExpiry n => cases row; exact (filed_ackExpiry n h).carried
  | hailAnswerWindowExpiry => cases row; exact (filed_windowExpiry h).carried
  | hailRetryGapExpiry => cases row; exact (filed_gapExpiry h).carried
  | silenceExpiry => cases row; exact (filed_silenceRunsOut h).carried
  | drainLimitExpiry => cases row; exact (filed_drainExpiry h).carried
  | codingCompletion coded => cases row; exact (filed_codingDone coded h).carried
  | returnMessageArrival bytes => cases row; exact (filed_returnMessage bytes h).carried
  | foSendCompletion => cases row; exact (filed_foSent h).carried
  | _ => exact command (Option.some_ne_none _)

theorem carried_step {s t : State} (row : step s = .next t) (ok : ClipsOk s.chip) : Carried s.chip t.chip := by
  have start := filed_refl ok
  obtain ⟨c, pending⟩ := s
  cases pending with
  | nil =>
    rw [step_idle] at row
    cases row
    exact (filed_sampleStep start).carried
  | cons i rest => exact carried_exec (s := ⟨c, rest⟩) row start

/-- Settles O57: a step changes the clip log one entry at a time, and with an entry's state the one list that names it, but
for a unit reset and CLEAR_CLIPS, which leave nothing that a list would name. -/
theorem stepsKeepClipsAndLabels : Obligations.StepsKeepClipsAndLabels := by
  unfold Obligations.StepsKeepClipsAndLabels
  intro s t row clips labels
  have carried := carried_step row clips
  exact ⟨(clipsOk_iff t.chip).mpr carried.table, carried.labels labels⟩

end Sys2Proof.ClipTable

end


section
/-! The resolution of a picture (R151 to R153, R156): what it counts, the context's low-water number, its hand-over to
the clip log (R168, R169) and its entry in the send-event log. -/

namespace Sys2Proof.Delivery

open Sys2Proof.Machine Sys2Proof.Claims

variable {c : Chip} {k : Ctx} {x : Clip}

/-! ## The serially first of the unresolved numbers (section 0.6.3, R152) -/

theorem serialBefore_asymm {a b : PicNum} (h : serialBefore a b = true) : serialBefore b a = false := by
  simp only [serialBefore, Bool.and_eq_true, decide_eq_true_eq, Bool.and_eq_false_iff, decide_eq_false_iff_not,
    BitVec.toNat_sub] at h ⊢
  omega

/-- A number that every number of the list is or comes after. -/
def SeriallyFirst (m : PicNum) (held : List PicNum) : Prop := ∀ x ∈ held, x = m ∨ serialBefore m x = true

/-- The search keeps the serially first number once it holds it, and takes it up when it comes to it. -/
theorem serialLeast_eq {m x : PicNum} {xs : List PicNum} (mem : m ∈ x :: xs) (first : SeriallyFirst m (x :: xs)) :
    serialLeast x xs = m := by
  induction xs generalizing x with
  | nil => exact (List.mem_singleton.mp mem).symm
  | cons y ys ih =>
    show serialLeast (if serialBefore y x then y else x) ys = m
    have firstX := first x (.head _)
    have firstY := first y (.tail _ (.head _))
    have later : ∀ z ∈ ys, z = m ∨ serialBefore m z = true := fun z hz => first z (.tail _ (.tail _ hz))
    split
    · rename_i before
      refine ih ?_ (List.forall_mem_cons.mpr ⟨firstY, later⟩)
      obtain _ | ⟨_, rest⟩ := mem
      · obtain rfl | after := firstY
        · exact .head _
        · rw [serialBefore_asymm after] at before
          cases before
      · exact rest
    · rename_i before
      refine ih ?_ (List.forall_mem_cons.mpr ⟨firstX, later⟩)
      obtain _ | ⟨_, _ | ⟨_, rest⟩⟩ := mem
      · exact .head _
      · obtain rfl | after := firstX
        · exact .head _
        · exact absurd after before
      · exact .tail _ rest

/-- R152: the unresolved numbers as one list after another. -/
theorem unresolved_eq (k : Ctx) (c : Chip) : unresolved k c =
    c.sched.videoQueue[k].map (fun r => r.picture.number)
      ++ (c.engine.op.toList.filter (fun r => r.picture.ctx == k)).map (fun r => r.picture.number)
      ++ c.ctx[k].ready.toList.map (fun r => r.picture.number)
      ++ c.ctx[k].gathering.toList.map (fun g => g.picture.number) := by
  unfold unresolved
  congr 1
  · congr 1
    · congr 1
      cases c.engine.op with
      | none => rfl
      | some o => by_cases own : o.picture.ctx = k <;> simp [own]
    · cases c.ctx[k].ready <;> rfl
  · cases c.ctx[k].gathering <;> rfl

theorem lowWaterOf_resolved (resolved : unresolved k c = []) : lowWaterOf k c = c.ctx[k].nextNumber := by
  rw [lowWaterOf, resolved]

theorem lowWaterOf_first {m : PicNum} (mem : m ∈ unresolved k c) (first : SeriallyFirst m (unresolved k c)) :
    lowWaterOf k c = m := by
  unfold lowWaterOf
  split
  · rename_i resolved
    rw [resolved] at mem
    cases mem
  · rename_i held
    rw [held] at mem first
    exact serialLeast_eq mem first

/-! ## The clips' marks (R168, R169) -/

/-- R168: a clip after the loss of a picture of a context. -/
def gapMarked (k : Ctx) (n : PicNum) (x : Clip) : Clip := if newGap k n x then { x with gap := true } else x

/-- R169: a clip judged at a context's low-water number. -/
def doneMarked (k : Ctx) (lw : PicNum) (x : Clip) : Clip :=
  if newDone k lw x then
    { x with done := some true, state := if x.state = .labelled then .delivered else x.state }
  else x

/-- R168, R169: a clip after a resolution. -/
def clipTaken (k : Ctx) (n : PicNum) (bad : Bool) (lw : PicNum) (x : Clip) : Clip :=
  doneMarked k lw (if bad then gapMarked k n x else x)

theorem gapStep_entry (k : Ctx) (n : PicNum) (c : Chip) (i : Fin 128) :
    (gapStep k n c).clips.table[i] = c.clips.table[i].map (gapMarked k n) := by
  refine (mapAll_get _ _ i).trans ?_
  cases c.clips.table[i] <;> rfl

theorem doneStep_entry (k : Ctx) (lw : PicNum) (c : Chip) (i : Fin 128) :
    (doneStep k lw c).clips.table[i] = c.clips.table[i].map (doneMarked k lw) := by
  have table : (doneStep k lw c).clips.table = mapAll (·.map (doneMarked k lw)) c.clips.table := by
    unfold doneStep countDelivered
    rw [setAttentionIf_clips]
    refine congrArg (mapAll · _) (funext fun e => ?_)
    cases e <;> rfl
  rw [table, mapAll_get]

theorem clipsTakePicture_entry (k : Ctx) (n : PicNum) (bad : Bool) (lw : PicNum) (c : Chip) (i : Fin 128) :
    (clipsTakePicture k n bad lw c).clips.table[i] = c.clips.table[i].map (clipTaken k n bad lw) := by
  rw [clipsTakePicture, doneStep_entry]
  cases bad
  · rfl
  · rw [if_pos rfl, gapStep_entry, Option.map_map]
    rfl

theorem takesGap_iff {st : ClipState} : takesGap st = true ↔ st ≠ .delivered ∧ st ≠ .void := by
  cases st <;> decide

theorem awaitsPictures_iff {st : ClipState} : awaitsPictures st = true ↔
    st = .closed ∨ st = .queued ∨ st = .awaiting ∨ st = .labelled := by
  cases st <;> decide

theorem spanHas_iff {n : PicNum} : spanHas x n = true ↔ serialBefore n x.inPicture = false ∧
    ∀ last, x.outPicture = some last → serialBefore last n = false := by
  rw [spanHas, Bool.and_eq_true, Bool.not_eq_true']
  refine and_congr_right fun _ => ?_
  cases x.outPicture <;> simp

theorem newDone_iff {lw : PicNum} : newDone k lw x = true ↔ x.ctx = k ∧ x.done = some false ∧
    (x.state = .closed ∨ x.state = .queued ∨ x.state = .awaiting ∨ x.state = .labelled) ∧
    ∃ last, x.outPicture = some last ∧ serialBefore last lw = true := by
  rw [← awaitsPictures_iff, newDone]
  cases out : x.outPicture with
  | none => simp
  | some last => simp [and_assoc, and_left_comm]

/-- The mark GAP alone is set, and it stays where it was set. -/
theorem gapMarked_gap {n : PicNum} : (gapMarked k n x).gap = true ↔ x.gap = true ∨
    x.ctx = k ∧ takesGap x.state = true ∧ x.empty = false ∧ spanHas x n = true := by
  unfold gapMarked
  split
  · rename_i marks
    obtain ⟨ctx, takes, held, span, -⟩ := (newGap_iff k n x).mp marks
    exact iff_of_true rfl (.inr ⟨ctx, takes, held, span⟩)
  · rename_i unmarked
    refine ⟨.inl, fun h => h.elim id fun ⟨ctx, takes, held, span⟩ => ?_⟩
    by_contra clear
    exact unmarked ((newGap_iff k n x).mpr ⟨ctx, takes, held, span, Bool.eq_false_iff.mpr clear⟩)

theorem gapMarked_else (k : Ctx) (n : PicNum) (x : Clip) :
    gapMarked k n x = { x with gap := (gapMarked k n x).gap } := by
  unfold gapMarked
  split <;> rfl

/-- A judgement sees nothing of the mark GAP and leaves it alone, so the two marks are made apart. -/
theorem doneMarked_gap (k : Ctx) (lw : PicNum) (x : Clip) (g : Bool) :
    doneMarked k lw { x with gap := g } = { doneMarked k lw x with gap := g } := by
  have same : newDone k lw { x with gap := g } = newDone k lw x := rfl
  unfold doneMarked
  rw [same]
  split <;> rfl

theorem clipTaken_eq (k : Ctx) (n : PicNum) (bad : Bool) (lw : PicNum) (x : Clip) : clipTaken k n bad lw x =
    { doneMarked k lw x with gap := if bad then (gapMarked k n x).gap else x.gap } := by
  rw [clipTaken, ← doneMarked_gap]
  congr 1
  cases bad
  · rfl
  · exact gapMarked_else k n x

theorem clipTaken_gap {n lw : PicNum} {bad : Bool} : (clipTaken k n bad lw x).gap = true ↔ x.gap = true ∨
    bad = true ∧ x.ctx = k ∧ takesGap x.state = true ∧ x.empty = false ∧ spanHas x n = true := by
  rw [clipTaken_eq]
  cases bad
  · simp
  · simpa using gapMarked_gap

theorem clipTaken_done {n lw : PicNum} {bad : Bool} (done : newDone k lw x = true) :
    (clipTaken k n bad lw x).done = some true ∧
      (clipTaken k n bad lw x).state = if x.state = .labelled then .delivered else x.state := by
  rw [clipTaken_eq, doneMarked, if_pos done]
  exact ⟨rfl, rfl⟩

theorem clipTaken_notDone {n lw : PicNum} {bad : Bool} (done : ¬newDone k lw x = true) :
    (clipTaken k n bad lw x).done = x.done ∧ (clipTaken k n bad lw x).state = x.state := by
  rw [clipTaken_eq, doneMarked, if_neg done]
  exact ⟨rfl, rfl⟩

theorem clipTaken_else (k : Ctx) (n : PicNum) (bad : Bool) (lw : PicNum) (x : Clip) : clipTaken k n bad lw x =
    { x with gap := (clipTaken k n bad lw x).gap, done := (clipTaken k n bad lw x).done,
             state := (clipTaken k n bad lw x).state } := by
  rw [clipTaken_eq, doneMarked]
  split <;> rfl

/-! ## The resolution step by step (R151, R153) -/

theorem isLoss_iff {o : PicOutcome} : isLoss o = true ↔ o ≠ .delivered := by
  cases o <;> simp [isLoss]

theorem logsOutcome_iff {m : LogMode} {o : PicOutcome} :
    logsOutcome m o = true ↔ m = .all ∨ (m = .trouble ∧ o ≠ .delivered) := by
  cases m <;> cases o <;> simp [logsOutcome]

theorem countOutcome_shed (r : ShedReason) (x : Outcomes) : countOutcome (.shed r) x =
    { x with shed := bump x.shed, late := bumpIf (decide (r = .late)) x.late } := by
  cases r <;> rfl

/-- R151: a resolution but for its entry in the log: counted, told, the low-water number set, the clips marked. -/
def handedOver (p : Picture) (o : PicOutcome) (c : Chip) : Chip :=
  clipsTakePicture p.ctx p.number (isLoss o) (lowWaterOf p.ctx c) (setLowWater p.ctx (setAttention (outcomeAttention o)
    { c with acct := { c.acct with outcomes := modAt c.acct.outcomes p.ctx (countOutcome o) } }))

/-- The unresolved numbers are the records' alone, which what a resolution has done by then leaves as they were. -/
theorem lowWaterOf_noted (k : Ctx) (as : List AttClass) (a : Accounting) (c : Chip) :
    lowWaterOf k (setAttention as { c with acct := a }) = lowWaterOf k c := by
  simp only [lowWaterOf, unresolved, setAttention_sched, setAttention_engine, setAttention_ctx]

theorem handedOver_acct (p : Picture) (o : PicOutcome) (c : Chip) : (handedOver p o c).acct = { c.acct with
    outcomes := modAt c.acct.outcomes p.ctx (countOutcome o),
    lowWater := setAt c.acct.lowWater p.ctx (lowWaterOf p.ctx c) } := by
  rw [handedOver, CodingRoom.clipsTakePicture_acct, setLowWater, lowWaterOf_noted, setAttention_acct]

theorem handedOver_entry (p : Picture) (o : PicOutcome) (c : Chip) (i : Fin 128) :
    (handedOver p o c).clips.table[i] =
      c.clips.table[i].map (clipTaken p.ctx p.number (isLoss o) (lowWaterOf p.ctx c)) := by
  have table : ∀ as d, (setLowWater p.ctx (setAttention as d)).clips = d.clips := fun as d => setAttention_clips as d
  rw [handedOver, clipsTakePicture_entry, table]

/-- R153: the entry is written as the context's log mode asks. -/
theorem resolve_eq (p : Picture) (q : Option Nat) (sends : Nat) (o : PicOutcome) (c : Chip) : resolve p q sends o c =
    if logsOutcome c.rate[p.ctx].settings.logMode o then
      writeLog (.picture o p q c.time.ms sends) (handedOver p o c)
    else handedOver p o c := by
  have lowWater : ∀ d : Chip, (setLowWater p.ctx d).acct.lowWater[p.ctx] = lowWaterOf p.ctx d := fun d =>
    setAt_get_same _ _ _
  have handed : ∀ d : Chip, d = handedOver p o c → d.rate = c.rate ∧ d.time = c.time := by
    rintro _ rfl
    rw [handedOver, clipsTakePicture_frame]
    exact ⟨setAttention_rate .., setAttention_time ..⟩
  unfold resolve
  dsimp only
  rw [lowWater, lowWaterOf_noted, ← handedOver, (handed _ rfl).1, (handed _ rfl).2]

theorem writeLog_room {e : LogEntry} (room : c.acct.log.length < 32) : writeLog e c = { c with acct := { c.acct with
    log := c.acct.log ++ [e], entriesWritten := bump c.acct.entriesWritten } } := if_pos room

theorem writeLog_full {e : LogEntry} (full : 32 ≤ c.acct.log.length) : writeLog e c = setAttention [.logFull]
    { c with acct := { c.acct with logFullRefusals := bump c.acct.logFullRefusals } } := if_neg (Nat.not_lt.mpr full)

theorem writeLog_lowWater (e : LogEntry) (c : Chip) : (writeLog e c).acct.lowWater = c.acct.lowWater := by
  unfold writeLog
  split
  · rfl
  · rw [setAttention_acct]

theorem resolve_lowWater (p : Picture) (q : Option Nat) (sends : Nat) (o : PicOutcome) (c : Chip) :
    (resolve p q sends o c).acct.lowWater = setAt c.acct.lowWater p.ctx (lowWaterOf p.ctx c) := by
  rw [resolve_eq]
  split
  · rw [writeLog_lowWater, handedOver_acct]
  · rw [handedOver_acct]

theorem resolve_entry (p : Picture) (q : Option Nat) (sends : Nat) (o : PicOutcome) (c : Chip) (i : Fin 128) :
    (resolve p q sends o c).clips.table[i] =
      c.clips.table[i].map (clipTaken p.ctx p.number (isLoss o) (lowWaterOf p.ctx c)) := by
  rw [resolve_eq]
  split
  · rw [writeLog_frame, handedOver_entry]
  · exact handedOver_entry p o c i

/-- Settles O46: the outcomes, the low-water number and the log from the resolution's own equation, and the clips one
entry of the table at a time. -/
theorem resolutionIsCountedLoggedAndHandedOver : Obligations.ResolutionIsCountedLoggedAndHandedOver := by
  unfold Obligations.ResolutionIsCountedLoggedAndHandedOver
  intro p q sends o c d k old held asked
  have heldEq : unresolved k c = held := unresolved_eq k c
  have here : d.acct.lowWater[k] = lowWaterOf k c := by
    rw [show d.acct.lowWater = _ from resolve_lowWater p q sends o c]
    exact setAt_get_same _ _ _
  have outcomes : d.acct.outcomes = modAt c.acct.outcomes k (countOutcome o) :=
    CodingRoom.resolve_outcomes p q sends o c
  have asks : asked ↔ logsOutcome c.rate[k].settings.logMode o = true := logsOutcome_iff.symm
  have log : (handedOver p o c).acct.log = c.acct.log := by rw [handedOver_acct]
  have logged : asked → d = writeLog (.picture o p q c.time.ms sends) (handedOver p o c) := fun yes =>
    (resolve_eq p q sends o c).trans (if_pos (asks.mp yes))
  refine ⟨?_, ?_, ?_, fun resolved => ?_, fun m mem first => ?_, fun j other => ⟨?_, ?_⟩, fun yes room => ?_,
    fun yes full => ?_, fun no => ?_, fun i x entry => ?_, fun i free => ?_, ?_⟩
  · rw [outcomes, modAt_get_same]
    cases o with
    | delivered => rfl
    | lost => rfl
    | shed r => exact countOutcome_shed r _
  · rintro r rfl
    exact CodingRoom.attHas_resolve (.head _)
  · rintro rfl
    exact CodingRoom.attHas_resolve (.head _)
  · rw [here, lowWaterOf_resolved (heldEq.trans resolved)]
  · rw [here, lowWaterOf_first (heldEq ▸ mem) (heldEq ▸ first)]
  · rw [show d.acct.lowWater = _ from resolve_lowWater p q sends o c]
    exact setAt_get_other _ _ other
  · rw [outcomes, modAt_get_other _ _ other]
  · rw [logged yes, writeLog_room (log ▸ room), handedOver_acct]
    exact ⟨rfl, rfl⟩
  · rw [logged yes, writeLog_full (log ▸ full), setAttention_acct, handedOver_acct]
    exact ⟨rfl, rfl, (Clockwork.attHas_setAttention ..).mpr (.inr (.head _))⟩
  · rw [show d = _ from resolve_eq p q sends o c, if_neg (mt asks.mpr no), log]
  · intro spans marked done
    have doneIff : done ↔ newDone k (lowWaterOf k c) x = true := by rw [newDone_iff, ← here]
    have markedIff : marked ↔ isLoss o = true ∧ x.ctx = k ∧ takesGap x.state = true ∧ x.empty = false ∧
        spanHas x p.number = true := by
      rw [isLoss_iff, takesGap_iff, spanHas_iff, and_assoc]
    refine ⟨clipTaken k p.number (isLoss o) (lowWaterOf k c) x, ?_, clipTaken_gap.trans (or_congr_right markedIff.symm),
      fun h => clipTaken_done (doneIff.mp h), fun h => clipTaken_notDone (mt doneIff.mpr h), clipTaken_else ..⟩
    rw [show d.clips.table[i] = _ from resolve_entry p q sends o c i, entry]
    rfl
  · rw [show d.clips.table[i] = _ from resolve_entry p q sends o c i, free]
    rfl
  · exact ⟨resolve_sched .., resolve_engine .., resolve_ctx .., resolve_rate .., resolve_sel .., resolve_link ..,
      resolve_time .., resolve_mixer .., resolve_budget .., resolve_steer .., resolve_lanes .., resolve_ht ..,
      resolve_unit ..⟩

end Sys2Proof.Delivery
end


section
/-! The answers that read the part: READ_LOG (R155), READ_CLIP (R173) and READ_STATUS (R181), each as the fields it
lists. -/

namespace Sys2Proof.Readings

open Sys2Proof.Machine Sys2Proof.Claims

/-! ## Fields in bytes (R185, R188) -/

@[simp] theorem fields_nil : fields [] = [] := rfl

@[simp] theorem fields_cons (f : Nat × Nat) (l : List (Nat × Nat)) : fields (f :: l) = sized f.1 f.2 ++ fields l := rfl

@[simp] theorem fields_append (l l' : List (Nat × Nat)) : fields (l ++ l') = fields l ++ fields l' :=
  List.flatMap_append

@[simp] theorem fields_flatMap {α : Type} (f : α → List (Nat × Nat)) (l : List α) :
    fields (l.flatMap f) = l.flatMap (fun a => fields (f a)) := List.flatMap_assoc

@[simp] theorem fields_map {α : Type} (f : α → Nat × Nat) (l : List α) :
    fields (l.map f) = l.flatMap (fun a => sized (f a).1 (f a).2) := List.flatMap_map ..

@[simp] theorem sized_one (n : Nat) : sized 1 n = [num8 n] := rfl
@[simp] theorem sized_two (n : Nat) : sized 2 n = num16 n := rfl
@[simp] theorem sized_three (n : Nat) : sized 3 n = be24 (BitVec.ofNat 24 n) := rfl
@[simp] theorem sized_four (n : Nat) : sized 4 n = num32 n := rfl

@[simp] theorem num8_byte (b : Byte) : num8 b.toNat = b := by simp [num8]
@[simp] theorem num16_word (x : BitVec 16) : num16 x.toNat = be16 x := by simp [num16]
@[simp] theorem num32_word (x : BitVec 32) : num32 x.toNat = be32 x := by simp [num32]
@[simp] theorem num16_stream (x : Stream) : num16 x.toNat = be16 (x.zeroExtend 16) := (HomeLink.stream_bytes x).symm

@[simp] theorem fields_counts (l : List Counter) : fields (counts l) = counters l := by
  simp [counts, counters]

theorem counters_append (l l' : List Counter) : counters (l ++ l') = counters l ++ counters l' := List.flatMap_append

@[simp] theorem sized_bit (b : Bool) : sized (bit b).1 (bit b).2 = [flag8 b] := by
  cases b <;> rfl

@[simp] theorem sized_choice (k : Option Ctx) : sized (choice k).1 (choice k).2 = [choiceByte k] := by
  cases k <;> rfl

@[simp] theorem fields_timecode (t : Timecode) : fields (timecodeFields t) = timecodeBytes t := rfl

@[simp] theorem fields_zeros (n : Nat) : fields (List.replicate n (1, 0)) = zeros n := by
  induction n with
  | zero => rfl
  | succ n ih => rw [List.replicate_succ, fields_cons, ih]; rfl

@[simp] theorem optBytes_none (n : Nat) : optBytes n none = zeros (n + 1) := rfl
@[simp] theorem optBytes_some (n : Nat) (bs : List Byte) : optBytes n (some bs) = 1#8 :: bs := rfl

@[simp] theorem fields_ifPresent_none (n : Nat) : fields (ifPresent n none) = zeros (n + 1) := fields_zeros (n + 1)
@[simp] theorem fields_ifPresent_some (n : Nat) (l : List (Nat × Nat)) :
    fields (ifPresent n (some l)) = 1#8 :: fields l := rfl

/-- R185: an optional part, in one form for its bytes and its fields. -/
@[simp] theorem optBytes_map {α : Type} (n : Nat) (f : α → List Byte) (o : Option α) :
    optBytes n (o.map f) = o.elim (zeros (n + 1)) (fun a => 1#8 :: f a) := by
  cases o <;> rfl

@[simp] theorem fields_ifPresent_map {α : Type} (n : Nat) (f : α → List (Nat × Nat)) (o : Option α) :
    fields (ifPresent n (o.map f)) = o.elim (zeros (n + 1)) (fun a => 1#8 :: fields (f a)) := by
  cases o with
  | none => exact fields_zeros (n + 1)
  | some a => rfl

@[simp] theorem flatMap_one {α β : Type} (f : α → β) (l : List α) : l.flatMap (fun a => [f a]) = l.map f :=
  List.map_eq_flatMap.symm

/-! ## READ_LOG (R155) -/

theorem logEntryBytes_eq (e : LogEntry) : logEntryBytes e = fields (logFields e) := by
  cases e with
  | picture o p q ms sends =>
    cases o with
    | delivered => simp [logEntryBytes, logFields, outcomeByte, reasonOf, num8, zeros]
    | lost => simp [logEntryBytes, logFields, outcomeByte, reasonOf, num8, zeros]
    | shed r => cases r <;> simp [logEntryBytes, logFields, outcomeByte, reasonOf, reasonByte, num8, zeros]
  | label delivered i id version tc ms sends =>
    cases delivered <;> simp [logEntryBytes, logFields, num8, zeros]

theorem optBytes_length {n : Nat} {o : Option (List Byte)} (length : ∀ bs ∈ o, bs.length = n) :
    (optBytes n o).length = n + 1 := by
  cases o with
  | none => simp [optBytes, zeros]
  | some bs => simp [optBytes, length bs rfl]

theorem logEntryBytes_length (e : LogEntry) : (logEntryBytes e).length = 23 := by
  cases e with
  | picture o p q ms sends =>
    have q1 : (optBytes 1 (q.map (fun x => [num8 x]))).length = 2 := optBytes_length (by simp)
    have r1 : (optBytes 1 ((reasonOf o).map (fun r => [reasonByte r]))).length = 2 := optBytes_length (by simp)
    simp [-optBytes_map, logEntryBytes, timecodeBytes, zeros, q1, r1]
  | label delivered i id version tc ms sends => simp [logEntryBytes, timecodeBytes, zeros]

/-- Entries of one size after another: what stands from a place on is the entries from that one on. -/
theorem drop_flatMap {α β : Type} {f : α → List β} {n : Nat} (size : ∀ a, (f a).length = n) (l : List α)
    (rest : List β) (j : Nat) :
    (l.flatMap f ++ rest).drop (n * j) = (l.drop j).flatMap f ++ rest.drop (n * (j - l.length)) := by
  induction l generalizing j with
  | nil => simp
  | cons a l ih =>
    cases j with
    | zero => simp
    | succ j =>
      have step : n * (j + 1) = (f a).length + n * j := by rw [size, Nat.mul_succ, Nat.add_comm]
      rw [step, List.flatMap_cons, List.append_assoc, List.drop_length_add_append, ih, List.drop_succ_cons,
        List.length_cons, Nat.add_sub_add_right]

/-- R155: the four places of a READ_LOG answer. -/
def logPlaces (log : List LogEntry) : List Byte := ((log.take 4).flatMap logEntryBytes ++ zeros 92).take 92

theorem logPlaces_length (log : List LogEntry) : (logPlaces log).length = 92 := by
  simp [logPlaces, zeros]

theorem logPlaces_place (log : List LogEntry) {j : Nat} (within : j < 4) :
    ((logPlaces log).drop (23 * j)).take 23 = (log[j]?).elim (zeros 23) logEntryBytes := by
  have inside : min 23 (92 - 23 * j) = 23 := by omega
  rw [logPlaces, List.drop_take, List.take_take, inside, drop_flatMap logEntryBytes_length,
    ← List.getElem?_take_of_lt within]
  cases found : (log.take 4)[j]? with
  | none =>
    have past : (log.take 4).length ≤ j := List.getElem?_eq_none_iff.mp found
    rw [List.drop_eq_nil_of_le past]
    have left : min 23 (92 - 23 * (j - (log.take 4).length)) = 23 := by omega
    simp only [zeros, List.flatMap_nil, List.nil_append, List.drop_replicate, List.take_replicate, left, Option.elim]
  | some e =>
    obtain ⟨bound, rfl⟩ := List.getElem?_eq_some_iff.mp found
    rw [List.drop_eq_getElem_cons bound, List.flatMap_cons, List.append_assoc]
    exact List.take_left' (logEntryBytes_length _)

theorem readLog_held {c : Chip} (held : c.acct.log ≠ []) : readLog c =
    ({ c with acct := { c.acct with log := c.acct.log.drop 4 } },
     ⟨.done, BitVec.ofNat 8 (min 4 c.acct.log.length) :: logPlaces c.acct.log⟩) := by
  rw [readLog, if_neg (mt List.isEmpty_iff.mp held), ← List.length_take]
  rfl

theorem readLog_empty {c : Chip} (empty : c.acct.log = []) : readLog c = refuse .refusedEmpty c := by
  rw [readLog, if_pos (List.isEmpty_iff.mpr empty)]

/-! ## READ_CLIP (R173) -/

theorem clipFlags_eq (x : Clip) :
    flag8 x.auto ||| (flag8 x.gap <<< 1) ||| (flag8 x.empty <<< 2) ||| (flag8 x.labelLost <<< 3)
      = num8 ((if x.auto then 1 else 0) + (if x.gap then 2 else 0) + (if x.empty then 4 else 0)
          + (if x.labelLost then 8 else 0)) := by
  cases x.auto <;> cases x.gap <;> cases x.empty <;> cases x.labelLost <;> rfl

theorem clipStateByte_eq (st : ClipState) : clipStateByte st = num8 (clipStateCode st) := by
  cases st <;> rfl

theorem clipBytes_eq (i : Nat) (x : Clip) : clipBytes i (some x) = fields (clipFields i x) := by
  simp [clipBytes, clipFields, clipStateByte_eq, clipFlags_eq]

theorem readClip_past {index : Byte} (past : 127 < index.toNat) (c : Chip) :
    readClip index c = refuse .refusedRange c := if_pos past

theorem readClip_within {index : Byte} {i : Fin 128} (number : i.val = index.toNat) (c : Chip) :
    readClip index c = (c, ⟨.done, clipBytes i.val c.clips.table[i]⟩) := by
  have within : ¬127 < index.toNat := by omega
  rw [readClip, if_neg within, ← number, ClipTable.clipAt_fin]

/-! ## READ_STATUS (R181) -/

section
variable {c : Chip} (n : Nat)

theorem laneStatus_eq {l : Lane} (named : c.lanes[n]? = some l) : laneStatus l = fields (statusLow 0 n c) := by
  simp [laneStatus, statusLow, named]

theorem outStatus_eq : outStatus c.out = fields (statusLow 1 n c) := by
  simp [outStatus, statusLow]

theorem timeStatus_eq : timeStatus c.time = fields (statusLow 2 n c) := by
  cases state : c.time.state <;> simp [timeStatus, statusLow, state, timebaseStateByte, num8]

theorem steerStatus_eq : steerStatus c.steer = fields (statusLow 3 n c) := by
  cases action : c.steer.default <;>
    simp [steerStatus, statusLow, action, steerDefaultByte, noteBytes, num8]

theorem ctxStatus_eq {x : Context} {r : RateState} (ctx : c.ctx[n]? = some x) (rate : c.rate[n]? = some r) :
    ctxStatus x r.settings.marker = fields (statusLow 4 n c) := by
  cases state : x.state <;>
    simp [ctxStatus, statusLow, ctx, rate, state, ctxStateByte, gatheringBytes, readyBytes, num8]

theorem engineStatus_eq : engineStatus c.engine = fields (statusLow 5 n c) := by
  simp [engineStatus, statusLow]

theorem budgetStatus_eq : budgetStatus c.budget = fields (statusMiddle 6 n c) := by
  simp [budgetStatus, statusMiddle, counters]

theorem rateStatus_eq {r : RateState} (named : c.rate[n]? = some r) : rateStatus r = fields (statusMiddle 7 n c) := by
  cases mode : r.settings.logMode <;>
    simp [rateStatus, statusMiddle, named, settingsBytes, mode, logModeByte, num8]

theorem inputStatus_eq {x : Input} (named : c.mixer.inputs[n]? = some x) :
    inputStatus x = fields (statusMiddle 8 n c) := by
  simp [inputStatus, statusMiddle, named, linkBytes]

theorem mixerStatus_eq : mixerStatus c.mixer = fields (statusMiddle 9 n c) := by
  simp [mixerStatus, statusMiddle, allBuses, busBytes, counters_append]

theorem selStatus_eq : selStatus c.sel = fields (statusMiddle 10 n c) := by
  cases op : c.sel.pendingOp <;> simp [selStatus, statusMiddle, op, pendingOpBytes, num8]

theorem linkStatus_eq : linkStatus c.link = fields (statusHigh 11 c) := by
  rcases phase : c.link.phase with _ | _ | _ <;> cases state : c.link.state <;>
    simp [linkStatus, statusHigh, phase, state, phaseByte, linkStateByte, planningCapacity, creditRate, num8]

/-- The contexts' part is written for a context, so that the equation of one applies to all. -/
theorem schedStatus_eq : schedStatus c = fields (statusHigh 12 c) := by
  have contexts : schedCtxBytes c = fun k => schedCtxBytes c k := rfl
  simp [schedStatus, statusHigh, contexts, schedCtxBytes, headPicture, unsent]

theorem acctStatus_eq : acctStatus c.acct = fields (statusHigh 13 c) := by
  simp [acctStatus, statusHigh]

/-- R173: the four places of the mark stack. -/
theorem fields_marks (l : List Nat) :
    fields ((l.map (fun i => (1, i)) ++ List.replicate 4 (1, 0)).take 4) = (l.map num8 ++ zeros 4).take 4 := by
  have filled : List.replicate 4 (1, 0) = (List.replicate 4 0).map (fun i : Nat => (1, i)) := rfl
  have zeroed : zeros 4 = (List.replicate 4 0).map num8 := rfl
  rw [filled, zeroed, ← List.map_append, ← List.map_append, ← List.map_take, ← List.map_take, fields_map]
  exact flatMap_one ..

theorem clipStatus_eq : clipStatus c.clips = fields (statusHigh 14 c) := by
  simp only [clipStatus, statusHigh, fields_append, fields_marks]
  simp

theorem portStatus_eq : portStatus c.unit c.port = fields (statusHigh 15 c) := by
  cases mode : c.port.mode <;> simp [portStatus, statusHigh, mode, modeByte, num8]

end

theorem laneOf_some {b : Byte} {l : LaneNo} : laneOf b = some l ↔ b.toNat = l.val := by
  unfold laneOf
  split
  · simp [Fin.ext_iff]
  · have := l.isLt
    simp
    omega

theorem laneOf_none {b : Byte} : laneOf b = none ↔ 7 < b.toNat := by
  unfold laneOf
  split <;> simp <;> omega

/-- R181: the blocks and indices that name something. -/
def Named (block index : Nat) : Prop :=
  block ≤ 15 ∧ (block = 0 → index ≤ 7) ∧ (block = 4 ∨ block = 7 → index ≤ 5) ∧ (block = 8 → index ≤ 15)

/-- The fields of a block, by its number. -/
def statusFields (block index : Nat) (c : Chip) : List (Nat × Nat) :=
  if block ≤ 5 then statusLow block index c
  else if block ≤ 10 then statusMiddle block index c
  else statusHigh block c

theorem statusData_unnamed {block index : Byte} (unnamed : ¬Named block.toNat index.toNat) (c : Chip) :
    statusData block index c = none := by
  unfold Named at unnamed
  unfold statusData
  split
  case h_1 lane => rw [laneOf_none.mpr (by omega), Option.map_none]
  case h_5 ctx => rw [ctxOf_none.mpr (by omega), Option.map_none]
  case h_8 ctx => rw [ctxOf_none.mpr (by omega), Option.map_none]
  case h_9 input => rw [inputOf_none.mpr (by omega), Option.map_none]
  case h_17 => rfl
  all_goals omega

theorem statusData_named {block index : Byte} (named : Named block.toNat index.toNat) (c : Chip) :
    statusData block index c = some (fields (statusFields block.toNat index.toNat c)) := by
  obtain ⟨last, lane, ctx, input⟩ := named
  unfold statusData
  generalize block.toNat = b at *
  interval_cases b
  · obtain ⟨l, number⟩ : ∃ l : LaneNo, index.toNat = l.val := ⟨⟨_, Nat.lt_succ_of_le (lane rfl)⟩, rfl⟩
    rw [laneOf_some.mpr number, number]
    exact congrArg some (laneStatus_eq _ (Vector.getElem?_eq_getElem _))
  · exact congrArg some (outStatus_eq index.toNat)
  · exact congrArg some (timeStatus_eq index.toNat)
  · exact congrArg some (steerStatus_eq index.toNat)
  · obtain ⟨k, number⟩ : ∃ k : Ctx, index.toNat = k.val := ⟨⟨_, Nat.lt_succ_of_le (ctx (.inl rfl))⟩, rfl⟩
    rw [ctxOf_some.mpr number, number]
    exact congrArg some (ctxStatus_eq _ (Vector.getElem?_eq_getElem _) (Vector.getElem?_eq_getElem _))
  · exact congrArg some (engineStatus_eq index.toNat)
  · exact congrArg some (budgetStatus_eq index.toNat)
  · obtain ⟨k, number⟩ : ∃ k : Ctx, index.toNat = k.val := ⟨⟨_, Nat.lt_succ_of_le (ctx (.inr rfl))⟩, rfl⟩
    rw [ctxOf_some.mpr number, number]
    exact congrArg some (rateStatus_eq _ (Vector.getElem?_eq_getElem _))
  · obtain ⟨i, number⟩ : ∃ i : InputNo, index.toNat = i.val := ⟨⟨_, Nat.lt_succ_of_le (input rfl)⟩, rfl⟩
    rw [inputOf_some.mpr number, number]
    exact congrArg some (inputStatus_eq _ (Vector.getElem?_eq_getElem _))
  · exact congrArg some (mixerStatus_eq index.toNat)
  · exact congrArg some (selStatus_eq index.toNat)
  · exact congrArg some linkStatus_eq
  · exact congrArg some schedStatus_eq
  · exact congrArg some acctStatus_eq
  · exact congrArg some clipStatus_eq
  · exact congrArg some portStatus_eq

theorem readStatus_named {block index : Byte} (named : Named block.toNat index.toNat) (c : Chip) :
    readStatus block index c = (c, ⟨.done, fields (statusFields block.toNat index.toNat c)⟩) := by
  rw [readStatus, statusData_named named]

theorem readStatus_unnamed {block index : Byte} (unnamed : ¬Named block.toNat index.toNat) (c : Chip) :
    readStatus block index c = refuse .refusedRange c := by
  rw [readStatus, statusData_unnamed unnamed]

/-- Settles O47: the log's places one by one, a clip's fields, and the fields of the sixteen blocks, each block's from
its own equation. -/
theorem readingTheLogClipsAndStatus : Obligations.ReadingTheLogClipsAndStatus := by
  unfold Obligations.ReadingTheLogClipsAndStatus
  refine ⟨fun tag s room => ⟨fun empty => ?_, fun held => ?_⟩, fun tag index block s room =>
    ⟨fun past => ?_, fun i number => ?_, fun unnamed => ?_, fun named => ?_⟩⟩
  · exact Clockwork.answers_of_work room rfl (readLog_empty empty)
  · refine ⟨logPlaces s.chip.acct.log, Clockwork.answers_of_work room rfl (readLog_held held), logPlaces_length _,
      fun j within => ?_⟩
    rw [logPlaces_place _ within]
    cases s.chip.acct.log[j]? with
    | none => rfl
    | some e => exact logEntryBytes_eq e
  · exact Clockwork.answers_of_work room rfl (readClip_past past _)
  · refine ⟨_, Clockwork.answers_of_work room rfl (readClip_within number _), fun free => ?_, fun x held => ?_⟩
    · rw [holdPlace_clips, free]
      rfl
    · rw [holdPlace_clips, held, clipBytes_eq]
  · exact Clockwork.answers_of_work room rfl (readStatus_unnamed unnamed _)
  · exact Clockwork.answers_of_work room rfl (readStatus_named named _)

end Sys2Proof.Readings
end


section
/-! The clip log's commands (R161 to R166, R170 to R172), each as the change of the part that its statement writes out,
and what no step changes below the commit fence (R171). -/

namespace Sys2Proof.ClipCommands

open Sys2Proof.Machine Sys2Proof.Claims Sys2Proof.ClipTable Sys2Proof.Clockwork

variable {c : Chip} {i : Nat} {x : Clip}

/-! ## The commit fence (R171) -/

/-- Settles O58: a step keeps the entries below the fence, or leaves the table cleared. -/
theorem fencedClipsNeverChange : Obligations.FencedClipsNeverChange := by
  unfold Obligations.FencedClipsNeverChange
  intro s t row clips
  obtain ⟨fence, same⟩ | ⟨fence, write, free⟩ := (carried_step row clips).fenced
  · refine .inl ⟨fence, fun i below => ?_⟩
    rw [← clipAt_fin, ← clipAt_fin]
    exact same i below
  · refine .inr ⟨fence, write, fun i => ?_⟩
    rw [← clipAt_fin]
    exact free i

/-! ## Clips opened and closed, and labels offered (R138, R159, R162) -/

theorem labelRoom_iff (s : Scheduler) : labelRoom s = true ↔ s.labelQueue.length < 16 := decide_eq_true_iff

theorem offerLabel_eq (i : Nat) (x : Clip) (c : Chip) : offerLabel i x c = labelOffered i x c := by
  unfold offerLabel joinLabel labelOffered
  simp only [labelRoom_iff]
  split
  · rfl
  · rfl

theorem autoOffer_eq (i : Nat) (x : Clip) (c : Chip) : autoOffer i x c = autoOffered i x c := by
  unfold autoOffer autoOffered
  rw [offerLabel_eq]
  cases c.clips.autoSend with
  | false => rfl
  | true =>
    rw [if_pos rfl, if_neg Bool.true_eq_false_eq_False]
    split
    · rename_i room
      rw [(labelRoom_iff _).mpr room]
      rfl
    · rename_i full
      rw [Bool.eq_false_of_not_eq_true (mt (labelRoom_iff _).mp full)]
      rfl

theorem openClip_eq (k : Ctx) (text : List Byte) (rating : Nat) (auto : Bool) (c : Chip) :
    openClip k text rating auto c = clipOpened k text rating auto c := rfl

theorem closeClip_popMark {rest : List Nat} (stack : c.clips.stack = i :: rest) (x : Clip) :
    closeClip i x (popMark c) = clipClosed i rest x c := by
  unfold closeClip clipClosed popMark
  rw [autoOffer_eq, stack]
  rfl

theorem topClip_nil {l : ClipLog} (stack : l.stack = []) : topClip l = none := by
  rw [topClip, stack]

theorem topClip_cons {l : ClipLog} {rest : List Nat} (stack : l.stack = i :: rest) (held : clipAt l i = some x) :
    topClip l = some (i, x) := by
  rw [topClip, stack]
  exact congrArg (Option.map _) held

/-! ## MARK_IN (R161) -/

theorem doneIf_decide (p : Prop) [Decidable p] :
    doneIf (decide p) = if p then ResultCode.doneClamped else ResultCode.done := by
  simp only [doneIf, decide_eq_true_eq]

theorem not_standby (mode : c.port.mode = .run) : ¬c.port.mode = .standby := by
  rw [mode]
  nofun

section
variable {ctx rating : Byte} {text : List Byte}

theorem clipsFull_iff (l : ClipLog) : clipsFull l = true ↔ 128 ≤ l.write ∨ 4 ≤ l.stack.length := by
  simp [clipsFull]

theorem markIn_standby (mode : c.port.mode = .standby) : markIn ctx text rating c = refuse .refusedState c :=
  if_pos mode

theorem markIn_unnamed (mode : c.port.mode = .run) (unnamed : 5 < ctx.toNat ∨ 32 < text.length) :
    markIn ctx text rating c = refuse .refusedRange c := by
  rw [markIn, if_neg (not_standby mode)]
  cases named : ctxOf ctx with
  | none => rfl
  | some k =>
    have long : 32 < text.length := unnamed.resolve_left fun above => by
      cases named.symm.trans (ctxOf_none.mpr above)
    exact if_pos long

/-- R161: what decides behind the range is whether a clip can be opened, and then the context's state. -/
theorem markIn_named {k : Ctx} (mode : c.port.mode = .run) (number : k.val = ctx.toNat) (fits : text.length ≤ 32) :
    markIn ctx text rating c =
      if clipsFull c.clips then refuse .refusedFull c
      else if c.ctx[k].state ≠ .running then refuse .refusedState c
      else (clipOpened k text (within 0 5 rating.toNat) false { c with clips := { c.clips with
          opened := bump c.clips.opened } },
        ⟨doneIf (5 < rating.toNat), [num8 c.clips.write] ++ be16 c.clips.nextId⟩) := by
  rw [markIn, if_neg (not_standby mode), ctxOf_some.mpr number.symm]
  dsimp only
  rw [if_neg (Nat.not_lt_of_le fits), openClip_eq, BudgetAndRate.clampNat_eq_within (Nat.zero_le 5), doneIf_decide]

end

/-! ## MARK_OUT (R162) -/

theorem flag8_eq (b : Bool) : flag8 b = if b then 1#8 else 0#8 := by cases b <;> rfl

theorem markOut_standby (mode : c.port.mode = .standby) : markOut c = refuse .refusedState c := if_pos mode

theorem markOut_unmarked (mode : c.port.mode = .run) (stack : c.clips.stack = []) :
    markOut c = refuse .refusedEmpty c := by
  rw [markOut, if_neg (not_standby mode), topClip_nil stack]

theorem markOut_marked {rest : List Nat} (mode : c.port.mode = .run) (stack : c.clips.stack = i :: rest)
    (held : clipAt c.clips i = some x) :
    markOut c = (clipClosed i rest x c, ⟨.done, [num8 i, if (closedNow c x).empty then 1#8 else 0#8]⟩) := by
  rw [markOut, if_neg (not_standby mode), topClip_cons stack held]
  dsimp only
  rw [closeClip_popMark stack, flag8_eq]
  rfl

/-- Settles O48: the refusals in the order of their tests; a clip opened is the one the statement writes out, and the
clip on top of the stack is closed once it has been popped. -/
theorem markInOpensAndMarkOutCloses : Obligations.MarkInOpensAndMarkOutCloses := by
  unfold Obligations.MarkInOpensAndMarkOutCloses
  refine ⟨fun tag ctx rating text s room => ?_, fun tag s room => ⟨fun mode => ?_, fun mode stack => ?_,
    fun i rest x mode stack held => ?_⟩⟩
  · refine ⟨fun mode => ?_, fun mode unnamed => ?_, fun mode inRange fits full => ?_, fun mode fits space k number =>
      ⟨fun other => ?_, fun running => ?_⟩⟩
    · exact answers_of_work room rfl (markIn_standby mode)
    · exact answers_of_work room rfl (markIn_unnamed mode unnamed)
    · have named := markIn_named (c := holdPlace s.chip) (rating := rating)
        (k := ⟨ctx.toNat, Nat.lt_succ_of_le inRange⟩) mode rfl fits
      exact answers_of_work room rfl (named.trans (if_pos ((clipsFull_iff _).mpr full)))
    · have named := markIn_named (c := holdPlace s.chip) (rating := rating) mode number fits
      exact answers_of_work room rfl (named.trans ((if_neg (mt (clipsFull_iff _).mp space)).trans (if_pos other)))
    · have named := markIn_named (c := holdPlace s.chip) (rating := rating) mode number fits
      exact answers_of_work room rfl (named.trans
        ((if_neg (mt (clipsFull_iff _).mp space)).trans (if_neg (not_not_intro running))))
  · exact answers_of_work room rfl (markOut_standby mode)
  · exact answers_of_work room rfl (markOut_unmarked mode stack)
  · exact answers_of_work room rfl (markOut_marked (c := holdPlace s.chip) mode stack ((clipAt_fin _ i).trans held))

/-! ## SET_CLIP_MODE (R163) -/

section
variable {auto : Byte} {choices : Vector Byte 6}

theorem sixOnOff_named (named : ∀ k : Ctx, choices[k].toNat ≤ 1) :
    sixOnOff choices = some (Vector.ofFn fun k : Ctx => decide (choices[k].toNat = 1)) := by
  have all : choices.toList.all (fun b => (onOffOf b).isSome) = true := by
    refine List.all_eq_true.mpr fun b mem => ?_
    obtain ⟨k, inside, rfl⟩ := Vector.mem_iff_getElem.mp (Vector.mem_toList_iff.mp mem)
    rw [Option.isSome_iff_ne_none, Ne, onOffOf_none]
    exact Nat.not_lt_of_le (named ⟨k, inside⟩)
  rw [sixOnOff, if_pos all]
  refine congrArg some (Vector.ext fun k inside => ?_)
  have entry : (mapAll (fun b : Byte => b == 1#8) choices)[k] = (choices[k] == 1#8) :=
    mapAll_get _ choices ⟨k, inside⟩
  rw [entry, Vector.getElem_ofFn, Bool.eq_iff_iff, beq_iff_eq, decide_eq_true_iff]
  exact byte_eq_ofNat choices[k] (by decide)

theorem sixOnOff_unnamed {k : Ctx} (unnamed : 1 < choices[k].toNat) : sixOnOff choices = none := by
  refine if_neg fun all => ?_
  have named := List.all_eq_true.mp all choices[k] (Vector.mem_toList_iff.mpr (Vector.getElem_mem _))
  rw [onOffOf_none.mpr unnamed] at named
  cases named

theorem setClipMode_named (first : auto.toNat ≤ 1) (named : ∀ k : Ctx, choices[k].toNat ≤ 1) (c : Chip) :
    setClipMode auto choices c = ({ c with clips := { c.clips with
      autoSend := decide (auto.toNat = 1),
      autoClip := Vector.ofFn (fun k : Ctx => decide (choices[k].toNat = 1)) } }, reply .done) := by
  have on : onOffOf auto = some (decide (auto.toNat = 1)) := by
    rw [onOffOf_some]
    simp only [decide_eq_true_eq]
    split
    · assumption
    · omega
  rw [setClipMode, on, sixOnOff_named named]

theorem setClipMode_unnamed (unnamed : 1 < auto.toNat ∨ ∃ k : Ctx, 1 < choices[k].toNat) (c : Chip) :
    setClipMode auto choices c = refuse .refusedRange c := by
  unfold setClipMode
  split
  · rename_i first six
    obtain above | ⟨k, above⟩ := unnamed
    · cases first.symm.trans (onOffOf_none.mpr above)
    · cases six.symm.trans (sixOnOff_unnamed above)
  · rfl

end

/-! ## SET_FENCE (R171) -/

theorem isSettled_iff (e : Option Clip) :
    isSettled e = true ↔ ∃ x, e = some x ∧ (x.state = .delivered ∨ x.state = .void) := by
  cases e with
  | none => exact iff_of_false nofun nofun
  | some x => simp [isSettled]

/-- R171: every entry below a position is DELIVERED or VOID. -/
def SettledBelow (l : ClipLog) (n : Nat) : Prop :=
  ∀ i : Fin 128, i.val < n → ∃ x, l.table[i] = some x ∧ (x.state = .delivered ∨ x.state = .void)

theorem settledBelow_iff (l : ClipLog) (n : Nat) :
    (l.table.toList.take n).all isSettled = true ↔ SettledBelow l n := by
  simp only [List.all_eq_true, SettledBelow, ← isSettled_iff]
  constructor
  · refine fun all i below => all _ (List.mem_take_iff_getElem.mpr ⟨i.val, ?_, ?_⟩)
    · rw [Vector.length_toList]
      exact Nat.lt_min.mpr ⟨below, i.isLt⟩
    · exact Vector.getElem_toList _
  · intro settled e mem
    obtain ⟨j, inside, rfl⟩ := List.mem_take_iff_getElem.mp mem
    rw [Vector.length_toList] at inside
    obtain ⟨below, bound⟩ := Nat.lt_min.mp inside
    rw [Vector.getElem_toList]
    exact settled ⟨j, bound⟩ below

section
variable {position : Byte}

theorem setFence_past (past : 128 < position.toNat) : setFence position c = refuse .refusedRange c := if_pos past

theorem setFence_refused (inRange : position.toNat ≤ 128) (refused : position.toNat < c.clips.fence ∨
    c.clips.write < position.toNat ∨ ¬SettledBelow c.clips position.toNat) :
    setFence position c = refuse .refusedState c := by
  rw [setFence, if_neg (Nat.not_lt_of_le inRange)]
  split
  · rfl
  · rename_i between
    obtain ⟨least, most⟩ : c.clips.fence ≤ position.toNat ∧ position.toNat ≤ c.clips.write := by simpa using between
    have unsettled : ¬SettledBelow c.clips position.toNat := by
      obtain below | above | unsettled := refused
      · exact absurd below (Nat.not_lt_of_le least)
      · exact absurd above (Nat.not_lt_of_le most)
      · exact unsettled
    rw [← settledBelow_iff] at unsettled
    rw [Bool.eq_false_of_not_eq_true unsettled]
    rfl

theorem setFence_taken (inRange : position.toNat ≤ 128) (least : c.clips.fence ≤ position.toNat)
    (most : position.toNat ≤ c.clips.write) (settled : SettledBelow c.clips position.toNat) :
    setFence position c = ({ c with clips := { c.clips with fence := position.toNat } }, reply .done) := by
  have between : ¬(decide (position.toNat < c.clips.fence) || decide (c.clips.write < position.toNat)) = true := by
    simpa using ⟨least, most⟩
  rw [setFence, if_neg (Nat.not_lt_of_le inRange), if_neg between, (settledBelow_iff _ _).mpr settled]
  rfl

end

/-! ## CLEAR_CLIPS (R172) -/

/-- R172: some clip is OPEN, QUEUED or AWAITING. -/
def SomeInWork (l : ClipLog) : Prop :=
  ∃ i : Fin 128, ∃ x, l.table[i] = some x ∧ (x.state = .opened ∨ x.state = .queued ∨ x.state = .awaiting)

theorem inWork_iff (e : Option Clip) :
    inWork e = true ↔ ∃ x, e = some x ∧ (x.state = .opened ∨ x.state = .queued ∨ x.state = .awaiting) := by
  cases e with
  | none => exact iff_of_false nofun nofun
  | some x => simp [inWork, or_assoc]

theorem someInWork_iff (l : ClipLog) : l.table.toList.any inWork = true ↔ SomeInWork l := by
  simp only [List.any_eq_true, SomeInWork, ← inWork_iff]
  constructor
  · rintro ⟨e, mem, busy⟩
    obtain ⟨j, inside, rfl⟩ := Vector.mem_iff_getElem.mp (Vector.mem_toList_iff.mp mem)
    exact ⟨⟨j, inside⟩, busy⟩
  · rintro ⟨i, busy⟩
    exact ⟨_, Vector.mem_toList_iff.mpr (Vector.getElem_mem _), busy⟩

theorem clearClips_refused (busy : SomeInWork c.clips) : clearClips c = refuse .refusedState c :=
  if_pos ((someInWork_iff _).mpr busy)

theorem clearClips_taken (free : ¬SomeInWork c.clips) : clearClips c =
    ({ c with clips := { c.clips with table := Vector.replicate 128 none, write := 0, fence := 0 } }, reply .done) :=
  if_neg (mt (someInWork_iff _).mp free)

/-- Settles O49: the tests of SET_CLIP_MODE's bytes, and those of SET_FENCE and CLEAR_CLIPS on the table, entry by
entry. -/
theorem clipModeFenceAndClear : Obligations.ClipModeFenceAndClear := by
  unfold Obligations.ClipModeFenceAndClear
  intro tag auto position choices s room
  refine ⟨fun first named => ?_, fun unnamed => ?_, fun past => ?_, fun inRange refused => ?_,
    fun least most inRange settled => ?_, fun busy => ?_, fun free => ?_⟩
  · exact answers_of_work room rfl (setClipMode_named first named _)
  · exact answers_of_work room rfl (setClipMode_unnamed unnamed _)
  · exact answers_of_work room rfl (setFence_past past)
  · exact answers_of_work room rfl (setFence_refused (c := holdPlace s.chip) inRange refused)
  · exact answers_of_work room rfl (setFence_taken (c := holdPlace s.chip) inRange least most settled)
  · exact answers_of_work room rfl (clearClips_refused (c := holdPlace s.chip) busy)
  · exact answers_of_work room rfl (clearClips_taken (c := holdPlace s.chip) free)

/-! ## LABEL (R165) -/

section
variable {text : List Byte} {rating : Byte}

theorem relabelled_eq (x : Clip) (text : List Byte) (rating : Byte) :
    relabelled x text rating = { x with text := text, rating := within 0 5 rating.toNat } := by
  rw [relabelled, BudgetAndRate.clampNat_eq_within (Nat.zero_le 5)]

theorem replaceLabel_eq (f : LabelFrame) (c : Chip) : replaceLabel f c = { c with sched := { c.sched with
    labelQueue := c.sched.labelQueue.map (fun g => if g.clip = f.clip then f else g) } } := by
  simp only [replaceLabel, beq_iff_eq]

/-- R165: a CLOSED or QUEUED clip as LABEL leaves it: with LABEL_LOST its version raised and the flag cleared. -/
def keptClip (x : Clip) (text : List Byte) (rating : Byte) : Clip :=
  if x.labelLost then raised (relabelled x text rating) else relabelled x text rating

/-- R165: a LABELLED or DELIVERED clip as LABEL leaves it. -/
def reopenedClip (x : Clip) (text : List Byte) (rating : Byte) : Clip :=
  { relabelled x text rating with version := x.version + 1, state := .closed }

theorem labelClip_opened (opened : x.state = .opened) : labelClip i x text rating c =
    (putClip i (relabelled x text rating) c, doneReply (5 < rating.toNat)) := by
  simp only [labelClip, opened]

theorem labelClip_void (void : x.state = .void) : labelClip i x text rating c = refuse .refusedState c := by
  simp only [labelClip, void]

theorem labelClip_awaiting (awaiting : x.state = .awaiting) :
    labelClip i x text rating c = refuse .refusedBusy c := by
  simp only [labelClip, awaiting]

theorem labelClip_closed (closed : x.state = .closed) (raisable : x.labelLost = true → x.version ≠ 255#8) :
    labelClip i x text rating c = (putClip i (keptClip x text rating) c, doneReply (5 < rating.toNat)) := by
  simp only [labelClip, closed, keptClip]
  split
  · rename_i lost
    exact if_neg (raisable lost)
  · rfl

theorem labelClip_queued (queued : x.state = .queued) (raisable : x.labelLost = true → x.version ≠ 255#8) :
    labelClip i x text rating c =
      (replaceLabel (labelFrame i (keptClip x text rating)) (putClip i (keptClip x text rating) c),
       doneReply (5 < rating.toNat)) := by
  simp only [labelClip, queued, keptClip]
  split
  · rename_i lost
    exact if_neg (raisable lost)
  · rfl

theorem labelClip_reopened (state : x.state = .labelled ∨ x.state = .delivered) (raisable : x.version ≠ 255#8) :
    labelClip i x text rating c =
      (autoOffer i (reopenedClip x text rating) (putClip i (reopenedClip x text rating) c),
       doneReply (5 < rating.toNat)) := by
  obtain labelled | delivered := state
  · simp only [labelClip, labelled, if_neg raisable]
    rfl
  · simp only [labelClip, delivered, if_neg raisable]
    rfl

/-- R165: a version of 255 that would be raised. -/
theorem labelClip_unraisable (raises : x.labelLost = true ∧ (x.state = .closed ∨ x.state = .queued) ∨
    x.state = .labelled ∨ x.state = .delivered) (last : x.version = 255#8) :
    labelClip i x text rating c = refuse .refusedState c := by
  obtain ⟨lost, closed | queued⟩ | labelled | delivered := raises
  · simp only [labelClip, closed, if_pos lost, if_pos last]
  · simp only [labelClip, queued, if_pos lost, if_pos last]
  · simp only [labelClip, labelled, if_pos last]
  · simp only [labelClip, delivered, if_pos last]

variable {index : Byte} {i : Fin 128}

theorem not_past (number : i.val = index.toNat) : ¬127 < index.toNat :=
  Nat.not_lt_of_le (number ▸ Nat.le_of_lt_succ i.isLt)

theorem label_unnamed (unnamed : 127 < index.toNat ∨ 32 < text.length) :
    label index text rating c = refuse .refusedRange c := by
  unfold label
  split
  · rfl
  · rename_i inside
    exact if_pos (unnamed.resolve_left inside)

theorem label_fenced (number : i.val = index.toNat) (fits : text.length ≤ 32) (below : i.val < c.clips.fence) :
    label index text rating c = refuse .refusedFenced c := by
  rw [label, if_neg (not_past number), if_neg (Nat.not_lt_of_le fits), ← number, if_pos below]

theorem label_free (number : i.val = index.toNat) (fits : text.length ≤ 32) (above : c.clips.fence ≤ i.val)
    (free : c.clips.table[i] = none) : label index text rating c = refuse .refusedState c := by
  rw [label, if_neg (not_past number), if_neg (Nat.not_lt_of_le fits), ← number, if_neg (Nat.not_lt_of_le above),
    clipAt_fin, free]

theorem label_held (number : i.val = index.toNat) (fits : text.length ≤ 32) (above : c.clips.fence ≤ i.val)
    (held : c.clips.table[i] = some x) : label index text rating c = labelClip i.val x text rating c := by
  rw [label, if_neg (not_past number), if_neg (Nat.not_lt_of_le fits), ← number, if_neg (Nat.not_lt_of_le above),
    clipAt_fin, held]

end

/-- Settles O50: the range, the fence and the entry decide first, and then the clip's state. -/
theorem labelIsTakenByTheClipsState : Obligations.LabelIsTakenByTheClipsState := by
  unfold Obligations.LabelIsTakenByTheClipsState
  intro tag index rating text s room
  refine ⟨fun unnamed => answers_of_work room rfl (label_unnamed unnamed), fun i number fits =>
    ⟨fun below => answers_of_work room rfl (label_fenced number fits below),
      fun above free => answers_of_work room rfl (label_free (c := holdPlace s.chip) number fits above free),
      fun above x held => ?_⟩⟩
  intro edited raisedClip reopened raises kept done
  have taken : ∀ {f : Chip → Chip} {code : ResultCode},
      labelClip i.val x text rating (holdPlace s.chip) = (f (holdPlace s.chip), ⟨code, []⟩) →
      Answers (.label tag index text rating) s tag .label code [] f := fun work =>
    answers_of_work room rfl ((label_held (c := holdPlace s.chip) number fits above held).trans work)
  have edited_eq : relabelled x text rating = edited := relabelled_eq x text rating
  have kept_eq : keptClip x text rating = kept := by
    rw [keptClip, edited_eq]
    rfl
  have reopened_eq : reopenedClip x text rating = reopened := by
    rw [reopenedClip, edited_eq]
  have raises_iff : raises = true ↔ x.labelLost = true ∧ (x.state = .closed ∨ x.state = .queued) ∨
      x.state = .labelled ∨ x.state = .delivered := by
    simp [raises]
  refine ⟨fun void => taken (labelClip_void void), fun awaiting => taken (labelClip_awaiting awaiting),
    fun would last => taken (labelClip_unraisable (raises_iff.mp would) last),
    fun opened => taken ?_, fun closed raisable => taken ?_, fun queued raisable => taken ?_,
    fun state raisable => taken ?_⟩
  · rw [labelClip_opened opened, edited_eq]
    rfl
  · rw [labelClip_closed closed fun lost last => raisable ⟨raises_iff.mpr (.inl ⟨lost, .inl closed⟩), last⟩, kept_eq]
    rfl
  · rw [labelClip_queued queued fun lost last => raisable ⟨raises_iff.mpr (.inl ⟨lost, .inr queued⟩), last⟩, kept_eq,
      replaceLabel_eq]
    rfl
  · rw [labelClip_reopened state raisable, reopened_eq, autoOffer_eq]
    rfl

/-! ## SEND_LABEL and VOID_CLIP (R166, R170) -/

section
variable {index : Byte} {i : Fin 128}

/-- R166: SEND_LABEL of an entry in use, at or above the fence, by its state. -/
theorem sendLabel_held (number : i.val = index.toNat) (above : c.clips.fence ≤ i.val)
    (held : c.clips.table[i] = some x) : sendLabel index c =
      if x.state = .closed then (labelOffered i.val x c, reply (if labelRoom c.sched then .done else .refusedFull))
      else if x.state = .queued ∨ x.state = .awaiting then refuse .refusedBusy c
      else refuse .refusedState c := by
  rw [sendLabel, if_neg (not_past number), ← number, if_neg (Nat.not_lt_of_le above), clipAt_fin, held]
  dsimp only
  rw [offerLabel_eq]
  cases x.state
  all_goals rfl

/-- R170: VOID_CLIP of an entry in use, at or above the fence, by its state. -/
theorem voidClip_held (number : i.val = index.toNat) (above : c.clips.fence ≤ i.val)
    (held : c.clips.table[i] = some x) : voidClip index c =
      if x.state = .queued then (makeVoid i.val x (withdrawLabel i.val c), reply .done)
      else if x.state = .closed ∨ x.state = .labelled ∨ x.state = .delivered then (makeVoid i.val x c, reply .done)
      else if x.state = .awaiting then refuse .refusedBusy c
      else refuse .refusedState c := by
  rw [voidClip, if_neg (not_past number), ← number, if_neg (Nat.not_lt_of_le above), clipAt_fin, held]
  dsimp only
  cases x.state
  all_goals rfl

theorem sendLabel_past (past : 127 < index.toNat) : sendLabel index c = refuse .refusedRange c := if_pos past

theorem voidClip_past (past : 127 < index.toNat) : voidClip index c = refuse .refusedRange c := if_pos past

theorem sendLabel_fenced (number : i.val = index.toNat) (below : i.val < c.clips.fence) :
    sendLabel index c = refuse .refusedFenced c := by
  rw [sendLabel, if_neg (not_past number), if_pos (number ▸ below)]

theorem voidClip_fenced (number : i.val = index.toNat) (below : i.val < c.clips.fence) :
    voidClip index c = refuse .refusedFenced c := by
  rw [voidClip, if_neg (not_past number), if_pos (number ▸ below)]

theorem sendLabel_free (number : i.val = index.toNat) (above : c.clips.fence ≤ i.val)
    (free : c.clips.table[i] = none) : sendLabel index c = refuse .refusedState c := by
  rw [sendLabel, if_neg (not_past number), ← number, if_neg (Nat.not_lt_of_le above), clipAt_fin, free]

theorem voidClip_free (number : i.val = index.toNat) (above : c.clips.fence ≤ i.val)
    (free : c.clips.table[i] = none) : voidClip index c = refuse .refusedState c := by
  rw [voidClip, if_neg (not_past number), ← number, if_neg (Nat.not_lt_of_le above), clipAt_fin, free]

end

/-- Settles O51: the range, the fence and the entry decide first, and then the clip's state. -/
theorem sendLabelAndVoidClip : Obligations.SendLabelAndVoidClip := by
  unfold Obligations.SendLabelAndVoidClip
  intro tag index s room
  refine ⟨fun past => ⟨answers_of_work room rfl (sendLabel_past past), answers_of_work room rfl (voidClip_past past)⟩,
    fun i number => ⟨fun below => ⟨answers_of_work room rfl (sendLabel_fenced number below),
      answers_of_work room rfl (voidClip_fenced number below)⟩,
    fun above free => ⟨answers_of_work room rfl (sendLabel_free (c := holdPlace s.chip) number above free),
      answers_of_work room rfl (voidClip_free (c := holdPlace s.chip) number above free)⟩,
    fun above x held => ?_⟩⟩
  intro voided
  have send := sendLabel_held (c := holdPlace s.chip) number above held
  have void := voidClip_held (c := holdPlace s.chip) number above held
  refine ⟨fun closed => ?_, fun busy => ?_, fun other => ?_, fun idle => ?_, fun queued => ?_, fun awaiting => ?_,
    fun other => ?_⟩
  · refine answers_of_work room rfl (send.trans ((if_pos closed).trans ?_))
    simp only [labelRoom_iff]
    rfl
  · obtain state | state := busy
    all_goals exact answers_of_work room rfl (by rw [send, state]; rfl)
  · obtain state | state | state | state : x.state = .opened ∨ x.state = .labelled ∨ x.state = .delivered ∨
        x.state = .void := by simpa using other
    all_goals exact answers_of_work room rfl (by rw [send, state]; rfl)
  · obtain state | state | state : x.state = .closed ∨ x.state = .labelled ∨ x.state = .delivered := by simpa using idle
    all_goals exact answers_of_work room rfl (by rw [void, state]; rfl)
  · exact answers_of_work room rfl (by rw [void, queued]; rfl)
  · exact answers_of_work room rfl (by rw [void, awaiting]; rfl)
  · obtain state | state := other
    all_goals exact answers_of_work room rfl (by rw [void, state]; rfl)

end Sys2Proof.ClipCommands
end


section
/-! Control payloads (R175, R176, R187, R188): what a command's parameter bytes are read back as, and the framing of a
payload. -/

namespace Sys2Proof.ControlCells

open Sys2Proof.Machine Sys2Proof.Laws

/-! ## Destinations (R175, R187) -/

/-- R175, R187: what the control cell of any command can be addressed to. -/
theorem controlCell_statement (i : Instr) : ControlCell.Statement i := by
  cases i
  exacts [ControlCell.powerOnReset _, ControlCell.cellArrival _ _, ControlCell.referenceLoss,
    ControlCell.freeRunBoundary, ControlCell.blockTick, ControlCell.audioInputLost _, ControlCell.pictureDeadline _ _,
    ControlCell.ackWindowExpiry _, ControlCell.hailAnswerWindowExpiry, ControlCell.hailRetryGapExpiry,
    ControlCell.silenceExpiry, ControlCell.drainLimitExpiry, ControlCell.codingCompletion _,
    ControlCell.returnMessageArrival _, ControlCell.foSendCompletion, ControlCell.setRate _ _,
    ControlCell.loadSteer _ _ _ _, ControlCell.readSteer _ _ _ _, ControlCell.steerDefault _ _,
    ControlCell.swapSteer _, ControlCell.startContext _ _, ControlCell.stopContext _ _,
    ControlCell.setContext _ _ _ _ _ _ _ _ _ _, ControlCell.setReservoir _ _ _ _ _ _, ControlCell.loadCurve _ _ _,
    ControlCell.setBudget _ _, ControlCell.loadGain _ _ _ _, ControlCell.readGain _ _ _,
    ControlCell.setFader _ _ _ _, ControlCell.setAfv _ _ _ _ _, ControlCell.setSends _ _ _ _ _ _,
    ControlCell.setBus _ _ _ _ _, ControlCell.setAudioSend _ _, ControlCell.readMeters _, ControlCell.preset _ _ _,
    ControlCell.take _, ControlCell.cutTo _ _ _, ControlCell.setTally _ _ _, ControlCell.linkOpen _,
    ControlCell.handover _, ControlCell.linkClose _, ControlCell.setLink _ _ _ _ _ _, ControlCell.readLog _,
    ControlCell.markIn _ _ _ _, ControlCell.markOut _, ControlCell.setClipMode _ _ _, ControlCell.label _ _ _ _,
    ControlCell.sendLabel _ _, ControlCell.voidClip _ _, ControlCell.setFence _ _, ControlCell.clearClips _,
    ControlCell.readClip _ _, ControlCell.go _, ControlCell.standby _, ControlCell.resetUnit _,
    ControlCell.readStatus _ _ _, ControlCell.setNotices _ _, ControlCell.ackAttention _ _]

variable {i : Instr} {name : CommandName} {tag : Byte} {ps : List Byte}

/-- R187: the tag carried is the one the destination gives. -/
theorem tag_of_encodeParams (h : encodeParams i = some (name, tag, ps)) : tag = i.dest.tag :=
  (controlCell_statement i name tag ps h).1

/-- R187: the destination is read off the tag carried, once it is known whether the cell goes to ALL. -/
theorem dest_of_encodeParams (h : encodeParams i = some (name, tag, ps)) :
    (if i.dest = .all then Dest.all else .unit tag) = i.dest := by
  rw [tag_of_encodeParams h]
  cases i.dest <;> rfl

/-- R175: a command sent to ALL is one of the four that may be. -/
theorem mayBeGlobal_of_all (h : encodeParams i = some (name, tag, ps)) (all : i.dest = .all) :
    mayBeGlobal name = true := by
  by_contra addressed
  have unit := (controlCell_statement i name tag ps h).2 (Bool.eq_false_iff.mpr addressed)
  rw [all] at unit
  cases unit

/-! ## Values of several bytes (R188) -/

theorem u32_of_be32 (x : BitVec 32) :
    u32 (x.extractLsb' 24 8) (x.extractLsb' 16 8) (x.extractLsb' 8 8) (x.extractLsb' 0 8) = x := by
  apply BitVec.eq_of_toNat_eq
  have := x.isLt
  simp only [HomeLink.u32_toNat, BitVec.extractLsb'_toNat, Nat.shiftRight_eq_div_pow]
  omega

theorem readEntries_entryBytes (es : List SteerEntry) : readEntries (es.flatMap entryBytes) = some es := by
  induction es with
  | nil => rfl
  | cons e es ih =>
    simp only [List.flatMap_cons, entryBytes, be16, List.cons_append, List.nil_append, readEntries, ih, u16_of_be16]

theorem readHalves_be16 (es : List (BitVec 16)) : readHalves (es.flatMap be16) = some es := by
  induction es with
  | nil => rfl
  | cons e es ih => simp only [List.flatMap_cons, be16, List.cons_append, List.nil_append, readHalves, ih, u16_of_be16]

/-- R187, R188: a length of at most 255 is carried in one byte. -/
theorem toNat_lengthByte {n : Nat} (h : n ≤ 255) : (BitVec.ofNat 8 n).toNat = n := by
  rw [BitVec.toNat_ofNat, Nat.mod_eq_of_lt (by omega)]

/-- R188: a text of at most 255 bytes behind its length byte, with the rating after it. -/
theorem readTextRating_framed {text : List Byte} (h : textOk text = true) (rating : Byte) :
    readTextRating (BitVec.ofNat 8 text.length :: (text ++ [rating])) = some (text, rating) := by
  simp only [readTextRating, toNat_lengthByte (of_decide_eq_true h), List.drop_left, List.take_left]

/-! ## Parameters (R176, R188) -/

/-- R188: the parameter bytes of a well-formed command are read back as that command. -/
theorem decodeParams_encodeParams (wf : i.wellFormed = true) (h : encodeParams i = some (name, tag, ps)) :
    decodeParams name i.dest tag ps = some i := by
  cases i with
  | powerOnReset | cellArrival | referenceLoss | freeRunBoundary | blockTick | audioInputLost | pictureDeadline
  | ackWindowExpiry | hailAnswerWindowExpiry | hailRetryGapExpiry | silenceExpiry | drainLimitExpiry | codingCompletion
  | returnMessageArrival | foSendCompletion => cases h
  | loadSteer t f n es =>
    cases h
    have count : countOk n es.length = true := wf
    simp only [decodeParams, List.cons_append, List.nil_append, readEntries_entryBytes, count, if_true]
  | loadGain t f n es =>
    cases h
    have count : countOk n es.length = true := wf
    simp only [decodeParams, List.cons_append, List.nil_append, readHalves_be16, count, if_true]
  | loadCurve t k es =>
    cases h
    have length : (es.length == 33) = true := wf
    simp only [decodeParams, length, if_true]
  | setContext | setBudget | setBus | setTally | setLink | setNotices | ackAttention =>
    cases h
    simp only [decodeParams, be16, be32, List.cons_append, List.nil_append, u16_of_be16, u32_of_be32]
  | markIn t k text rating =>
    cases h
    simp only [decodeParams, List.cons_append, List.nil_append, readTextRating_framed wf]
  | label t k text rating =>
    cases h
    simp only [decodeParams, List.cons_append, List.nil_append, readTextRating_framed wf]
  | setClipMode t a cs =>
    cases h
    obtain ⟨⟨l⟩, six⟩ := cs
    match l, six with
    | [_, _, _, _, _, _], _ => rfl
  | _ => cases h; rfl

/-! ## Framing (R187) -/

/-- R187: tag, name and parameters are read back for every name of 1 to 255 bytes. -/
theorem readFrame_payload (tag : Byte) {name : List Byte} (params : List Byte) (pos : 1 ≤ name.length)
    (fits : name.length ≤ 255) :
    readFrame ([tag, BitVec.ofNat 8 name.length] ++ name ++ params) = some ⟨tag, name, params⟩ := by
  have length := toNat_lengthByte fits
  refine readFrame_framed _ _ _ _ length.symm fun zero => ?_
  have : name.length = 0 := by rw [← length, zero]; rfl
  omega

/-- R187: the control payload of a command is framed as its tag, its name and its parameters. -/
theorem readFrame_encodeControl {payload : List Byte} (h : encodeControl i = some payload) :
    ∃ name tag ps, encodeParams i = some (name, tag, ps) ∧ readFrame payload = some ⟨tag, nameBytes name, ps⟩ := by
  unfold encodeControl at h
  split at h
  · rename_i name tag ps params
    cases h
    obtain ⟨pos, fits⟩ := nameBytes_length name
    exact ⟨name, tag, ps, params, readFrame_payload tag ps pos (by omega)⟩
  · cases h

/-- Settles O9: the frame, the name and the destination are read back, and then the parameters. -/
theorem commandsEncodeAndDecode : Obligations.CommandsEncodeAndDecode := by
  unfold Obligations.CommandsEncodeAndDecode
  intro i payload wf h
  obtain ⟨name, tag, ps, params, framed⟩ := readFrame_encodeControl h
  simp only [decodeControl, framed, commandNamed_nameBytes, dest_of_encodeParams params]
  exact decodeParams_encodeParams wf params

end Sys2Proof.ControlCells
end


section
/-! The control port (R175, R176, R178, R180): what a command does as a row and as a cell, what a cell that is no command
of this unit does, the part modes and the attention commands. -/

namespace Sys2Proof.ControlCells

open Sys2Proof.Machine Sys2Proof.Claims Sys2Proof.VanFabric Sys2Proof.Clockwork

/-! ## Every row (R175) -/

/-- Settles O1: the queue is not empty, so its front is taken. -/
theorem stepRunsFrontCommand : Obligations.StepRunsFrontCommand := by
  unfold Obligations.StepRunsFrontCommand
  exact fun _ _ _ => rfl

/-- Settles O2: an event's row is its work on the part, and a command's row is what the command handed to its block
does. -/
theorem everyCommandEndsInANextState : Obligations.EveryCommandEndsInANextState := by
  unfold Obligations.EveryCommandEndsInANextState
  intro i s
  obtain event | command := eq_or_ne (encodeParams i) none
  · cases i with
    | powerOnReset | cellArrival | referenceLoss | freeRunBoundary | blockTick | audioInputLost | pictureDeadline
    | ackWindowExpiry | hailAnswerWindowExpiry | hailRetryGapExpiry | silenceExpiry | drainLimitExpiry
    | codingCompletion | returnMessageArrival | foSendCompletion => exact ⟨_, rfl⟩
    | _ => cases event
  · exact ⟨_, exec_command command s⟩

/-! ## Addressed commands (R175) -/

/-- R175: whatever the block that a command is addressed to, with 16 entries queued the command is discarded. -/
theorem runCommand_full {i : Instr} {c : Chip} (h : isAddressed i = true) (full : 16 ≤ c.port.report.length) :
    runCommand i c = { c with port := { c.port with queueFullDiscards := bump c.port.queueFullDiscards } } := by
  cases i with
  | powerOnReset | cellArrival | referenceLoss | freeRunBoundary | blockTick | audioInputLost | pictureDeadline
  | ackWindowExpiry | hailAnswerWindowExpiry | hailRetryGapExpiry | silenceExpiry | drainLimitExpiry | codingCompletion
  | returnMessageArrival | foSendCompletion => exact absurd h Bool.false_ne_true
  | swapSteer dest | preset dest | take dest | cutTo dest =>
    cases dest with
    | unit tag =>
      simp only [runCommand, partAfter, execSwapSteer, execPreset, execTake, execCutTo, State.onChip, swapSteer, preset,
        Machine.take, cutTo, takeCommand_full full]
    | all => exact absurd h Bool.false_ne_true
  | _ => exact takeCommand_full full

/-- An event is no command, and is not answered. -/
theorem encodeParams_of_isAddressed {i : Instr} (h : isAddressed i = true) : encodeParams i ≠ none := fun none => by
  rw [isAddressed, none] at h
  cases h

/-- Settles O5: every addressed command is taken by the control port, which discards it with 16 entries queued. -/
theorem fullReportQueueDiscardsCommand : Obligations.FullReportQueueDiscardsCommand := by
  unfold Obligations.FullReportQueueDiscardsCommand
  intro i s addressed full
  rw [Ends, exec_command (encodeParams_of_isAddressed addressed), runCommand_full addressed full]

/-! ## A control cell at the control port (R175, R176) -/

/-- R175: unit number 15 is ALL, and no part's own number. -/
theorem unit_ne_all (c : Chip) : (15#4).toNat ≠ c.unit.val := by
  have := c.unit.isLt
  simp
  omega

variable {unit : BitVec 4} {payload : List Byte} {fr : ControlFrame}

theorem controlCell_unreadable (read : readFrame payload = none) (unit : BitVec 4) (c : Chip) :
    controlCell unit payload c = { c with port := { c.port with malformed := bump c.port.malformed } } := by
  rw [controlCell, read]
  rfl

theorem controlCell_addressed (read : readFrame payload = some fr) {c : Chip} (own : unit.toNat = c.unit.val) :
    controlCell unit payload c = addressedCell fr c := by
  simp only [controlCell, read, if_pos own]

theorem controlCell_all (read : readFrame payload = some fr) (c : Chip) :
    controlCell 15#4 payload c = globalCell fr c := by
  simp only [controlCell, read, if_neg (unit_ne_all c), if_true]

theorem controlCell_otherUnit (read : readFrame payload = some fr) {c : Chip} (other : unit.toNat ≠ c.unit.val)
    (notAll : unit ≠ 15#4) :
    controlCell unit payload c = { c with port := { c.port with otherUnit := bump c.port.otherUnit } } := by
  simp only [controlCell, read, if_neg other, if_neg notAll]
  rfl

/-! ## A cell that carries a command (R176, R187) -/

/-- R187: the cell of a command of the catalogue, sent to this unit or, for a global one, to ALL, is handed to the
command's block. -/
theorem controlCell_encodeControl {i : Instr} (wf : i.wellFormed = true) (h : encodeControl i = some payload)
    (c : Chip) :
    controlCell (if i.dest = .all then 15#4 else BitVec.ofNat 4 c.unit.val) payload c = runCommand i c := by
  obtain ⟨name, tag, ps, params, framed⟩ := readFrame_encodeControl h
  have decoded := decodeParams_encodeParams wf params
  rw [← dest_of_encodeParams params] at decoded
  by_cases all : i.dest = .all
  · rw [if_pos all] at decoded ⊢
    have command : globalCommand ⟨tag, nameBytes name, ps⟩ = some i := by
      simp only [globalCommand, commandNamed_nameBytes, mayBeGlobal_of_all params all, if_true, decoded]
    rw [controlCell_all framed, globalCell, command]
  · rw [if_neg all] at decoded ⊢
    have own : (BitVec.ofNat 4 c.unit.val).toNat = c.unit.val := by
      have := c.unit.isLt
      rw [BitVec.toNat_ofNat, Nat.mod_eq_of_lt (by omega)]
    rw [controlCell_addressed framed own]
    simp only [addressedCell, commandNamed_nameBytes, decoded]

/-- Settles O10: the cell is read back, is passed to the control port, and its command handed to the block that the row
hands it to. -/
theorem commandCellRunsItsCommand : Obligations.CommandCellRunsItsCommand := by
  unfold Obligations.CommandCellRunsItsCommand
  intro i payload n x s wf encoded fits carried kind stream unit
  obtain ⟨name, tag, ps, params, -⟩ := readFrame_encodeControl encoded
  have verdict : laneVerdict x = .control := by
    rw [laneVerdict_of_kind (k := .control) kind, routeOf, if_pos stream]
  have command : encodeParams i ≠ none := by rw [params]; exact Option.some_ne_none _
  refine Eq.trans ?_ (exec_command command { s with chip := countAccepted n s.chip }).symm
  refine ends_cellArrival (readCell_cellBytes (carried ▸ fits)) n s ?_
  simp only [receiveCell, verdict, carried, unit]
  exact controlCell_encodeControl wf encoded (countAccepted n s.chip)

/-! ## A cell that carries none (R175, R176) -/

/-- R175: a payload that ends before its name does, or that has no name. -/
theorem readFrame_unreadable (h : payload.length < 2 ∨ (payload.getD 1 0).toNat = 0 ∨
    payload.length < 2 + (payload.getD 1 0).toNat) : readFrame payload = none := by
  match payload with
  | [] => rfl
  | [_] => rfl
  | tag :: n :: rest =>
    have length : (tag :: n :: rest).length = rest.length + 2 := rfl
    have second : (tag :: n :: rest).getD 1 0 = n := rfl
    rw [length, second] at h
    rw [readFrame]
    split
    · rfl
    · rename_i named
      have pos : n.toNat ≠ 0 := fun zero => named (BitVec.eq_of_toNat_eq zero)
      exact if_pos (by omega)

theorem mem_catalogue (n : CommandName) : n ∈ catalogue := by cases n <;> decide

/-- R187: a name answers to no command where it is none of the catalogue's. -/
theorem commandNamed_eq_none {name : List Byte} : commandNamed name = none ↔ ∀ m, nameBytes m ≠ name := by
  simp only [commandNamed, List.find?_eq_none, beq_iff_eq, mem_catalogue, true_implies, ne_eq]

theorem nameBytes_of_commandNamed {name : List Byte} {m : CommandName} (h : commandNamed name = some m) :
    nameBytes m = name := eq_of_beq (List.find?_some (p := fun n => nameBytes n == name) h)

theorem mayBeGlobal_iff {m : CommandName} :
    mayBeGlobal m = true ↔ m ∈ [CommandName.preset, .take, .cutTo, .swapSteer] := by
  cases m <;> decide

/-- R176: with room in the report queue a refused cell is answered and changes nothing else. -/
theorem takeAddressed_refuse (tag : Byte) (name : List Byte) (r : ResultCode) {c : Chip}
    (room : c.port.report.length < 16) :
    takeAddressed tag name (refuse r) c = placeAnswer tag name ⟨r, []⟩ (holdPlace c) :=
  if_neg (Nat.not_le_of_lt room)

/-- R175: of what is sent to ALL, a name that is none of the four, or parameters in another layout, is no command. -/
theorem globalCommand_eq_none {tag : Byte} {name params : List Byte}
    (h : ∀ m, nameBytes m = name →
      m ∉ [CommandName.preset, .take, .cutTo, .swapSteer] ∨ decodeParams m .all tag params = none) :
    globalCommand ⟨tag, name, params⟩ = none := by
  unfold globalCommand
  split
  · rename_i m named
    split
    · rename_i global
      exact (h m (nameBytes_of_commandNamed named)).resolve_left (not_not_intro (mayBeGlobal_iff.mp global))
    · rfl
  · rfl

/-- Settles O11: the framing decides first, then the unit number, then the name and the layout of its parameters. -/
theorem otherControlCellsAreCountedOrRefused : Obligations.OtherControlCellsAreCountedOrRefused := by
  unfold Obligations.OtherControlCellsAreCountedOrRefused
  intro unit payload c
  refine ⟨fun short => controlCell_unreadable (readFrame_unreadable short) unit c, ?_⟩
  rintro tag name params pos fits rfl
  have read := readFrame_payload tag params pos fits
  refine ⟨fun other notAll => controlCell_otherUnit read other fun all => notAll (by rw [all]; rfl),
    fun own room unknown => ?_, fun own room m named layout => ?_, fun all ignored => ?_⟩
  · rw [controlCell_addressed read own, addressedCell, commandNamed_eq_none.mpr unknown]
    exact takeAddressed_refuse _ _ _ room
  · subst named
    rw [controlCell_addressed read own]
    simp only [addressedCell, commandNamed_nameBytes, layout]
    exact takeAddressed_refuse _ _ _ room
  · obtain rfl : unit = 15#4 := BitVec.eq_of_toNat_eq all
    rw [controlCell_all read, globalCell, globalCommand_eq_none ignored]
    rfl

/-! ## Part modes (R97, R178) and attention (R180) -/

theorem allQuiet_iff {c : Chip} :
    allQuiet c = true ↔ c.link.state = .down ∧ ∀ k : Ctx, c.ctx[k].state = .stopped := by
  refine ⟨CodingRoom.allQuiet_stopped, fun ⟨down, stopped⟩ => Bool.and_eq_true_iff.mpr ⟨beq_iff_eq.mpr down, ?_⟩⟩
  refine List.all_eq_true.mpr fun x hx => beq_iff_eq.mpr ?_
  obtain ⟨k, inside, rfl⟩ := Vector.mem_iff_getElem.mp (Vector.mem_toList_iff.mp hx)
  exact stopped ⟨k, inside⟩

theorem goRun_standby {c : Chip} (h : c.port.mode = .standby) :
    goRun c = ({ c with port := { c.port with mode := .run } }, reply .done) := by
  rw [goRun, h]
  rfl

theorem goRun_run {c : Chip} (h : c.port.mode = .run) : goRun c = refuse .refusedState c := by
  rw [goRun, h]

theorem standBy_quiet {c : Chip} (h : allQuiet c = true) :
    standBy c = ({ c with port := { c.port with mode := .standby }, mixer := cleanStart c.mixer }, reply .done) :=
  if_pos h

theorem standBy_busy {c : Chip} (h : ¬allQuiet c = true) : standBy c = refuse .refusedState c := if_neg h

/-- R180: bit 15 of a class set is not read. -/
theorem attRead_eq (classes : BitVec 16) : attRead classes = BitVec.ofNat 16 (classes.toNat % 32768) := by
  apply BitVec.eq_of_toNat_eq
  have mask : classes.toNat &&& 32767 = classes.toNat % 32768 := Nat.and_two_pow_sub_one_eq_mod classes.toNat 15
  rw [attRead, BitVec.toNat_and, BitVec.toNat_ofNat, BitVec.toNat_ofNat, mask]
  omega

/-- Settles O6: GO by the mode, STANDBY by the link and the contexts, and the attention commands by their class set. -/
theorem goStandbyAndAttentionCommands : Obligations.GoStandbyAndAttentionCommands := by
  unfold Obligations.GoStandbyAndAttentionCommands
  intro tag classes s room
  refine ⟨fun standby => ?_, fun run => ?_, fun down stopped => ?_, fun busy => ?_, ?_, ?_⟩
  · exact answers_of_work room rfl (goRun_standby (c := holdPlace s.chip) standby)
  · exact answers_of_work room rfl (goRun_run (c := holdPlace s.chip) run)
  · exact answers_of_work room rfl (standBy_quiet (c := holdPlace s.chip) (allQuiet_iff.mpr ⟨down, stopped⟩))
  · refine answers_of_work room rfl (standBy_busy (c := holdPlace s.chip) fun quiet => ?_)
    obtain ⟨down, stopped⟩ := allQuiet_iff.mp quiet
    obtain linkUp | ⟨k, started⟩ := busy
    · exact linkUp down
    · exact started (stopped k)
  · refine answers_of_work room rfl ?_
    rw [setNotices, attRead_eq]
    rfl
  · refine answers_of_work room rfl ?_
    rw [ackAttention, attRead_eq]
    rfl

end Sys2Proof.ControlCells
end


section
/-! RESET_UNIT (R12, R111, R182): the OFF tally cells at the emptied output lane, and the blocks after it. -/

namespace Sys2Proof.UnitReset

open Sys2Proof.Machine Sys2Proof.Claims Sys2Proof.VanFabric Sys2Proof.Clockwork

/-! ## The OFF tally cells (R111) -/

/-- R111: the OFF tally cells of a list of contexts, those without a stream left out. -/
def offCells (l : List Ctx) (s : Selector) (t : Timecode) : List OutCell :=
  (l.filter (fun k => s.tallyStream[k] ≠ 0#12)).map (fun k =>
    ⟨.tally k, .tally, s.tallyStream[k], [BitVec.ofNat 8 k.val, 2#8] ++ timecodeBytes t, 0⟩)

/-- R111: a context's OFF tally cell offered, where it has a stream. -/
def offerOff (c : Chip) (k : Ctx) : Chip :=
  if c.sel.tallyStream[k] = 0#12 then c else offerTally k (tallyCell k 2#8 c) c

theorem offerTallyOff_eq (c : Chip) : offerTallyOff c = allCtx.foldl offerOff c := rfl

theorem tally_of_mem_offCells {x : OutCell} {l : List Ctx} {s : Selector} {t : Timecode} (h : x ∈ offCells l s t) :
    ∃ k, x.source = .tally k := by
  obtain ⟨k, -, rfl⟩ := List.mem_map.mp h
  exact ⟨k, rfl⟩

/-- R111: the context at the head of the list: without a stream it has no cell and nothing is offered, and with one its
cell is the first and joins the output queue, which has room. -/
theorem offerOff_cases (k : Ctx) (l : List Ctx) {c : Chip} (room : outCount c.out < 32) :
    (offCells (k :: l) c.sel c.time.timecode = offCells l c.sel c.time.timecode ∧ offerOff c k = c) ∨
      ∃ x, offCells (k :: l) c.sel c.time.timecode = x :: offCells l c.sel c.time.timecode ∧
        offerOff c k = joinOut x c := by
  by_cases noStream : c.sel.tallyStream[k] = 0#12
  · refine .inl ⟨?_, if_pos noStream⟩
    rw [offCells, List.filter_cons_of_neg (by simpa using noStream), offCells]
  · refine .inr ⟨tallyCell k 2#8 c, ?_, (if_neg noStream).trans (offerTally_room _ _ room)⟩
    rw [offCells, List.filter_cons_of_pos (by simpa using noStream), List.map_cons]
    rfl

/-- R11: while a cell is under way, a cell that joins the queue waits at its end. -/
theorem joinOut_busy (x : OutCell) {c : Chip} (busy : c.out.tx ≠ none) : joinOut x c = enqueued x c :=
  startFo_busy busy

/-- R12, R111: with a cell under way the OFF cells wait in the queue, in the order of their contexts. -/
theorem offerOff_foldl_busy (l : List Ctx) {c : Chip} (busy : c.out.tx ≠ none)
    (room : outCount c.out + l.length ≤ 32) : l.foldl offerOff c
      = { c with out := { c.out with queue := c.out.queue ++ offCells l c.sel c.time.timecode } } := by
  induction l generalizing c with
  | nil =>
    show c = { c with out := { c.out with queue := c.out.queue ++ [] } }
    rw [List.append_nil]
  | cons k l ih =>
    rw [List.length_cons] at room
    rw [List.foldl_cons]
    obtain ⟨cells, same⟩ | ⟨x, cells, joined⟩ := offerOff_cases k l (c := c) (by omega)
    · rw [same, cells, ih busy (by omega)]
    · rw [joined, cells, joinOut_busy x busy, ih (c := enqueued x c) busy (by rw [outCount_enqueued]; omega)]
      show { c with out := { c.out with
          queue := (c.out.queue ++ [x]) ++ offCells l c.sel c.time.timecode } } = _
      rw [List.append_assoc]
      rfl

/-- R11: what a start of transmission leaves does not depend on the queue that it takes the cell from. -/
theorem begun_enqueued (x : OutCell) (rest : List OutCell) (c : Chip) :
    begun x rest (enqueued x c) = begun x rest c := by
  cases h : x.source <;> simp [begun, sentBytes, enqueued, seqOf, setSeq, h]

/-- R11: the part with these cells offered to an empty output queue with FO idle: the first is under way, and the others
wait. -/
def firstBegun : List OutCell → Chip → Chip
  | [], c => c
  | x :: rest, c => begun x rest c

/-- R11, R111: with FO idle and nothing queued the first OFF cell begins at once, and the others wait behind it. -/
theorem offerOff_foldl_idle (l : List Ctx) {c : Chip} (idle : c.out.tx = none) (empty : c.out.queue = [])
    (few : l.length ≤ 31) : l.foldl offerOff c = firstBegun (offCells l c.sel c.time.timecode) c := by
  induction l with
  | nil => rfl
  | cons k l ih =>
    rw [List.length_cons] at few
    rw [List.foldl_cons]
    have count : outCount c.out = 0 := by rw [outCount_idle idle, empty]; rfl
    obtain ⟨cells, same⟩ | ⟨x, cells, joined⟩ := offerOff_cases k l (c := c) (by omega)
    · rw [same, cells, ih (by omega)]
    · have first : joinOut x c = begun x [] c := by
        have single : (enqueued x c).out.queue = [x] := by
          show c.out.queue ++ [x] = [x]
          rw [empty, List.nil_append]
        rw [joinOut_eq, startFo_single (c := enqueued x c) idle single, begun_enqueued]
      have one : outCount (begun x [] c).out = 1 := rfl
      rw [joined, cells, first, offerOff_foldl_busy l (c := begun x [] c) nofun (by omega)]
      rfl

theorem offerOff_foldl_frame (l : List Ctx) (c : Chip) :
    l.foldl offerOff c = { c with out := (l.foldl offerOff c).out, fo := (l.foldl offerOff c).fo } := by
  induction l generalizing c with
  | nil => rfl
  | cons k l ih =>
    rw [List.foldl_cons, ih (offerOff c k)]
    unfold offerOff
    split
    · rfl
    · rw [offerTally_frame]

/-! ## The output lane (R12) -/

/-- The start of a transmission reads the unit number, the output lane's counts and FO alone. -/
theorem begins_congr {x : OutCell} {rest : List OutCell} {b c d : Chip} (unit : b.unit = c.unit) (out : b.out = c.out)
    (fo : b.fo = c.fo) (h : Begins x rest b d) : Begins x rest c d := by
  simpa only [Begins, sentBytes, unit, out, fo] using h

/-- R12: with FO idle a unit reset leaves the output lane as power-on does. -/
theorem resetOut_idle {o : OutputLane} (idle : o.tx = none) : resetOut o = OutputLane.powerOn := by
  rw [resetOut, idle]
  rfl

theorem resetOut_busy {o : OutputLane} {t : TxCell} (busy : o.tx = some t) :
    resetOut o = { OutputLane.powerOn with tx := some { t with inQueue := false } } := by
  rw [resetOut, busy]
  rfl

/-- The OFF cells that a unit reset offers. -/
abbrev resetOffs (c : Chip) : List OutCell := offCells allCtx c.sel c.time.timecode

/-- R111: a unit reset keeps the tally streams, and R24 the timecode. -/
theorem offCells_resetBlocks (c : Chip) :
    offCells allCtx (resetBlocks c).sel (resetBlocks c).time.timecode = resetOffs c := rfl

/-- R12, R111: a cell under way takes no place of the emptied queue, where the OFF cells wait behind it. -/
theorem unitReset_busy {c : Chip} {t : TxCell} (busy : c.out.tx = some t) : unitReset c = { resetBlocks c with
    out := { OutputLane.powerOn with queue := resetOffs c, tx := some { t with inQueue := false } } } := by
  have out : (resetBlocks c).out = _ := resetOut_busy busy
  have count : outCount (resetBlocks c).out = 0 := by rw [out]; rfl
  rw [unitReset, offerTallyOff_eq, offerOff_foldl_busy _ (by rw [out]; nofun) (by rw [count]; decide), out,
    offCells_resetBlocks]
  rfl

/-- R11, R12, R111: with FO idle the first OFF cell begins at once. -/
theorem unitReset_idle {c : Chip} (idle : c.out.tx = none) :
    unitReset c = firstBegun (resetOffs c) (resetBlocks c) := by
  have out : (resetBlocks c).out = _ := resetOut_idle idle
  rw [unitReset, offerTallyOff_eq, offerOff_foldl_idle _ (by rw [out]; rfl) (by rw [out]; rfl) (by decide),
    offCells_resetBlocks]

/-- R12: of the output lane a unit reset leaves the queue, the cell in transmission and the tally cells' counts other
than power-on does, and nothing else. -/
theorem unitReset_out (c : Chip) : (unitReset c).out = { OutputLane.powerOn with
    queue := (unitReset c).out.queue, tx := (unitReset c).out.tx, seqTally := (unitReset c).out.seqTally } := by
  cases lane : c.out.tx with
  | some t => rw [unitReset_busy lane]
  | none =>
    have out : (resetBlocks c).out = _ := resetOut_idle lane
    rw [unitReset_idle lane]
    cases cells : resetOffs c with
    | nil => simp only [firstBegun, out]
    | cons x rest =>
      obtain ⟨k, tally⟩ := tally_of_mem_offCells (cells ▸ List.mem_cons_self : x ∈ resetOffs c)
      simp only [firstBegun, begun, tally, setSeq, out]

/-- R182: beside the output lane and FO a unit reset is every block's own part of it. -/
theorem unitReset_frame (c : Chip) :
    unitReset c = { resetBlocks c with out := (unitReset c).out, fo := (unitReset c).fo } :=
  offerOff_foldl_frame allCtx (resetBlocks c)

/-- A piece of the part that no OFF cell touches is what the blocks make of it. -/
theorem unitReset_field {α : Type} (field : Chip → α) (aside : ∀ c o f, field { c with out := o, fo := f } = field c)
    (c : Chip) : field (unitReset c) = field (resetBlocks c) := by
  rw [unitReset_frame, aside]

/-- Settles O14: the output lane by what FO does when the reset falls, and every other block by its own reset rule. -/
theorem resetUnitKeepsSettings : Obligations.ResetUnitKeepsSettings := by
  unfold Obligations.ResetUnitKeepsSettings
  intro tag s room
  have kept : ∀ {α : Type} (field : Chip → α), (∀ c o f, field { c with out := o, fo := f } = field c) →
      field (unitReset (holdPlace s.chip)) = field (resetBlocks (holdPlace s.chip)) :=
    fun field aside => unitReset_field field aside _
  refine ⟨unitReset (holdPlace s.chip), answers_of_work (f := unitReset) room rfl rfl,
    ⟨unitReset_out _, fun t busy => ?_, fun idle noStream => ?_, fun x rest idle cells => ?_⟩,
    kept (·.unit) fun _ _ _ => rfl, kept (·.ht) fun _ _ _ => rfl, kept (·.choices) fun _ _ _ => rfl,
    kept (·.port) fun _ _ _ => rfl, kept (·.time) fun _ _ _ => rfl, kept (·.lanes) fun _ _ _ => rfl,
    kept (·.steer) fun _ _ _ => rfl,
    fun k => ⟨(kept (·.ctx[k]) fun _ _ _ => rfl).trans (mapAll_get _ _ k),
      (kept (·.rate[k]) fun _ _ _ => rfl).trans (mapAll_get _ _ k)⟩,
    kept (·.engine) fun _ _ _ => rfl, kept (·.budget) fun _ _ _ => rfl,
    fun i => (kept (·.mixer.inputs[i]) fun _ _ _ => rfl).trans (mapAll_get _ _ i),
    fun b => (kept (·.mixer.buses[b]) fun _ _ _ => rfl).trans (mapAll_get _ _ b), ?_,
    kept (·.sel) fun _ _ _ => rfl, kept (·.link) fun _ _ _ => rfl, kept (·.sched) fun _ _ _ => rfl, ?_,
    fun k => (kept (·.acct.lowWater[k]) fun _ _ _ => rfl).trans (tabulate_get 6 _ k), ?_,
    fun i => (kept (·.clips.table[i]) fun _ _ _ => rfl).trans (tabulate_get 128 _ i)⟩
  · rw [unitReset_busy (c := holdPlace s.chip) busy]
    exact ⟨rfl, rfl⟩
  · have noCells : resetOffs (holdPlace s.chip) = [] := noStream
    rw [unitReset_idle (c := holdPlace s.chip) idle, noCells]
    exact ⟨resetOut_idle idle, rfl⟩
  · have first : resetOffs (holdPlace s.chip) = x :: rest := cells
    rw [unitReset_idle (c := holdPlace s.chip) idle, first]
    have begins : Begins x rest _ (firstBegun (x :: rest) (resetBlocks (holdPlace s.chip))) := begun_begins x rest _
    exact begins_congr (b := resetBlocks (holdPlace s.chip)) rfl (resetOut_idle idle) rfl begins
  · rw [kept (·.mixer) fun _ _ _ => rfl]
    rfl
  · rw [kept (·.acct) fun _ _ _ => rfl]
    rfl
  · rw [kept (·.clips) fun _ _ _ => rfl]
    rfl

end Sys2Proof.UnitReset
end
